-- ==== Sys2Proof/Word.lean ====
section
/-! DEFINITION. The plainest types of the PM4096: bytes, ADC codes, engine numbers and one-value-per-engine records. -/

namespace Sys2Proof

/-- One byte of a frame. -/
abbrev Byte := BitVec 8

/-- A signed ADC code, -8,388,608 to +8,388,607 (R108). -/
abbrev AdcCode := BitVec 24

/-- The four measurement engines. -/
inductive EngineId where
  | me0 | me1 | me2 | me3
deriving DecidableEq, Repr

/-- The number of an engine, 0 to 3. -/
def EngineId.index : EngineId → Nat
  | .me0 => 0
  | .me1 => 1
  | .me2 => 2
  | .me3 => 3

/-- The engine of a number, for 0 to 3. -/
def EngineId.ofNat? : Nat → Option EngineId
  | 0 => some .me0
  | 1 => some .me1
  | 2 => some .me2
  | 3 => some .me3
  | _ => none

/-- The engines in ascending order. -/
def EngineId.all : List EngineId := [.me0, .me1, .me2, .me3]

/-- One value for each engine. -/
structure PerEngine (α : Type) where
  me0 : α
  me1 : α
  me2 : α
  me3 : α
deriving DecidableEq, Repr

/-- The value of one engine. -/
def PerEngine.get {α : Type} (t : PerEngine α) : EngineId → α
  | .me0 => t.me0
  | .me1 => t.me1
  | .me2 => t.me2
  | .me3 => t.me3

/-- `t` with one engine's value replaced. -/
def PerEngine.set {α : Type} (t : PerEngine α) (e : EngineId) (v : α) : PerEngine α :=
  match e with
  | .me0 => { t with me0 := v }
  | .me1 => { t with me1 := v }
  | .me2 => { t with me2 := v }
  | .me3 => { t with me3 := v }

/-- The same value for every engine. -/
def PerEngine.const {α : Type} (v : α) : PerEngine α := ⟨v, v, v, v⟩

/-- Every engine's value mapped, each with its own number. -/
def PerEngine.mapIdx {α β : Type} (f : EngineId → α → β) (t : PerEngine α) : PerEngine β :=
  ⟨f .me0 t.me0, f .me1 t.me1, f .me2 t.me2, f .me3 t.me3⟩

end Sys2Proof
end

