-- ==== Sys2Proof/Config.lean ====
section
/-! DEFINITION. What the spec fixes once for the part (capacities and durations) and the model's free values. -/

namespace Sys2Proof

/-- Nails of the nail table (R1). -/
def Config.nails : Nat := 4096
/-- The highest net number (R2). -/
def Config.maxNet : Nat := 2047
/-- Nails a net may hold (R2). -/
def Config.nailsPerNet : Nat := 8
/-- Nails of one card. -/
def Config.nailsPerCard : Nat := 64
/-- Card positions (R72). -/
def Config.cards : Nat := 64
/-- Step slots (R36). -/
def Config.slots : Nat := 1024
/-- The most live slots (R36). -/
def Config.maxLive : Nat := 1023
/-- Guard templates (R32). -/
def Config.templates : Nat := 32
/-- Nets of one template (R32). -/
def Config.templateNets : Nat := 12
/-- Result records (R165). -/
def Config.records : Nat := 512
/-- Frames of the receive buffer (R184). -/
def Config.bufferFrames : Nat := 4
/-- Pairs after which a scan ends with LIMIT (R156). -/
def Config.pairLimit : Nat := 256
/-- The window maximum (R53). -/
def Config.windowMax : Nat := 8
/-- The revision reported by DESCRIBE and READY (R190, R193). -/
def Config.revision : Nat := 1

/-- Fixture line debounce, in ticks (R16, R101). -/
def Config.debounceTicks : Nat := 500000
/-- Identity read limit, in ticks (R18, R101). -/
def Config.identityTicks : Nat := 200000
/-- Inter-byte limit, in ticks (R182, R101). -/
def Config.interByteTicks : Nat := 100000
/-- Card acknowledgement timeout, in ticks, never lengthened (R83, R101). -/
def Config.ackTimeoutTicks : Nat := 4000
/-- Length of a card-link transaction, an ALL_OPEN or a query, in ticks: the link's own time (R74, R83, R93). -/
def Config.transactionTicks : Nat := 1200
/-- Relay close, in ticks (R73, R101). -/
def Config.closeTicks : Nat := 40000
/-- Relay open, in ticks (R73, R101). -/
def Config.openTicks : Nat := 25000
/-- Reference verification, in ticks, never lengthened (R98, R101). -/
def Config.verifyTicks : Nat := 100000
/-- Periods of the recovery oscillator without an edge at which a loss is detected (R97). -/
def Config.lossPeriods : Nat := 100
/-- The least length of an identity transfer of twelve bytes, in ticks from the dock event (R18). -/
def Config.transferTicks : Nat := 108000
/-- The length of its first byte, after which a plug that is not there is known, in ticks (R18). -/
def Config.transferByteTicks : Nat := 9000
/-- What the counter is advanced by at a loss in EXTERNAL (R97). -/
def Config.lossTicks : Nat := 100
/-- Ticks of one microsecond (conventions of 00_scope.md). -/
def Config.ticksPerMicro : Nat := 100
/-- Ticks one byte occupies on the message link, 5 µs (R188). -/
def Config.byteTicks : Nat := 500

/-- FREE VALUE (assumption log 3): which of several orders or of two events that fall together is taken,
where the spec gives the outcome of either and fixes none. Nothing constrains it. It is read with the
counter `Part.free`, so each use may differ. -/
opaque Config.freeChoice : Nat → Nat

end Sys2Proof
end

