-- ==== Sys2Proof/Syntax.lean ====
section
/-! DEFINITION. The commands of the PM4096: one constructor of `Instr` for each row of spec/opcode_table.json. -/

namespace Sys2Proof

/-- The two fixture lines (R16). -/
inductive FixtureLine where
  | fixturePresent | vacuumGood
deriving DecidableEq, Repr

/-- How the I2C transfer of the identity plug ended (R18). -/
inductive IdentityTransfer where
  /-- the plug did not acknowledge its address or the offset byte -/
  | notAcknowledged
  /-- the nine bytes read, in the order read -/
  | bytes (read : List Byte)
deriving DecidableEq, Repr

/-- The requests of section 11.2. -/
inductive RequestKind where
  | mapCursor | mapNails | mapRead | mapNetattr | mapIdentity | mapFreeze | mapClear | mapUnmark | fixtureQuery
  | stepWrite | stepRead | stepCommit | ringReset | templateWrite | templateRead
  | run | pause | resume | stop | status | directStep
  | relayQuery | engineClear | resultsRead | errlogRead | timeRead | describe | pace | partReset
deriving DecidableEq, Repr

/-- The commands. A request carries its request number and its body bytes as the frame carries them
(R186); an event carries what arrives with it from outside the part. -/
inductive Instr where
  | powerOn
  | frameReceived (byte : Byte)
  | interByteLimit
  | frameSent
  | badKindRequest (number kind : Byte) (body : List Byte)
  | mapCursor (number : Byte) (body : List Byte)
  | mapNails (number : Byte) (body : List Byte)
  | mapRead (number : Byte) (body : List Byte)
  | mapNetattr (number : Byte) (body : List Byte)
  | mapIdentity (number : Byte) (body : List Byte)
  | mapFreeze (number : Byte) (body : List Byte)
  | mapClear (number : Byte) (body : List Byte)
  | mapUnmark (number : Byte) (body : List Byte)
  | fixtureQuery (number : Byte) (body : List Byte)
  | stepWrite (number : Byte) (body : List Byte)
  | stepRead (number : Byte) (body : List Byte)
  | stepCommit (number : Byte) (body : List Byte)
  | ringReset (number : Byte) (body : List Byte)
  | templateWrite (number : Byte) (body : List Byte)
  | templateRead (number : Byte) (body : List Byte)
  | run (number : Byte) (body : List Byte)
  | pause (number : Byte) (body : List Byte)
  | resume (number : Byte) (body : List Byte)
  | stop (number : Byte) (body : List Byte)
  | status (number : Byte) (body : List Byte)
  | directStep (number : Byte) (body : List Byte)
  | relayQuery (number : Byte) (body : List Byte)
  | engineClear (number : Byte) (body : List Byte)
  | resultsRead (number : Byte) (body : List Byte)
  | errlogRead (number : Byte) (body : List Byte)
  | timeRead (number : Byte) (body : List Byte)
  | describe (number : Byte) (body : List Byte)
  | pace (number : Byte) (body : List Byte)
  | partReset (number : Byte) (body : List Byte)
  | rawLineChange (line : FixtureLine) (asserted : Bool)
  | debounceComplete (line : FixtureLine)
  | identityReadEnd (transfer : IdentityTransfer)
  | identityReadLimit
  | referenceEdge
  | referenceLoss
  | verificationComplete
  | enumerationQueryEnd (answered : Bool)
  | cardAcknowledgement
  | cardAckTimeout
  | relayMotionEnd (card : Nat)
  | allOpenEnd
  | holdExpiry (engine : EngineId)
  | sample (engine : EngineId) (sequence : Byte) (code : AdcCode)
  | sampleIntervalComplete (engine : EngineId)
  | sampleTimeout (engine : EngineId)
  | compliance (engine : EngineId)
  | thresholdCrossing (engine : EngineId)
  | settleComplete (engine : EngineId)
  | dischargeComplete (engine : EngineId) (alreadyCrossed : Bool)
  | rampLimit (engine : EngineId)
  | postDischargeComplete (engine : EngineId)
  | abortDischargeComplete (engine : EngineId)
  | replanRequest (engine : EngineId)
  | replanAnswer (engine : EngineId)
  | receivedByte (byte : Byte)
deriving DecidableEq, Repr

end Sys2Proof
end

