-- ==== Sys2Proof/Decode.lean ====
section
/-! DEFINITION. What a word or a message kind byte names. The rows of spec/opcode_table.json give no bits,
so no word spells a command; the message kinds of section 11.2 name the requests. -/

namespace Sys2Proof

/-- The command a word spells by the table's bits: the table gives bits for no row. -/
def decodeTableWord (_nbits _w : Nat) : Option Instr := none

/-- The request a message kind byte names (section 11.2); `none` for a kind that names no request. -/
def requestKindOf (code : Nat) : Option RequestKind :=
  match code with
  | 0x10 => some .mapCursor
  | 0x11 => some .mapNails
  | 0x12 => some .mapRead
  | 0x13 => some .mapNetattr
  | 0x14 => some .mapIdentity
  | 0x15 => some .mapFreeze
  | 0x16 => some .mapClear
  | 0x17 => some .mapUnmark
  | 0x18 => some .fixtureQuery
  | 0x20 => some .stepWrite
  | 0x21 => some .stepRead
  | 0x22 => some .stepCommit
  | 0x23 => some .ringReset
  | 0x24 => some .templateWrite
  | 0x25 => some .templateRead
  | 0x30 => some .run
  | 0x31 => some .pause
  | 0x32 => some .resume
  | 0x33 => some .stop
  | 0x34 => some .status
  | 0x35 => some .directStep
  | 0x40 => some .relayQuery
  | 0x41 => some .engineClear
  | 0x50 => some .resultsRead
  | 0x51 => some .errlogRead
  | 0x58 => some .timeRead
  | 0x60 => some .describe
  | 0x61 => some .pace
  | 0x62 => some .partReset
  | _ => none

/-- The message kind of a request (section 11.2). -/
def RequestKind.code : RequestKind → Byte
  | .mapCursor => 0x10
  | .mapNails => 0x11
  | .mapRead => 0x12
  | .mapNetattr => 0x13
  | .mapIdentity => 0x14
  | .mapFreeze => 0x15
  | .mapClear => 0x16
  | .mapUnmark => 0x17
  | .fixtureQuery => 0x18
  | .stepWrite => 0x20
  | .stepRead => 0x21
  | .stepCommit => 0x22
  | .ringReset => 0x23
  | .templateWrite => 0x24
  | .templateRead => 0x25
  | .run => 0x30
  | .pause => 0x31
  | .resume => 0x32
  | .stop => 0x33
  | .status => 0x34
  | .directStep => 0x35
  | .relayQuery => 0x40
  | .engineClear => 0x41
  | .resultsRead => 0x50
  | .errlogRead => 0x51
  | .timeRead => 0x58
  | .describe => 0x60
  | .pace => 0x61
  | .partReset => 0x62

/-- The body length of a request, in bytes; `none` for the two kinds whose length follows from a count
within the body and is judged by the owner (R186 step 4, section 11.2). -/
def RequestKind.bodyLength : RequestKind → Option Nat
  | .mapCursor => some 2
  | .mapNails => none
  | .mapRead => some 1
  | .mapNetattr => some 3
  | .mapIdentity => some 8
  | .mapFreeze => some 0
  | .mapClear => some 0
  | .mapUnmark => some 0
  | .fixtureQuery => some 0
  | .stepWrite => some 36
  | .stepRead => some 2
  | .stepCommit => some 2
  | .ringReset => some 0
  | .templateWrite => none
  | .templateRead => some 1
  | .run => some 0
  | .pause => some 0
  | .resume => some 0
  | .stop => some 0
  | .status => some 0
  | .directStep => some 34
  | .relayQuery => some 1
  | .engineClear => some 1
  | .resultsRead => some 1
  | .errlogRead => some 0
  | .timeRead => some 0
  | .describe => some 0
  | .pace => some 6
  | .partReset => some 0

end Sys2Proof
end

