-- ==== Sys2Proof/Machine/State.lean ====
section
/-! DEFINITION. The state of the part as plain data: one structure for each block of the manual, the frames
of the message link, the outcomes of a step, and the state after reset. Due times are ticks of the counter.
Views the manual derives from other state (a net's nail list, a card's assignment and target, the due list)
are computed in Machine/Ops.lean, Machine/Relay.lean and Machine/Waits.lean and held nowhere. -/

namespace Sys2Proof.Machine

/-! ### Step records (section 2.1) -/

/-- The measurement kinds (R23). -/
inductive StepKind where
  | res2 | res4 | diode | cap | scan
deriving DecidableEq, Repr

/-- A step record (R23, section 11.3). Numbers are numbers; what the layout gives as bits stays bits, so
that bytes of unused fields come back as sent (R194). -/
structure StepRecord where
  tag : Nat
  kind : StepKind
  /-- the guard template byte: 0 to 31, or 255 for absent -/
  template : Nat
  /-- high net, or the first net of a scan -/
  high : Nat
  /-- low net, or the last net of a scan -/
  low : Nat
  current : Nat
  gain : Nat
  aperture : Nat
  count : Nat
  settle : Nat
  discharge : Nat
  threshold : Nat
  rampLimit : Nat
  presence : Byte
  mask : Byte
  lowLimit : BitVec 32
  highLimit : BitVec 32
  flags : BitVec 16
deriving DecidableEq, Repr

/-- Verdicts (R141, section 11.6). -/
inductive Verdict where
  | pass | low | high | openCircuit | overrange | fault | aborted | fail | limit | short
deriving DecidableEq, Repr

/-- Causes (R166, R178); `stepFail` stands in the log only. -/
inductive Cause where
  | engineTimeout | cardFault | noEngine | noNail | fixtureRemoved | vacuumLost | stopped | stepFail
deriving DecidableEq, Repr

/-! ### Fixture Map (chapter 1) -/

/-- A nail's condition (R1). -/
inductive NailCondition where
  | good | suspect | disabled
deriving DecidableEq, Repr

/-- An entry of the nail table (R1). -/
structure NailEntry where
  net : Nat
  condition : NailCondition
deriving DecidableEq, Repr

/-- A net's attribute set (R2). -/
structure NetAttrs where
  scan : Bool
  tender : Bool
deriving DecidableEq, Repr

/-- The map state (R4). -/
inductive MapState where
  | editable | frozen
deriving DecidableEq, Repr

/-- The Fixture Map. `nails` and `attrs` are tables in canonical form: rising keys, no entry at its reset
value (net 0 and GOOD; no attribute). A net's nail list is the view `Part.nailsOf`. -/
structure FixtureMap where
  nails : List (Nat × NailEntry)
  attrs : List (Nat × NetAttrs)
  state : MapState
  cursor : Nat
  declared : Option (BitVec 64)
deriving DecidableEq, Repr

/-- The identity read state (R17, R18). -/
inductive IdentityRead where
  | absent | reading | known (value : BitVec 64) | unreadable
deriving DecidableEq, Repr

/-- One fixture line: its raw level, its debounced level and its pending change (R16). -/
structure LineFilter where
  raw : Bool
  level : Bool
  /-- the due time of the running debounce wait -/
  wait : Option Nat
deriving DecidableEq, Repr

/-- The fixture interlock (section 1.4). -/
structure Interlock where
  docked : Bool
  vacuum : Bool
  identity : IdentityRead
  /-- the tick at which the transfer of a READING identity began: the dock event's (R17, R18) -/
  readStart : Option Nat
  /-- the due time of the running identity read limit -/
  identityLimit : Option Nat
  presentLine : LineFilter
  vacuumLine : LineFilter
deriving DecidableEq, Repr

/-! ### Step Ring (chapter 2) -/

/-- A slot's state (section 2.4). -/
inductive SlotState where
  | empty | staged | pending | active | done
deriving DecidableEq, Repr

/-- A step slot. -/
structure Slot where
  state : SlotState
  record : Option StepRecord
deriving DecidableEq, Repr

/-- The Step Ring; `slots` is a table whose unlisted slots are EMPTY. -/
structure Ring where
  slots : List (Nat × Slot)
  head : Nat
  next : Nat
  commit : Nat
deriving DecidableEq, Repr

/-! ### Dispatcher (chapter 3) -/

/-- The sequencer states (R44). -/
inductive SeqState where
  | stopped | running | pausing | paused | drained | halted | stopping
deriving DecidableEq, Repr

/-- The nails of a measurement step, one for each role and one for each guard net in list order (R64). -/
structure Nails where
  sh : Nat
  kh : Nat
  sl : Nat
  kl : Nat
  guards : List Nat
deriving DecidableEq, Repr

/-- An entry of the in-flight table (R64). `origin` is the slot, or `none` for the direct step; `nails` is
`none` for a SCAN step. -/
structure Entry where
  origin : Option Nat
  record : StepRecord
  nets : List Nat
  guardNets : List Nat
  nails : Option Nails
  twoWire : Bool
  guardTrimmed : Bool
  retrying : Bool
  excluded : List Nat
  firstNails : Option Nails
deriving DecidableEq, Repr

/-- The direct-step flag when set: the record, and the abort cause once the step was ended while waiting
(R71). -/
structure DirectStep where
  record : StepRecord
  ended : Option Cause
deriving DecidableEq, Repr

/-- The Dispatcher. -/
structure Dispatcher where
  seq : SeqState
  window : Nat
  inFlight : PerEngine (Option Entry)
  direct : Option DirectStep
deriving DecidableEq, Repr

/-! ### Relay Sequencer (chapter 4) -/

/-- The five relay roles. -/
inductive Role where
  | sh | kh | sl | kl | g
deriving DecidableEq, Repr

/-- A (nail, role) pair, which names one role relay. -/
structure Pair where
  nail : Nat
  role : Role
deriving DecidableEq, Repr

/-- The condition of a relay that is not OPEN; OPEN is the absence of one (R72, R73). -/
inductive Motion where
  | closing (due : Nat)
  | closed
  | opening (due : Nat)
deriving DecidableEq, Repr

/-- A card's connection relay set: the engine it names, and its condition, `none` for OPEN (R72). -/
structure Connection where
  engine : Option EngineId
  motion : Option Motion
deriving DecidableEq, Repr

/-- Card status (R74). -/
inductive CardStatus where
  | absent | ready | failed
deriving DecidableEq, Repr

/-- One card of the relay image: `relays` lists its role relays that are not OPEN. Every relay of a FAILED
card reads UNKNOWN; the lists are then empty. -/
structure Card where
  status : CardStatus
  connection : Connection
  relays : List (Pair × Motion)
  operations : Nat
deriving DecidableEq, Repr

/-- A whole image of a card: a connection and the role relays to be closed (section 4.4). -/
structure Image where
  connection : Option EngineId
  closed : List Pair
deriving DecidableEq, Repr

/-- The stage of a queued update (R79, R95). -/
inductive Stage where
  | stageA | final
deriving DecidableEq, Repr

/-- An entry of the card update queue (R81). -/
structure QueuedUpdate where
  card : Nat
  image : Image
  stage : Stage
deriving DecidableEq, Repr

/-- What the card link carries. Each transaction holds its start tick; a start-up query holds its position
and the due time of the start-up opening (R74). -/
inductive CardLink where
  | idle
  | update (card : Nat) (image : Image) (start : Nat)
  | allOpen (start : Nat)
  | startupAllOpen (start : Nat)
  | query (position start openDue : Nat)
deriving DecidableEq, Repr

/-- An engine's plan state (R75). -/
inductive PlanState where
  | none | connecting | ready | releaseAtEnd
deriving DecidableEq, Repr

/-- What the Relay Sequencer holds for one engine. `quiet` says that the engine has reported entry to a
quiet phase and not yet its end (R84). -/
structure EnginePlan where
  state : PlanState
  wanted : List Pair
  held : List Pair
  hold : Option Nat
  quiet : Bool
deriving DecidableEq, Repr

/-- The Relay Sequencer. `cards` is a table whose unlisted positions are ABSENT with no operations. -/
structure Relay where
  cards : List (Nat × Card)
  queue : List QueuedUpdate
  link : CardLink
  allOpenPending : Bool
  plans : PerEngine EnginePlan
  /-- the hold limit, in µs -/
  holdLimit : Nat
  /-- the model's own: the tick of the last expiry of an acknowledgement's 40 µs (assumption log 20) -/
  expired : Option Nat
deriving DecidableEq, Repr

/-! ### Timebase (chapter 5) -/

/-- The reference state (R98). -/
inductive RefState where
  | recovery | verifying | external
deriving DecidableEq, Repr

/-- The state of a capture unit (R103). -/
inductive CaptureState where
  | disarmed | armed | captured
deriving DecidableEq, Repr

/-- A capture unit; a DISARMED unit keeps its last ticks and mark (R103). -/
structure Capture where
  state : CaptureState
  armTick : Option Nat
  captureTick : Option Nat
  degraded : Bool
deriving DecidableEq, Repr

/-- The Timebase. The due list is the view `Part.dueList`: each wait stands with its owner. -/
structure Timebase where
  tick : Nat
  ref : RefState
  lossCount : Nat
  verification : Option Nat
  /-- periods of the recovery oscillator since the last reference edge, while losses are looked for (R97) -/
  silent : Nat
  captures : PerEngine Capture
deriving DecidableEq, Repr

/-! ### Measurement engines (chapter 6) -/

/-- Engine state (R107). -/
inductive EngineState where
  | idle | active | faulted
deriving DecidableEq, Repr

/-- Phases (section 6.2). -/
inductive Phase where
  | connect | discharge | null | settle | integrate | ramp | postDischarge | abortDischarge | resultWait
deriving DecidableEq, Repr

/-- The work an engine holds: a step, or for a SCAN step the group tests of the Scanner. -/
structure Work where
  origin : Option Nat
  record : StepRecord
  nails : Option Nails
  twoWire : Bool
  guardTrimmed : Bool
deriving DecidableEq, Repr

/-- The re-plan of R119: none, requested of the Dispatcher, or answered and the answer not yet taken. -/
inductive Replan where
  | none | requested | declined | replanned
deriving DecidableEq, Repr

/-- What an engine has formed for its step before completion (section 7). -/
structure Formed where
  verdict : Verdict
  value : Option Int
deriving DecidableEq, Repr

/-- One measurement engine and its front-end port. -/
structure Engine where
  state : EngineState
  phase : Option Phase
  work : Option Work
  /-- effective current index, sample count N, served settle and discharge in µs (R130) -/
  effCurrent : Nat
  clamped : Bool
  n : Nat
  settle : Nat
  discharge : Nat
  /-- attempt RETRY in place of FIRST -/
  retry : Bool
  replan : Replan
  reuseMark : Bool
  readyMark : Bool
  nullSum : Int
  nullCount : Nat
  sampleSum : Int
  sampleCount : Nat
  clip : Bool
  /-- the sequence number of the last sample request -/
  sequence : Nat
  /-- the outstanding sample request -/
  request : Option Nat
  /-- the stimulus: OFF, or ON at a current index -/
  stimulus : Option Nat
  dischargePath : Bool
  /-- the abort taken, and whether a discharge is owed -/
  abort : Option (Cause × Bool)
  formed : Option Formed
  /-- the degraded mark of the capture taken -/
  timeDegraded : Bool
  /-- waiting for a still report (R111) -/
  stillWait : Bool
  /-- due time of the phase wait: settle, discharge or ramp limit -/
  phaseWait : Option Nat
  /-- due time of the sample interval -/
  interval : Option Nat
  /-- due time of the sample timeout -/
  timeout : Option Nat
  /-- the last threshold sent to the front end, in µV -/
  threshold : Option Nat
  /-- the quiet command stands: the front end's lines are parted (R108) -/
  parted : Bool
deriving DecidableEq, Repr

/-! ### Shorts Scanner (chapter 8) -/

/-- A member's state (R144). -/
inductive MemberState where
  | untested | probed | joined (probe : Nat)
deriving DecidableEq, Repr

/-- A member of the scan list. -/
structure Member where
  net : Nat
  state : MemberState
deriving DecidableEq, Repr

/-- Evidence: a resistance in mΩ and the lowered-index mark (R149). -/
structure Evidence where
  ohms : Int
  lowered : Bool
deriving DecidableEq, Repr

/-- A bisection stack entry: its run, and its evidence when KNOWN_SHORT (R150). -/
structure StackEntry where
  first : Nat
  last : Nat
  evidence : Option Evidence
deriving DecidableEq, Repr

/-- The purpose of a test in progress, with the entry it came from (R149, R153, R154). -/
inductive TestPurpose where
  | probe
  | lower (entry : StackEntry)
  | unknownEntry (entry : StackEntry)
deriving DecidableEq, Repr

/-- A test in progress: its probe position and its run of positions. -/
structure ScanTest where
  purpose : TestPurpose
  probe : Nat
  first : Nat
  last : Nat
  lowered : Bool
deriving DecidableEq, Repr

/-- The Scanner's states. -/
inductive ScannerState where
  | idle | testing | waitingSpace
deriving DecidableEq, Repr

/-- The scan under way: its origin, its engine and its record. -/
structure ScanInfo where
  origin : Option Nat
  engine : EngineId
  record : StepRecord
deriving DecidableEq, Repr

/-- The Shorts Scanner. -/
structure Scanner where
  state : ScannerState
  scan : Option ScanInfo
  members : List Member
  probe : Option Nat
  stack : List StackEntry
  test : Option ScanTest
  /-- the pending pair: the partner's position and its evidence -/
  pendingPair : Option (Nat × Evidence)
  pairs : Nat
  tests : Nat
  clampMark : Bool
  reuseMark : Bool
  planCards : List Nat
deriving DecidableEq, Repr

/-! ### Result Queue and Error Log (chapter 9) -/

/-- The record kinds (R165). -/
inductive RecordKind where
  | measurement | shortPair | scanSummary | direct
deriving DecidableEq, Repr

/-- The qualifiers (R166). -/
structure Qualifiers where
  clamped : Bool
  twoWire : Bool
  guardTrimmed : Bool
  retried : Bool
  timeDegraded : Bool
  relaysReused : Bool
deriving DecidableEq, Repr

/-- Bytes 16 to 31 of a record, by shape (R195). -/
inductive RecordShape where
  | measurement (value : Option Int) (nails : Option (Nat × Nat))
  | pair (probe partner : Nat) (evidence : Int)
  | summary (nets tests pairs : Nat)
deriving DecidableEq, Repr

/-- A result record (R166). -/
structure ResultRecord where
  kind : RecordKind
  slot : Option Nat
  tag : Nat
  stepKind : StepKind
  engine : Option EngineId
  verdict : Verdict
  cause : Option Cause
  qualifiers : Qualifiers
  shape : RecordShape
  /-- the low 48 bits of the tick of the append -/
  time : Nat
deriving DecidableEq, Repr

/-- The Result Queue. -/
structure ResultQueue where
  records : List ResultRecord
  reserved : Nat
  block : Nat
  blockNumber : Nat
deriving DecidableEq, Repr

/-- An error log record (R178). -/
structure ErrorRecord where
  cause : Cause
  slot : Option Nat
  tag : Option Nat
  engine : Option EngineId
  card : Option Nat
  net : Option Nat
  time : Nat
deriving DecidableEq, Repr

/-- The Error Log. -/
structure ErrorLog where
  record : Option ErrorRecord
  further : Nat
deriving DecidableEq, Repr

/-! ### The Message Link (chapter 10) -/

/-- Status codes (section 10.3). -/
inductive Status where
  | ok | badKind | badLength | badValue | badState | busy | slotLive | notStaged | ringFull | mapFrozen
  | mapNotFrozen | nailAbsent | netFull | notMapped | sameNet | fixtureAbsent | fixtureUnknown
  | identityMismatch | vacuumLow | logUnread | limitOrder
deriving DecidableEq, Repr

/-- A frame from the test host, as received. -/
structure InFrame where
  number : Byte
  kind : Byte
  body : List Byte
deriving DecidableEq, Repr

/-- The receiver state with the bytes of the frame so far (R181). -/
inductive Receiver where
  | hunt
  | length (first : Option Byte)
  | payload (len : Nat) (kept : List Byte)
  | check (kept : List Byte) (first : Option Byte)
deriving DecidableEq, Repr

/-- The request in progress. `resetWhenSent` marks a PART_RESET that was taken (R192). -/
structure RequestInProgress where
  number : Byte
  kind : Byte
  resetWhenSent : Bool
deriving DecidableEq, Repr

/-- The link mode (R187). -/
inductive LinkMode where
  | starting | serving
deriving DecidableEq, Repr

/-- The reset that began the start-up (R193). -/
inductive ResetCause where
  | powerOn | partReset
deriving DecidableEq, Repr

/-- The change a FIXTURE_NOTICE names (R22). -/
inductive FixtureChange where
  | dock | undock | identityRead | vacuumGood | vacuumLost
deriving DecidableEq, Repr

/-- A relay condition as reported (section 11.6). -/
inductive RelayReading where
  | openCircuit | closing | closed | opening | unknown
deriving DecidableEq, Repr

/-- A card's assignment (R75). -/
inductive Assignment where
  | unassigned | planned (engine : EngineId) | held (engine : EngineId)
deriving DecidableEq, Repr

/-- The interlock fields of FIXTURE_QUERY and FIXTURE_NOTICE (R22). -/
structure FixtureView where
  docked : Bool
  vacuum : Bool
  identity : IdentityRead
deriving DecidableEq, Repr

/-- The identity read state without its value, as STATUS and DESCRIBE report it (R52, R190). -/
inductive IdentityState where
  | absent | reading | known | unreadable
deriving DecidableEq, Repr

/-- Presence, vacuum and identity read state (R52, R190). -/
structure FixtureState where
  docked : Bool
  vacuum : Bool
  identity : IdentityState
deriving DecidableEq, Repr

/-- What STATUS reports of an engine (R52). -/
structure EngineView where
  state : EngineState
  phase : Option Phase
  slot : Option Nat
deriving DecidableEq, Repr

/-- The STATUS reply (R52). -/
structure StatusView where
  seq : SeqState
  window : Nat
  head : Nat
  next : Nat
  commit : Nat
  live : Nat
  engines : PerEngine EngineView
  directActive : Bool
  directEngine : Option EngineId
  stored : Nat
  reserved : Nat
  logHeld : Bool
  further : Nat
  mapState : MapState
  fixture : FixtureState
  ref : RefState
deriving DecidableEq, Repr

/-- What RELAY_QUERY reports of an engine (R95). -/
structure PlanView where
  state : PlanState
  heldPairs : Nat
  holdDue : Option Nat
deriving DecidableEq, Repr

/-- The RELAY_QUERY reply (R95). `relays` lists the 320 conditions, nail by nail in the order SH, KH, SL,
KL, G; empty for an ABSENT card. -/
structure RelayView where
  status : CardStatus
  operations : Option Nat
  assignment : Option Assignment
  connection : Option (Option EngineId × RelayReading)
  relays : List RelayReading
  queued : Option (Option Stage)
  plans : PerEngine PlanView
  holdLimit : Nat
deriving DecidableEq, Repr

/-- The DESCRIBE reply (R190). -/
structure DescribeView where
  revision : Nat
  nails : Nat
  present : List Nat
  engines : Nat
  ringSize : Nat
  queueSize : Nat
  windowMax : Nat
  templates : Nat
  kinds : List StepKind
  mapState : MapState
  fixture : FixtureState
  mode : LinkMode
  window : Nat
  holdLimit : Nat
  block : Nat
deriving DecidableEq, Repr

/-- The body of an OK reply, after its status byte. -/
inductive Reply where
  | done
  | nails (first : Nat) (entries : List NailEntry)
  | net (nails : List Nat) (attrs : NetAttrs)
  | frozen (mapped nets : Nat)
  | unmarked (count : Nat)
  | fixture (view : FixtureView) (declared : Option (BitVec 64)) (mapState : MapState)
  | slotWritten (slot : Nat)
  | slot (state : SlotState) (record : Option StepRecord) (head next commit : Nat)
  | committed (head next commit live : Nat)
  | template (nets : List Nat)
  | status (view : StatusView)
  | relay (view : RelayView)
  | results (records : List ResultRecord) (stored reserved : Nat)
  | errorLog (entry : Option (ErrorRecord × Nat))
  | time (tick : Nat) (ref : RefState) (lossCount : Nat)
  | describe (view : DescribeView)
  | settings (window holdLimit block : Nat)
deriving DecidableEq, Repr

/-- The block header's block reason (section 11.5). -/
inductive BlockReason where
  | full | remainder
deriving DecidableEq, Repr

/-- A RESULT_BLOCK (R171, R195). -/
structure ResultBlock where
  number : Nat
  reason : BlockReason
  stored : Nat
  reserved : Nat
  time : Nat
  seq : SeqState
  records : List ResultRecord
deriving DecidableEq, Repr

/-- The body of a notice (R175). -/
inductive Notice where
  | ready (cause : ResetCause) (revision : Nat) (present : List Nat) (tick : Nat)
  | seq (state : SeqState) (head next commit : Nat)
  | step (slot tag : Nat) (verdict : Verdict)
  | fixture (view : FixtureView) (change : FixtureChange)
  | reference (state : RefState) (tick lossCount : Nat)
  | card (position tick operations : Nat) (engine : Option EngineId)
  | direct (tag : Nat) (kind : StepKind) (engine : Option EngineId) (verdict : Verdict) (cause : Option Cause)
  | block (content : ResultBlock)
deriving DecidableEq, Repr

/-- A frame handed for sending: a reply carries its request's number and kind; a notice carries number 0
and its own kind (R185). -/
inductive OutFrame where
  | reply (number kind : Byte) (body : Reply)
  | refused (number kind : Byte) (status : Status) (detail : Option Nat)
  | notice (body : Notice)
deriving DecidableEq, Repr

/-- The Link Port. `sendStart` is the tick at which the frame at the front of the transmit list began. -/
structure LinkPort where
  receiver : Receiver
  interByte : Option Nat
  buffer : List InFrame
  inProgress : Option RequestInProgress
  transmit : List OutFrame
  sendStart : Option Nat
  mode : LinkMode
  blockCopy : Nat
  resetCause : ResetCause
deriving DecidableEq, Repr

/-! ### The whole part -/

/-- Every block of the part, and the model's own counter of free choices (assumption log 3). -/
structure Part where
  map : FixtureMap
  lock : Interlock
  templates : List (Nat × List Nat)
  ring : Ring
  disp : Dispatcher
  relay : Relay
  engines : PerEngine Engine
  scanner : Scanner
  time : Timebase
  queue : ResultQueue
  log : ErrorLog
  link : LinkPort
  free : Nat
deriving DecidableEq, Repr

/-- The state: the part, and the commands that wait, first in, first out. -/
structure State where
  part : Part
  pending : List Instr
deriving DecidableEq, Repr

/-- Why the machine stops with a fault: no command of this part does, so there is no reason. -/
inductive Fault : Type
deriving DecidableEq, Repr

/-- Why a command has no meaning. -/
inductive Refusal where
  /-- `exec` itself, for a command whose meaning is not written; safe: nothing is concluded of it. No arm
  answers with it. -/
  | notModelled (mnemonic : String)
deriving DecidableEq, Repr

/-! ### Reset -/

/-- An engine after reset (chapter 6's table); the quiet command has been sent (R128; assumption log 9). -/
def Engine.reset : Engine where
  state := .idle
  phase := none
  work := none
  effCurrent := 0
  clamped := false
  n := 0
  settle := 0
  discharge := 0
  retry := false
  replan := .none
  reuseMark := false
  readyMark := false
  nullSum := 0
  nullCount := 0
  sampleSum := 0
  sampleCount := 0
  clip := false
  sequence := 0
  request := none
  stimulus := none
  dischargePath := false
  abort := none
  formed := none
  timeDegraded := false
  stillWait := false
  phaseWait := none
  interval := none
  timeout := none
  threshold := none
  parted := true

/-- The Scanner after reset (R164). -/
def Scanner.reset : Scanner where
  state := .idle
  scan := none
  members := []
  probe := none
  stack := []
  test := none
  pendingPair := none
  pairs := 0
  tests := 0
  clampMark := false
  reuseMark := false
  planCards := []

/-- The Fixture Map's reset content (R1, R2, R4 to R6). -/
def FixtureMap.reset : FixtureMap := ⟨[], [], .editable, 0, none⟩

/-- The Step Ring emptied (R41, R43). -/
def Ring.reset : Ring := ⟨[], 0, 0, 0⟩

/-- The Relay Sequencer after reset: the card link carries the start-up ALL_OPEN (chapter 4's table). -/
def Relay.reset : Relay where
  cards := []
  queue := []
  link := .startupAllOpen 0
  allOpenPending := false
  plans := .const ⟨.none, [], [], none, false⟩
  holdLimit := 5000
  expired := none

/-- The part after power-on, with both raw fixture lines deasserted (assumption log 2), and the model's choices of
assumption log 9: the degraded mark of every capture unit clear, for which R103 gives no value, and the count of
oscillator periods without an edge 0, for which chapter 5 gives none. -/
def Part.fresh : Part where
  map := .reset
  lock := ⟨false, false, .absent, none, none, ⟨false, false, none⟩, ⟨false, false, none⟩⟩
  templates := []
  ring := .reset
  disp := ⟨.stopped, 8, .const none, none⟩
  relay := .reset
  engines := .const .reset
  scanner := .reset
  time := ⟨0, .recovery, 0, none, 0, .const ⟨.disarmed, none, none, false⟩⟩
  queue := ⟨[], 0, 0, 0⟩
  log := ⟨none, 0⟩
  link := ⟨.hunt, none, [], none, [], none, .starting, 0, .powerOn⟩
  free := 0

/-- The machine right after power-on reset, with no command waiting. -/
def State.reset : State := ⟨Part.fresh, []⟩

end Sys2Proof.Machine
end

