-- ==== Sys2Proof/Machine/Ops.lean ====
section
/-! DEFINITION. The named operations shared by every block: tables in canonical form, waits and their
lengths (chapter 5), views of the map and the ring, and the working record of one event with the frames it
hands (R175). -/

namespace Sys2Proof.Machine

/-! ### Tables -/

/-- The value a table holds at a key; an unlisted key holds `d`. -/
def lookup {α : Type} (d : α) : List (Nat × α) → Nat → α
  | [], _ => d
  | (k', v) :: rest, k => if k = k' then v else lookup d rest k

/-- The table with `v` at `k`: keys stay rising, and a value equal to `d` is not listed. -/
def store {α : Type} [DecidableEq α] (d : α) : List (Nat × α) → Nat → α → List (Nat × α)
  | [], k, v => if v = d then [] else [(k, v)]
  | (k', w) :: rest, k, v =>
    if k < k' then (if v = d then (k', w) :: rest else (k, v) :: (k', w) :: rest)
    else if k = k' then (if v = d then rest else (k, v) :: rest)
    else (k', w) :: store d rest k v

/-- Canonical form above a bound: keys rise from `lo`, and no entry equals `d`. -/
def tableFrom {α : Type} [DecidableEq α] (d : α) : Nat → List (Nat × α) → Bool
  | _, [] => true
  | lo, (k, v) :: rest => decide (lo ≤ k) && decide (v ≠ d) && tableFrom d (k + 1) rest

/-- The canonical form of a table. -/
def tableWf {α : Type} [DecidableEq α] (d : α) (t : List (Nat × α)) : Bool := tableFrom d 0 t

/-- What an unlisted nail reads as (R1). -/
def NailEntry.unlisted : NailEntry := ⟨0, .good⟩
/-- What an unlisted net's attribute set reads as (R2). -/
def NetAttrs.unlisted : NetAttrs := ⟨false, false⟩
/-- What an unlisted slot reads as (R43). -/
def Slot.unlisted : Slot := ⟨.empty, none⟩
/-- What an unlisted card position reads as: ABSENT (R74). -/
def Card.unlisted : Card := ⟨.absent, ⟨none, none⟩, [], 0⟩

/-! ### Waits (R100, R101) -/

/-- A nominal length lengthened by 17/16 and rounded up. -/
def lengthen (n : Nat) : Nat := (n * 17 + 15) / 16

/-- The length in ticks of a wait started now. -/
def Timebase.waitLength (t : Timebase) (nominal : Nat) : Nat :=
  if t.ref = .external then nominal else lengthen nominal

/-- The due time of a wait started now. -/
def Timebase.dueIn (t : Timebase) (nominal : Nat) : Nat := t.tick + t.waitLength nominal

/-- The due time of a wait started now. -/
def Part.dueIn (p : Part) (nominal : Nat) : Nat := p.time.dueIn nominal

/-- A duration in µs as ticks. -/
def micros (us : Nat) : Nat := us * Config.ticksPerMicro

/-- The counter at the first tick at or after a due time (R100; assumption log 4). -/
def Part.reach (p : Part) (due : Nat) : Part :=
  { p with time := { p.time with tick := max p.time.tick due } }

/-- The low 48 bits of the counter (R166). -/
def Part.time48 (p : Part) : Nat := p.time.tick % 2 ^ 48

/-! ### Views of the map -/

/-- The entry of a nail. -/
def Part.nail (p : Part) (n : Nat) : NailEntry := lookup .unlisted p.map.nails n

/-- A net's nail list, ascending: derived from the nail table (R2). -/
def Part.nailsOf (p : Part) (net : Nat) : List Nat :=
  if net = 0 then [] else (p.map.nails.filter (fun x => x.2.net == net)).map (·.1)

/-- A net's attribute set. -/
def Part.attrs (p : Part) (net : Nat) : NetAttrs := lookup .unlisted p.map.attrs net

/-- The card a nail is on. -/
def cardOf (nail : Nat) : Nat := nail / Config.nailsPerCard

/-- The card at a position. -/
def Part.card (p : Part) (c : Nat) : Card := lookup .unlisted p.relay.cards c

/-- A nail's entry replaced. -/
def Part.setNail (p : Part) (n : Nat) (v : NailEntry) : Part :=
  { p with map := { p.map with nails := store .unlisted p.map.nails n v } }

/-- The interlock fields as reported (R22). -/
def Part.fixtureView (p : Part) : FixtureView := ⟨p.lock.docked, p.lock.vacuum, p.lock.identity⟩

/-- The identity read state without its value. -/
def IdentityRead.state : IdentityRead → IdentityState
  | .absent => .absent
  | .reading => .reading
  | .known _ => .known
  | .unreadable => .unreadable

/-- Presence, vacuum and identity read state as reported (R52, R190). -/
def Part.fixtureState (p : Part) : FixtureState := ⟨p.lock.docked, p.lock.vacuum, p.lock.identity.state⟩

/-- The present card positions in ascending order: READY or FAILED (R74, R190). -/
def Part.presentCards (p : Part) : List Nat :=
  (List.range Config.cards).filter (fun c => decide ((p.card c).status ≠ .absent))

/-! ### The ring (section 2.4) -/

/-- A slot. -/
def Part.slot (p : Part) (i : Nat) : Slot := lookup .unlisted p.ring.slots i

/-- A template's net list (R32). -/
def Part.template (p : Part) (code : Nat) : List Nat := lookup [] p.templates code

/-- The live count (section 2.4). -/
def Ring.live (r : Ring) : Nat := (r.commit + Config.slots - r.head) % Config.slots

/-- The slot after a slot in ring order. -/
def ringNext (i : Nat) : Nat := (i + 1) % Config.slots

/-- A slot replaced. -/
def Ring.setSlot (r : Ring) (i : Nat) (v : Slot) : Ring :=
  { r with slots := store .unlisted r.slots i v }

/-- A slot's state changed, its record kept. -/
def Ring.setState (r : Ring) (i : Nat) (st : SlotState) : Ring :=
  r.setSlot i ⟨st, (lookup .unlisted r.slots i).record⟩

/-- The state of a slot. -/
def Ring.stateOf (r : Ring) (i : Nat) : SlotState := (lookup .unlisted r.slots i).state

/-- The first slot from `i` to COMMIT, in ring order, that is PENDING, or COMMIT (R36). -/
def Ring.seekPending (r : Ring) : Nat → Nat → Nat
  | 0, _ => r.commit
  | fuel + 1, i =>
    if i = r.commit then r.commit
    else if r.stateOf i = .pending then i
    else r.seekPending fuel (ringNext i)

/-- NEXT moved on when its slot has left PENDING (R36). -/
def Ring.advanceNext (r : Ring) : Ring := { r with next := r.seekPending Config.slots r.next }

/-- Retirement: DONE slots from HEAD become EMPTY (R40). -/
def Ring.retireFrom : Nat → Ring → Ring
  | 0, r => r
  | fuel + 1, r =>
    if r.head = r.commit then r
    else if r.stateOf r.head = .done then
      Ring.retireFrom fuel { r.setSlot r.head .unlisted with head := ringNext r.head }
    else r

/-- One retirement sweep. -/
def Ring.retire (r : Ring) : Ring := r.retireFrom Config.slots

/-- The slots from `i`, `k` of them, in ring order. -/
def ringRun (i k : Nat) : List Nat := (List.range k).map (fun j => (i + j) % Config.slots)

/-- The live slots in ring order. -/
def Ring.liveSlots (r : Ring) : List Nat := ringRun r.head r.live

/-- The PENDING slots in ring order, oldest first. -/
def Ring.pendingSlots (r : Ring) : List Nat :=
  (ringRun r.next ((r.commit + Config.slots - r.next) % Config.slots)).filter
    (fun i => decide (r.stateOf i = .pending))

/-- Whether a slot is live. -/
def Ring.isLive (r : Ring) (i : Nat) : Bool := (i + Config.slots - r.head) % Config.slots < r.live

/-! ### One event -/

/-- What the Dispatcher is told when a step completes (R65). -/
structure Completion where
  engine : EngineId
  origin : Option Nat
  record : StepRecord
  verdict : Verdict
  cause : Option Cause
  card : Option Nat
deriving DecidableEq, Repr

/-- The part in the middle of one event: the frames handed so far by class of R175 (with those of rules
that stand outside its list first and last), the completions not yet taken by the Dispatcher, and what the
event has yet to do. None of this outlives the event. -/
structure Ev where
  p : Part
  first : List OutFrame
  replies : List OutFrame
  blocks : List OutFrame
  steps : List OutFrame
  remainders : List OutFrame
  entries : List OutFrame
  last : List OutFrame
  completions : List Completion
  askEvaluate : Bool
  askRemoval : Bool
  askRemainder : Bool
deriving DecidableEq, Repr

/-- An event begins. -/
def Ev.start (p : Part) : Ev := ⟨p, [], [], [], [], [], [], [], [], false, false, false⟩

/-- The event's part changed. -/
def Ev.map (f : Part → Part) (v : Ev) : Ev := { v with p := f v.p }

/-- The frames of the event in the order they are handed (R175). -/
def Ev.frames (v : Ev) : List OutFrame :=
  v.first ++ v.replies ++ v.blocks ++ v.steps ++ v.remainders ++ v.entries ++ v.last

/-- Frames handed to the Link Port: they join the transmit list, and a first frame begins at once (R188). -/
def Part.hand (p : Part) (fs : List OutFrame) : Part :=
  if fs = [] then p
  else { p with link := { p.link with
    transmit := p.link.transmit ++ fs
    sendStart := if p.link.transmit = [] then some p.time.tick else p.link.sendStart } }

/-- The next free choice among `n` possibilities (assumption log 3), and the part after it. -/
def Part.choose (p : Part) (n : Nat) : Nat × Part :=
  (Config.freeChoice p.free % n, { p with free := p.free + 1 })

/-- An order of a list that the spec leaves open: each next item is freely chosen. A list of at most one
item has one order and uses no choice. -/
def freeOrderAux {α : Type} : Nat → Part → List α → List α × Part
  | 0, p, l => (l, p)
  | _ + 1, p, [] => ([], p)
  | _ + 1, p, [a] => ([a], p)
  | fuel + 1, p, l@(a :: _) =>
    let (k, p) := p.choose l.length
    let (rest, p) := freeOrderAux fuel p (l.eraseIdx k)
    (l.getD k a :: rest, p)

/-- `freeOrderAux` with fuel enough for the list. -/
def freeOrder {α : Type} (p : Part) (l : List α) : List α × Part := freeOrderAux l.length p l

/-! ### The engines and plans of an event -/

/-- One engine. -/
def Part.engine (p : Part) (e : EngineId) : Engine := p.engines.get e

/-- One engine replaced. -/
def Part.setEngine (p : Part) (e : EngineId) (g : Engine) : Part := { p with engines := p.engines.set e g }

/-- What the Relay Sequencer holds for one engine. -/
def Part.plan (p : Part) (e : EngineId) : EnginePlan := p.relay.plans.get e

/-- That, replaced. -/
def Part.setPlan (p : Part) (e : EngineId) (g : EnginePlan) : Part :=
  { p with relay := { p.relay with plans := p.relay.plans.set e g } }

/-- One in-flight entry replaced. -/
def Part.setEntry (p : Part) (e : EngineId) (x : Option Entry) : Part :=
  { p with disp := { p.disp with inFlight := p.disp.inFlight.set e x } }

/-- A capture unit replaced. -/
def Part.setCapture (p : Part) (e : EngineId) (c : Capture) : Part :=
  { p with time := { p.time with captures := p.time.captures.set e c } }

/-- The steps in flight, in engine order. -/
def Part.inFlight (p : Part) : List Entry := EngineId.all.filterMap p.disp.inFlight.get

/-- Whether a ring step is in flight. -/
def Part.ringInFlight (p : Part) : Bool := p.inFlight.any (fun x => x.origin.isSome)

/-- The engine a dispatched direct step runs on. -/
def Part.directEngine (p : Part) : Option EngineId :=
  EngineId.all.find? (fun e => match p.disp.inFlight.get e with
    | some x => x.origin.isNone
    | none => false)

/-! ### The Result Queue (section 9.1) -/

/-- Whether a record is free (R165). -/
def Part.recordFree (p : Part) : Bool := p.queue.records.length + p.queue.reserved < Config.records

/-- A reservation taken (R167). -/
def Part.reserve (p : Part) : Part := { p with queue := { p.queue with reserved := p.queue.reserved + 1 } }

/-- A block of the oldest `n` records removed from the queue (R171, R195). -/
def Part.takeBlock (p : Part) (n : Nat) (reason : BlockReason) : ResultBlock × Part :=
  let q := p.queue
  let rest := q.records.drop n
  (⟨q.blockNumber, reason, rest.length, q.reserved, p.time48, p.disp.seq, q.records.take n⟩,
   { p with queue := { q with records := rest, blockNumber := (q.blockNumber + 1) % 65536 } })

/-- Full blocks formed while the stored count is B or more (R171). Each removal is reported (R169). -/
def Ev.formBlocks : Nat → Ev → Ev
  | 0, v => v
  | fuel + 1, v =>
    if v.p.queue.block ≠ 0 ∧ v.p.queue.block ≤ v.p.queue.records.length then
      let (b, p) := v.p.takeBlock v.p.queue.block .full
      Ev.formBlocks fuel { v with p := p, blocks := v.blocks ++ [.notice (.block b)],
                                  askEvaluate := true, askRemoval := true }
    else v

/-- A record placed at the back of the list with its completion time, then the check for a block (R168). -/
def Ev.append (v : Ev) (r : ResultRecord) : Ev :=
  let q := v.p.queue
  Ev.formBlocks (q.records.length + 1)
    { v with p := { v.p with queue := { q with records := q.records ++ [{ r with time := v.p.time48 }] } } }

/-- A final record appended into its step's reservation (R167, R168). -/
def Ev.appendFinal (v : Ev) (r : ResultRecord) : Ev :=
  Ev.append (v.map fun p => { p with queue := { p.queue with reserved := p.queue.reserved - 1 } }) r

/-- The remainder block of a remainder point, when B is not 0 and records stand (R172). -/
def Ev.handRemainder (v : Ev) : Ev :=
  if v.p.queue.block ≠ 0 ∧ v.p.queue.records ≠ [] then
    let (b, p) := v.p.takeBlock v.p.queue.records.length .remainder
    { v with p := p, remainders := v.remainders ++ [.notice (.block b)], askRemainder := false,
             askEvaluate := true, askRemoval := true }
  else { v with askRemainder := false }

/-! ### The sequencer and the Error Log -/

/-- Whether entry to a state sends a SEQ_NOTICE (R44) and is a remainder point (R172). -/
def SeqState.announced : SeqState → Bool
  | .drained => true
  | .paused => true
  | .halted => true
  | .stopped => true
  | .running => false
  | .pausing => false
  | .stopping => false

/-- The sequencer enters a state. -/
def Ev.enterSeq (v : Ev) (st : SeqState) : Ev :=
  let p := { v.p with disp := { v.p.disp with seq := st } }
  if st.announced then
    { v with p := p, askRemainder := true,
             entries := v.entries ++ [.notice (.seq st p.ring.head p.ring.next p.ring.commit)] }
  else { v with p := p }

/-- The log takes an error: an empty log writes the record, a log that holds one counts (R178). -/
def ErrorLog.take (l : ErrorLog) (r : ErrorRecord) : ErrorLog :=
  match l.record with
  | none => ⟨some r, 0⟩
  | some old => ⟨some old, min 255 (l.further + 1)⟩

/-- A halting error by sequencer state (R68); the record's time is the tick of the event. -/
def Ev.haltingError (v : Ev) (r : ErrorRecord) : Ev :=
  let logged := v.map fun p => { p with log := p.log.take { r with time := p.time48 } }
  match v.p.disp.seq with
  | .running => logged.enterSeq .halted
  | .pausing => logged.enterSeq .halted
  | .halted => logged
  | .stopped => v
  | .paused => v
  | .drained => v
  | .stopping => v

/-- A SEQ-independent notice put in the class of those handed first. -/
def Ev.noteFirst (v : Ev) (n : Notice) : Ev := { v with first := v.first ++ [.notice n] }

/-- A notice put in the class of those handed last. -/
def Ev.noteLast (v : Ev) (n : Notice) : Ev := { v with last := v.last ++ [.notice n] }

/-- The reply of the request in progress. -/
def Ev.reply (v : Ev) (body : Reply) : Ev :=
  match v.p.link.inProgress with
  | some q => { v with replies := v.replies ++ [.reply q.number q.kind body] }
  | none => v

/-- The refusal of the request in progress, with the detail its rule names (R189). -/
def Ev.refuse (v : Ev) (st : Status) (detail : Option Nat := none) : Ev :=
  match v.p.link.inProgress with
  | some q => { v with replies := v.replies ++ [.refused q.number q.kind st detail] }
  | none => v

end Sys2Proof.Machine
end

