-- ==== Sys2Proof/Machine/Flags.lean ====
section
/-! DEFINITION. The measurement arithmetic (chapter 7): effective parameters, values, verdicts, and what a
verdict counts as. -/

namespace Sys2Proof.Machine

/-- Division by a positive divisor, rounded half away from zero (R129). -/
def divHalfAway (a : Int) (b : Nat) : Int :=
  let q : Nat := (a.natAbs * 2 + b) / (2 * b)
  if 0 ≤ a then (q : Int) else -(q : Int)

/-- Division rounded half up, for unsigned quantities (R129). -/
def divHalfUp (a b : Nat) : Nat := (a * 2 + b) / (2 * b)

/-- The stimulus current of an index, in nA (R130). -/
def currentNA : Nat → Nat
  | 0 => 1000
  | 1 => 10000
  | 2 => 100000
  | 3 => 1000000
  | _ => 10000000

/-- The LSB of a gain index, in pV per code (R130). -/
def lsbPV : Nat → Nat
  | 0 => 250000
  | 1 => 25000
  | _ => 2500

/-- The aperture of a code, in µs (R130). -/
def apertureMicros : Nat → Nat
  | 0 => 20
  | 1 => 50
  | 2 => 100
  | 3 => 500
  | 4 => 2000
  | _ => 20000

/-- The sample count N: the field, or 256 for 0 (R130). -/
def sampleN (count : Nat) : Nat := if count = 0 then 256 else count

/-- The settle served, in µs (R27). -/
def servedSettle (settle : Nat) : Nat := max settle 20

/-- The discharge served, in µs (R27). -/
def servedDischarge (discharge : Nat) : Nat := max discharge 100

/-- The effective current index for the nets of a measurement, and whether the TENDER cap lowered it (R131). -/
def Part.effectiveCurrent (p : Part) (index : Nat) (nets : List Nat) : Nat × Bool :=
  if 2 < index ∧ nets.any (fun n => (p.attrs n).tender) then (2, true) else (index, false)

/-- The clip codes (R112). -/
def isClip (code : Int) : Bool := code = -8388608 ∨ code = 8388607

/-- The null value from the null accumulator; 0 where no null was taken (R132). -/
def nullValue (sum : Int) (count : Nat) : Int := if count = 0 then 0 else divHalfAway sum 4

/-- A RES value in mΩ from a difference (R135). -/
def resistance (d : Int) (gain current : Nat) : Int := divHalfAway (d * lsbPV gain) (currentNA current)

/-- A DIODE value in µV from a difference (R136). -/
def diodeVoltage (d : Int) (gain : Nat) : Int := divHalfAway (d * lsbPV gain) 1000000

/-- A capacitance in pF from a ramp time in ticks and a threshold in µV (R138). -/
def capacitance (current t threshold : Nat) : Nat := divHalfUp (currentNA current * t * 10) threshold

/-- A limit as the kind reads its four bytes (R194). -/
def limitOf (k : StepKind) (raw : BitVec 32) : Int :=
  if k = .cap then (raw.toNat : Int) else raw.toInt

/-- The verdict of a present value (R139). -/
def judgeLimits (r : StepRecord) (value : Int) : Verdict :=
  if value < limitOf r.kind r.lowLimit then .low
  else if limitOf r.kind r.highLimit < value then .high
  else .pass

/-- The outcome at the end of INTEGRATE of a RES2, RES4 or DIODE step (R134). -/
def formIntegrated (r : StepRecord) (effCurrent : Nat) (nullSum : Int) (nullCount : Nat)
    (sum : Int) (n : Nat) (clip : Bool) : Formed :=
  if clip then ⟨.overrange, none⟩
  else
    let d := divHalfAway sum n - nullValue nullSum nullCount
    if d < -8388607 ∨ 8388607 < d then ⟨.overrange, none⟩
    else
      let value := if r.kind = .diode then diodeVoltage d r.gain else resistance d r.gain effCurrent
      ⟨judgeLimits r value, some value⟩

/-- The outcome of a capture (R137, R138, R139). -/
def formCapture (r : StepRecord) (effCurrent t : Nat) : Formed :=
  let c := capacitance effCurrent t r.threshold
  if 4294967295 < c then ⟨.overrange, none⟩ else ⟨judgeLimits r c, some (c : Int)⟩

/-- The resistance of a group test, absent for OVERRANGE (R142). -/
def formScanTest (r : StepRecord) (effCurrent : Nat) (sum : Int) (n : Nat) (clip : Bool) : Option Int :=
  let m := divHalfAway sum n
  if clip ∨ m < -8388607 ∨ 8388607 < m then none else some (resistance m r.gain effCurrent)

/-- The failing verdicts (R141). -/
def Verdict.failing : Verdict → Bool
  | .low => true
  | .high => true
  | .openCircuit => true
  | .overrange => true
  | .fail => true
  | .limit => true
  | .pass => false
  | .fault => false
  | .aborted => false
  | .short => false

/-- No qualifier. -/
def Qualifiers.none : Qualifiers := ⟨false, false, false, false, false, false⟩

end Sys2Proof.Machine
end

