-- ==== Sys2Proof/Machine/Operands.lean ====
section
/-! DEFINITION. What a request body holds: fields decoded from their bytes before any check (R194), the step
record's flags and the checks of a record (R24 to R26, R29). -/

namespace Sys2Proof.Machine

/-- The byte at an offset of a body. -/
def byteAt (b : List Byte) (i : Nat) : Nat := (b.getD i 0).toNat

/-- A two-byte field, least significant byte first. -/
def u16At (b : List Byte) (i : Nat) : Nat := byteAt b i + 256 * byteAt b (i + 1)

/-- A four-byte field, least significant byte first. -/
def u32At (b : List Byte) (i : Nat) : Nat := u16At b i + 65536 * u16At b (i + 2)

/-- An eight-byte field, least significant byte first. -/
def u64At (b : List Byte) (i : Nat) : Nat := u32At b i + 4294967296 * u32At b (i + 4)

/-- A kind code (section 11.6); `none` for a code above 4, which has no meaning (R194). -/
def stepKindOf : Nat → Option StepKind
  | 0 => some .res2
  | 1 => some .res4
  | 2 => some .diode
  | 3 => some .cap
  | 4 => some .scan
  | _ => none

/-- A step record at an offset of a body (section 11.3); `none` where the kind code has no meaning. -/
def stepRecordAt (b : List Byte) (o : Nat) : Option StepRecord :=
  (stepKindOf (byteAt b (o + 2))).map fun kind =>
    { tag := u16At b o
      kind := kind
      template := byteAt b (o + 3)
      high := u16At b (o + 4)
      low := u16At b (o + 6)
      current := byteAt b (o + 8)
      gain := byteAt b (o + 9)
      aperture := byteAt b (o + 10)
      count := byteAt b (o + 11)
      settle := u16At b (o + 12)
      discharge := u16At b (o + 14)
      threshold := u32At b (o + 16)
      rampLimit := u16At b (o + 20)
      presence := b.getD (o + 22) 0
      mask := b.getD (o + 23) 0
      lowLimit := BitVec.ofNat 32 (u32At b (o + 24))
      highLimit := BitVec.ofNat 32 (u32At b (o + 28))
      flags := BitVec.ofNat 16 (u16At b (o + 32)) }

/-! ### Flags and mask (sections 2.1, 11.6) -/

/-- NOTIFY. -/
def StepRecord.notify (r : StepRecord) : Bool := r.flags.getLsbD 0
/-- STOP_ON_FAIL. -/
def StepRecord.stopOnFail (r : StepRecord) : Bool := r.flags.getLsbD 1
/-- BARRIER. -/
def StepRecord.barrier (r : StepRecord) : Bool := r.flags.getLsbD 2
/-- SOLO. -/
def StepRecord.solo (r : StepRecord) : Bool := r.flags.getLsbD 3
/-- QUIET. -/
def StepRecord.isQuiet (r : StepRecord) : Bool := r.flags.getLsbD 4
/-- RETRY_ALT where the kind uses it (R26). -/
def StepRecord.retryAlt (r : StepRecord) : Bool := r.flags.getLsbD 5 && decide (r.kind ≠ .scan)
/-- NO_NULL where the kind uses it (R26). -/
def StepRecord.noNull (r : StepRecord) : Bool :=
  r.flags.getLsbD 6 && (decide (r.kind = .res2) || decide (r.kind = .res4))
/-- PAUSE_AFTER. -/
def StepRecord.pauseAfter (r : StepRecord) : Bool := r.flags.getLsbD 7

/-- Whether the engine mask names an engine. -/
def StepRecord.allows (r : StepRecord) (e : EngineId) : Bool := r.mask.getLsbD e.index

/-- The guard template code of a step that may have one: absent, and never read on a SCAN step (R24). -/
def StepRecord.templateCode (r : StepRecord) : Option Nat :=
  if r.kind = .scan ∨ r.template = 255 then none else some r.template

/-! ### Checks of a record (R29 checks 4 to 9) -/

/-- Check 5: each used field in its range, the mask, the template, the flags and the limits' presence. -/
def StepRecord.fieldsInRange (r : StepRecord) : Bool :=
  let inNets := fun n => decide (1 ≤ n ∧ n ≤ Config.maxNet)
  let sampled := decide (r.gain ≤ 2) && decide (r.aperture ≤ 5)
  inNets r.high && inNets r.low && decide (r.current ≤ 4)
    && (match r.kind with
        | .res2 => sampled
        | .res4 => sampled
        | .diode => sampled
        | .cap => decide (1000 ≤ r.threshold ∧ r.threshold ≤ 2000000)
                    && decide (1 ≤ r.rampLimit ∧ r.rampLimit ≤ 10000)
        | .scan => sampled && decide (1 ≤ r.threshold ∧ r.threshold ≤ 2147483647))
    && (decide (r.kind = .scan) || decide (r.template ≤ 31) || decide (r.template = 255))
    && decide (1 ≤ r.mask.toNat ∧ r.mask.toNat ≤ 15)
    && decide (r.flags.toNat ≤ 255)
    && decide (r.presence.toNat = if r.kind = .scan then 0 else 3)

/-- Checks 4 to 9 on a decoded record; the first that fails gives the status and its detail. -/
def Part.checkRecord (p : Part) (r : StepRecord) : Option (Status × Option Nat) :=
  if ¬ r.fieldsInRange then some (.badValue, none)
  else if r.kind ≠ .scan ∧ r.high = r.low then some (.sameNet, none)
  else if r.kind = .scan ∧ r.low < r.high then some (.badValue, none)
  else if r.kind ≠ .scan ∧ limitOf r.kind r.highLimit < limitOf r.kind r.lowLimit then some (.limitOrder, none)
  else if p.nailsOf r.high = [] then some (.notMapped, some r.high)
  else if p.nailsOf r.low = [] then some (.notMapped, some r.low)
  else none

/-- The same from the bytes of a body: a kind with no meaning fails check 4. -/
def Part.checkedRecordAt (p : Part) (b : List Byte) (o : Nat) : Except (Status × Option Nat) StepRecord :=
  match stepRecordAt b o with
  | none => .error (.badValue, none)
  | some r => match p.checkRecord r with
    | some s => .error s
    | none => .ok r

/-- A nail entry at an offset; `none` where the net or the condition is one MAP_NAILS refuses: a net above
2047, SUSPECT, or no condition (R8 check 5, section 11.4). -/
def nailEntryAt (b : List Byte) (o : Nat) : Option NailEntry :=
  let net := u16At b o
  if Config.maxNet < net then none
  else match byteAt b (o + 2) with
    | 0 => some ⟨net, .good⟩
    | 2 => some ⟨net, .disabled⟩
    | _ => none

/-! ### The net set of a step (R28) -/

/-- The nets from `a` to `b` that carry SCAN, ascending. -/
def Part.scanNets (p : Part) (a b : Nat) : List Nat :=
  (p.map.attrs.filter (fun x => x.2.scan && decide (a ≤ x.1) && decide (x.1 ≤ b))).map (·.1)

/-- The nets of a step's guard template as it stands. -/
def Part.templateNets (p : Part) (r : StepRecord) : List Nat :=
  match r.templateCode with
  | some c => p.template c
  | none => []

/-- The net set of a step as its template stands. -/
def Part.netSet (p : Part) (r : StepRecord) : List Nat :=
  if r.kind = .scan then p.scanNets r.high r.low else r.high :: r.low :: p.templateNets r

/-- The guard list after trimming (R63). -/
def Part.trimmedGuards (p : Part) (r : StepRecord) : List Nat :=
  (p.templateNets r).filter (fun n => decide (n ≠ r.high) && decide (n ≠ r.low))

/-- The required nets of a step, in the order they are judged (R54, R59); a SCAN step has none. -/
def Part.requiredNets (p : Part) (r : StepRecord) : List Nat :=
  if r.kind = .scan then [] else r.high :: r.low :: p.trimmedGuards r

end Sys2Proof.Machine
end

