-- ==== Sys2Proof/Machine/Relay.lean ====
section
/-! DEFINITION. The Relay Sequencer (chapter 4): image, assignments and targets, deriving and queueing card
updates, the card link, plans, held sets, release-all and ALL_OPEN. Every operation here acts on the Relay
Sequencer's own state; what it reports to other blocks is taken up in Machine/Engine.lean. -/

namespace Sys2Proof.Machine

/-! ### Sets of pairs and images -/

/-- The three groups of roles (R76). -/
inductive RoleGroup where
  | high | low | guard
deriving DecidableEq, Repr

/-- The group of a role (R76). -/
def Role.group : Role → RoleGroup
  | .sh => .high
  | .kh => .high
  | .sl => .low
  | .kl => .low
  | .g => .guard

/-- The five roles in the order of the reports (section 11.5's order of R95). -/
def Role.all : List Role := [.sh, .kh, .sl, .kl, .g]

/-- The card of a pair's nail. -/
def Pair.card (x : Pair) : Nat := cardOf x.nail

/-- The pairs of a set that lie on a card. -/
def onCard (c : Nat) (ps : List Pair) : List Pair := ps.filter (fun x => x.card == c)

/-- Whether a set has a pair on a card. -/
def touches (c : Nat) (ps : List Pair) : Bool := ps.any (fun x => x.card == c)

/-- Two images that want the same. -/
def Image.same (a b : Image) : Bool :=
  decide (a.connection = b.connection) && a.closed.all (fun x => decide (x ∈ b.closed))
    && b.closed.all (fun x => decide (x ∈ a.closed))

/-- The image of a card that serves no engine (R75). -/
def Image.released : Image := ⟨none, []⟩

/-! ### Reading the relay image -/

/-- The card at a position. -/
def Relay.card (r : Relay) (c : Nat) : Card := lookup .unlisted r.cards c

/-- A card replaced. -/
def Relay.setCard (r : Relay) (c : Nat) (x : Card) : Relay :=
  { r with cards := store .unlisted r.cards c x }

/-- Whether a relay condition is a motion under way. -/
def Motion.moving : Motion → Bool
  | .closing _ => true
  | .closed => false
  | .opening _ => true

/-- Whether a condition's destination is closed (R79). -/
def Motion.towardsClosed : Motion → Bool
  | .closing _ => true
  | .closed => true
  | .opening _ => false

/-- The due time of a motion, 0 for a relay at rest. -/
def Motion.due : Motion → Nat
  | .closing d => d
  | .closed => 0
  | .opening d => d

/-- The conditions of a card that are not OPEN, its connection's among them. -/
def Card.motions (x : Card) : List Motion := x.connection.motion.toList ++ x.relays.map (·.2)

/-- Whether a card is in motion (R72). -/
def Card.inMotion (x : Card) : Bool := x.motions.any Motion.moving

/-- The due time of a card's last motion: the end of its motion (R73). -/
def Card.lastDue (x : Card) : Nat := x.motions.foldl (fun m d => max m d.due) 0

/-- The due times of a card's moving relays, one wait for each (R73, R102). -/
def Card.waits (x : Card) : List Nat := (x.motions.filter Motion.moving).map Motion.due

/-- A condition once its motion has ended. -/
def Motion.settled : Motion → Option Motion
  | .closing _ => some .closed
  | .closed => some .closed
  | .opening _ => none

/-- A card with the motions that satisfy `done` ended. -/
def Card.settleWhere (done : Motion → Bool) (x : Card) : Card :=
  let step := fun m : Motion => if m.moving && done m then m.settled else some m
  let motion := x.connection.motion.bind step
  { x with
    connection := ⟨if motion.isSome then x.connection.engine else none, motion⟩
    relays := x.relays.filterMap (fun y => (step y.2).map (fun m => (y.1, m))) }

/-- A card as it stands at a tick: a relay whose motion wait has completed has reached its condition, though
the end of the card's motion is still to come (R73, R100). -/
def Card.asOf (tick : Nat) (x : Card) : Card :=
  let last := x.lastDue
  x.settleWhere (fun m => decide (m.due ≤ tick) && decide (m.due < last))

/-- A card whose moving relays that are due at a tick have reached their conditions (R73, R100). -/
def Card.arrived (tick : Nat) (x : Card) : Card := x.settleWhere (fun m => decide (m.due ≤ tick))

/-- A card whose last relay has reached its condition. -/
def Card.settled (x : Card) : Card := x.settleWhere (fun _ => true)

/-- The image a card's relays are at or move towards (R79). -/
def Card.destination (x : Card) : Image :=
  { connection := match x.connection.motion with
      | some m => if m.towardsClosed then x.connection.engine else none
      | none => none
    closed := (x.relays.filter (fun y => y.2.towardsClosed)).map (·.1) }

/-- The present image of a card for deriving: an update on the link counts as sent (R77, R80; assumption
log 8), and a moving relay counts at its destination. -/
def Relay.destination (r : Relay) (c : Nat) : Image :=
  match r.link with
  | .update c' image _ => if c' = c then image else (r.card c).destination
  | .idle => (r.card c).destination
  | .allOpen _ => (r.card c).destination
  | .startupAllOpen _ => (r.card c).destination
  | .query _ _ _ => (r.card c).destination

/-! ### Assignments and targets (R75) -/

/-- The engine whose wanted set has a nail on a card. -/
def Relay.plannedTo (r : Relay) (c : Nat) : Option EngineId :=
  EngineId.all.find? (fun e => touches c (r.plans.get e).wanted)

/-- The engine whose held set has a relay on a card. -/
def Relay.heldBy (r : Relay) (c : Nat) : Option EngineId :=
  EngineId.all.find? (fun e => touches c (r.plans.get e).held)

/-- A READY card's assignment. -/
def Relay.assignment (r : Relay) (c : Nat) : Assignment :=
  match r.plannedTo c, r.heldBy c with
  | some e, _ => .planned e
  | none, some e => .held e
  | none, none => .unassigned

/-- A READY card's target. -/
def Relay.target (r : Relay) (c : Nat) : Image :=
  match r.assignment c with
  | .planned e => ⟨some e, onCard c (r.plans.get e).wanted⟩
  | .held e => ⟨some e, onCard c (r.plans.get e).held⟩
  | .unassigned => .released

/-! ### Deriving and queueing updates (R79 to R81) -/

/-- Whether some nail is regrouped between two images (R79). -/
def regroups (present target : Image) : Bool :=
  present.closed.any (fun x => target.closed.any (fun y =>
    decide (x.nail = y.nail) && decide (x.role.group ≠ y.role.group)))

/-- Whether the connection names one engine in the present image and another in the target (R79). -/
def changesEngine (present target : Image) : Bool :=
  match present.connection, target.connection with
  | some f, some e => decide (f ≠ e)
  | _, _ => false

/-- The next update from a present image to a target, and its stage (R79, R80). -/
def nextUpdate (present target : Image) : Image × Stage :=
  if changesEngine present target then (.released, .stageA)
  else if regroups present target then
    (⟨present.connection, present.closed.filter (fun x => decide (x ∈ target.closed))⟩, .stageA)
  else (target, .final)

/-- An update queued: a card's queued entry keeps its age and takes the new image (R80, R81). -/
def Relay.enqueue (r : Relay) (u : QueuedUpdate) : Relay :=
  if r.queue.any (fun q => q.card == u.card) then
    { r with queue := r.queue.map (fun q => if q.card = u.card then u else q) }
  else { r with queue := r.queue ++ [u] }

/-- A card's queued entry removed. -/
def Relay.unqueue (r : Relay) (c : Nat) : Relay :=
  { r with queue := r.queue.filter (fun q => decide (q.card ≠ c)) }

/-- A READY card's next update derived (R80). -/
def Relay.derive (r : Relay) (c : Nat) : Relay :=
  if (r.card c).status ≠ .ready then r
  else
    let present := r.destination c
    let target := r.target c
    if present.same target then r.unqueue c
    else
      let (image, stage) := nextUpdate present target
      r.enqueue ⟨c, image, stage⟩

/-- Deriving at the end of a card's motion: a queued image is kept (R80). -/
def Relay.deriveAtRest (r : Relay) (c : Nat) : Relay :=
  if r.queue.any (fun q => q.card == c) then r else r.derive c

/-- Deriving of every card whose target differs from what it was, in ascending card order. -/
def Relay.deriveChanged (old r : Relay) : Relay :=
  ((List.range Config.cards).filter (fun c => !(old.target c).same (r.target c))).foldl Relay.derive r

/-! ### The card link (R82, R84) -/

/-- Whether quiet deferral is in force. -/
def Relay.deferral (r : Relay) : Bool := EngineId.all.any (fun e => (r.plans.get e).quiet)

/-- The oldest entry whose card is not in motion. -/
def Relay.startable (r : Relay) : Option QueuedUpdate :=
  r.queue.find? (fun q => !(r.card q.card).inMotion)

/-- Whether the link would start a card update if it looked now. -/
def Relay.wouldStart (r : Relay) : Bool :=
  decide (r.link = .idle) && !r.allOpenPending && !r.deferral && r.startable.isSome

/-- The link looks for its next transaction (R82). -/
def Relay.look (r : Relay) (tick : Nat) : Relay :=
  if r.link ≠ .idle then r
  else if r.allOpenPending then { r with link := .allOpen tick, allOpenPending := false }
  else if r.deferral then r
  else match r.startable with
    | some q => { (r.unqueue q.card) with link := .update q.card q.image tick }
    | none => r

/-- Whether the matrix is still: no transaction in progress and no card in motion that is not FAILED (R84). -/
def Relay.still (r : Relay) : Bool :=
  decide (r.link = .idle) && r.cards.all (fun x => decide (x.2.status = .failed) || !x.2.inMotion)

/-- Whether every relay and connection of every card that is not FAILED reads OPEN (R92). -/
def Relay.matrixOpen (r : Relay) : Bool :=
  r.cards.all (fun x => decide (x.2.status = .failed) || x.2.motions.isEmpty)

/-! ### Connection ready (R87) -/

/-- Whether a pair stands CLOSED in the image. -/
def Relay.pairClosed (r : Relay) (x : Pair) : Bool :=
  (r.card x.card).relays.any (fun y => decide (y.1 = x) && decide (y.2 = .closed))

/-- Whether no transaction under way or pending is about to move a card that is an engine's plan's or would be
connected to the engine: what R88 and R109 ask beyond the image itself (assumption log 28). -/
def Relay.nothingBound (r : Relay) (e : EngineId) : Bool :=
  !r.allOpenPending && (match r.link with
    | .idle => true
    | .update c image _ => !touches c (r.plans.get e).wanted && decide (image.connection ≠ some e)
    | .allOpen _ => false
    | .startupAllOpen _ => false
    | .query _ _ _ => false)

/-- Whether an engine's plan stands closed and still: its pairs and connections CLOSED, every other role relay of the
cards connected to the engine OPEN, those cards exactly the plan's (R87, R88), and nothing bound for them. -/
def Relay.standsReady (r : Relay) (e : EngineId) : Bool :=
  let g := r.plans.get e
  decide (g.state = .connecting)
    && g.wanted.all (fun x => r.pairClosed x
        && decide ((r.card x.card).connection = ⟨some e, some .closed⟩))
    && r.cards.all (fun x => decide (x.2.status = .failed) || decide (x.2.connection.engine ≠ some e)
        || (touches x.1 g.wanted && x.2.relays.all (fun y => decide (y.1 ∈ g.wanted))))
    && r.nothingBound e

/-- Whether a card that is not of an engine's plan holds connection ready back beyond R87's list: the update on the link
joins it to the engine, or it is connected with every role relay OPEN (assumption log 28). -/
def Relay.holdsBack (r : Relay) (card : Nat) (image : Image) (e : EngineId) : Bool :=
  !touches card (r.plans.get e).wanted && (decide (image.connection = some e)
    || (decide ((r.card card).connection = ⟨some e, some .closed⟩) && decide ((r.card card).relays = [])))

/-- The plan state after the report. -/
def Relay.markReady (r : Relay) (e : EngineId) : Relay :=
  { r with plans := r.plans.set e { r.plans.get e with state := .ready } }

/-! ### Plans (R76, R78) -/

/-- Another engine's plan after a plan takes over the cards on which the new plan has nails. -/
def EnginePlan.loseCards (g : EnginePlan) (plan : List Pair) : EnginePlan :=
  let kept := g.held.filter (fun x => !touches x.card plan)
  { g with held := kept, hold := if kept = [] then none else g.hold }

/-- A connection plan arrives; the count of reclaimed pairs is 0 for a plan that replaces another (R78). -/
def Relay.plan (r : Relay) (e : EngineId) (plan : List Pair) : Relay × Nat :=
  let g := r.plans.get e
  let fresh := decide (g.state = .none)
  let reclaimed := if fresh then (plan.filter (fun x => decide (x ∈ g.held))).length else 0
  let others := r.plans.mapIdx (fun f h => if f = e then h else h.loseCards plan)
  let mine : EnginePlan :=
    { g with state := .connecting, wanted := plan,
             held := if fresh then [] else g.held, hold := if fresh then none else g.hold }
  (r.deriveChanged { r with plans := others.set e mine }, reclaimed)

/-! ### Completion and hold (R89 to R91) -/

/-- An engine's held cards released. -/
def Relay.releaseHeld (r : Relay) (e : EngineId) : Relay :=
  r.deriveChanged { r with plans := r.plans.set e { r.plans.get e with held := [], hold := none } }

/-- The Dispatcher has taken the completion of a step on an engine (R89). -/
def Relay.complete (r : Relay) (t : Timebase) (e : EngineId) : Relay :=
  let g := r.plans.get e
  let form :=
    let kept := g.wanted.filter (fun x => decide ((r.card x.card).status ≠ .failed))
    let hold := if r.holdLimit = 0 ∨ kept = [] then none else some (t.dueIn (micros r.holdLimit))
    let after : EnginePlan := { g with state := .none, wanted := [], held := kept, hold := hold }
    let r' := r.deriveChanged { r with plans := r.plans.set e after }
    if r.holdLimit = 0 then r'.releaseHeld e else r'
  match g.state with
  | .connecting => form
  | .ready => form
  | .releaseAtEnd =>
    r.deriveChanged { r with plans := r.plans.set e { g with state := .none, wanted := [] } }
  | .none => r

/-! ### Release-all and ALL_OPEN (R92, R93) -/

/-- A release-all: the engines of `discharging` keep their cards to their completion. -/
def Relay.releaseAll (r : Relay) (discharging : EngineId → Bool) : Relay :=
  r.deriveChanged { r with plans := r.plans.mapIdx (fun e g =>
    if discharging e then { g with state := .releaseAtEnd, held := [], hold := none }
    else { g with state := .none, wanted := [], held := [], hold := none }) }

/-- ALL_OPEN asked (R93): the queue is flushed, every plan withdrawn, and the releases of the cards that this makes
UNASSIGNED derived, since their targets change (R75, R80; that they are derived after the flush is assumption log 29). -/
def Relay.askAllOpen (r : Relay) : Relay :=
  r.deriveChanged { r with queue := [], allOpenPending := true, plans := r.plans.mapIdx (fun _ g =>
    { g with state := .none, wanted := [], held := [], hold := none }) }

/-- A card at the end of ALL_OPEN: every relay that is not OPEN opens (R93). -/
def Card.openAll (x : Card) (due : Nat) : Card :=
  { x with connection := { x.connection with motion := x.connection.motion.map (fun _ => .opening due) }
           relays := x.relays.map (fun y => (y.1, .opening due)) }

/-- The end of the ALL_OPEN broadcast: READY cards open, and every card's update is derived again. -/
def Relay.endAllOpen (r : Relay) (t : Timebase) : Relay :=
  let due := t.dueIn Config.openTicks
  let r' := { r with link := .idle, cards := r.cards.map (fun x =>
    if x.2.status = .ready then (x.1, (x.2.asOf t.tick).openAll due) else x) }
  (List.range Config.cards).foldl Relay.derive r'

/-! ### Transactions (R83, R85, R86) -/

/-- The most operations a card counts (R94). -/
def maxOperations : Nat := 4294967295

/-- A card once it has acknowledged an image: relays that differ begin to move (R73), and each close counts
one operation (R94). -/
def Card.acknowledge (x : Card) (image : Image) (t : Timebase) : Card :=
  let closeDue := t.dueIn Config.closeTicks
  let openDue := t.dueIn Config.openTicks
  let kept := x.relays.map (fun y =>
    if y.2 = .closed ∧ y.1 ∉ image.closed then (y.1, Motion.opening openDue) else y)
  let arriving := image.closed.filter (fun a => !x.relays.any (fun y => decide (y.1 = a)))
  let joins := decide (x.connection.motion = none) && image.connection.isSome
  let connection : Connection :=
    if joins then ⟨image.connection, some (.closing closeDue)⟩
    else if x.connection.motion = some .closed ∧ image.connection ≠ x.connection.engine then
      ⟨x.connection.engine, some (.opening openDue)⟩
    else x.connection
  { x with
    connection := connection
    relays := kept ++ arriving.map (fun a => (a, .closing closeDue))
    operations := min maxOperations (x.operations + arriving.length + if joins then 1 else 0) }

/-- A failed card: every relay and the connection UNKNOWN, the count kept (R85). -/
def Card.fail (x : Card) : Card := { x with status := .failed, connection := ⟨none, none⟩, relays := [] }

/-- An engine's plan after the failure of a card (R86). -/
def EnginePlan.loseFailed (g : EnginePlan) (c : Nat) : EnginePlan :=
  let held := g.held.filter (fun x => decide (x.card ≠ c))
  { g with wanted := g.wanted.filter (fun x => decide (x.card ≠ c)), held := held,
           hold := if held = [] then none else g.hold }

/-- A card fails: its assignment and its queued entry go, and the link is idle (R85, R86). -/
def Relay.failCard (r : Relay) (c : Nat) : Relay :=
  { (r.setCard c (r.card c).fail).unqueue c with
    link := .idle, plans := r.plans.mapIdx (fun _ g => g.loseFailed c) }

/-! ### Enumeration (R74) -/

/-- Every role relay of a card, nail by nail. -/
def pairsOfCard (c : Nat) : List Pair :=
  (List.range Config.nailsPerCard).flatMap (fun n => Role.all.map (fun k => ⟨c * Config.nailsPerCard + n, k⟩))

/-- A card found by its query: it opens until the end of the start-up opening, and is OPEN from then on. -/
def Card.found (c tick openDue : Nat) : Card :=
  if tick < openDue then
    ⟨.ready, ⟨none, some (.opening openDue)⟩, (pairsOfCard c).map (fun x => (x, .opening openDue)), 0⟩
  else ⟨.ready, ⟨none, none⟩, [], 0⟩

/-! ### The report of RELAY_QUERY (R95) -/

/-- A condition as reported. -/
def Motion.reading : Option Motion → RelayReading
  | none => .openCircuit
  | some (.closing _) => .closing
  | some .closed => .closed
  | some (.opening _) => .opening

/-- One card and the engines' relay state as one view. -/
def Relay.view (r : Relay) (tick c : Nat) : RelayView :=
  let x := (r.card c).asOf tick
  let ready := decide (x.status = .ready)
  { status := x.status
    operations := if x.status = .absent then none else some x.operations
    assignment := if ready then some (r.assignment c) else none
    connection := match x.status with
      | .ready => some (x.connection.engine, Motion.reading x.connection.motion)
      | .failed => some (none, .unknown)
      | .absent => none
    relays := match x.status with
      | .ready => (pairsOfCard c).map (fun a =>
          Motion.reading ((x.relays.find? (fun y => decide (y.1 = a))).map (·.2)))
      | .failed => (pairsOfCard c).map (fun _ => .unknown)
      | .absent => []
    queued := if ready then some ((r.queue.find? (fun q => q.card == c)).map (·.stage)) else none
    plans := r.plans.mapIdx (fun _ g => ⟨g.state, g.held.length, g.hold⟩)
    holdLimit := r.holdLimit }

end Sys2Proof.Machine
end

