-- ==== Sys2Proof/Machine/Nails.lean ====
section
/-! DEFINITION. Engine choice and nail resolution (section 3.4), alternates for a retry (section 3.6), and
the Scanner's choice of nails (R147). -/

namespace Sys2Proof.Machine

/-! ### Usable nails and candidates (R59, R61) -/

/-- Whether a nail is usable: GOOD or SUSPECT, on a READY card (R59, R143). -/
def Part.usable (p : Part) (n : Nat) : Bool :=
  decide ((p.nail n).condition ≠ .disabled) && decide ((p.card (cardOf n)).status = .ready)

/-- Whether a net has a usable nail. -/
def Part.netUsable (p : Part) (net : Nat) : Bool := (p.nailsOf net).any p.usable

/-- The nails a step in flight uses. -/
def Nails.all (x : Nails) : List Nat := x.sh :: x.kh :: x.sl :: x.kl :: x.guards

/-- Whether a step in flight puts itself on a card; a SCAN step is on every card (R61). -/
def Entry.onCard (x : Entry) (c : Nat) : Bool :=
  match x.nails with
  | some ns => ns.all.any (fun n => cardOf n == c)
  | none => true

/-- Whether a card carries a step in flight, not counting the step of one engine for its re-plan (R61, R66). -/
def Part.carriesStep (p : Part) (except : Option EngineId) (c : Nat) : Bool :=
  EngineId.all.any (fun e => decide (some e ≠ except) && (match p.disp.inFlight.get e with
    | some x => x.onCard c
    | none => false))

/-- The candidates for a role on a net (R61). -/
def Part.candidates (p : Part) (except : Option EngineId) (net : Nat) : List Nat :=
  (p.nailsOf net).filter (fun n => p.usable n && !p.carriesStep except (cardOf n))

/-! ### Ranking (R61, R147) -/

/-- The class of a candidate for a role: closed in it for the engine, on a card connected to the engine, to
none, or to another. `mine` is the engine's held or wanted set, as the rule at hand says. -/
def Part.nailClass (p : Part) (e : EngineId) (mine : List Pair) (role : Role) (n : Nat) : Nat :=
  if (⟨n, role⟩ : Pair) ∈ mine then 1
  else match (p.card (cardOf n)).connection.engine with
    | some f => if f = e then 2 else 4
    | none => 3

/-- Whether a candidate stands before another: class, then GOOD before SUSPECT, then the lower number. -/
def Part.ranksBefore (p : Part) (e : EngineId) (mine : List Pair) (role : Role) (a b : Nat) : Bool :=
  let ca := p.nailClass e mine role a
  let cb := p.nailClass e mine role b
  let sa := decide ((p.nail a).condition = .suspect)
  let sb := decide ((p.nail b).condition = .suspect)
  decide (ca < cb) || (decide (ca = cb) && ((!sa && sb) || (decide (sa = sb) && decide (a < b))))

/-- The best of a list of candidates. -/
def Part.best (p : Part) (e : EngineId) (mine : List Pair) (role : Role) : List Nat → Option Nat
  | [] => none
  | n :: rest => match p.best e mine role rest with
    | some m => if p.ranksBefore e mine role m n then some m else some n
    | none => some n

/-! ### Resolution of a step (R60, R62, R63) -/

/-- The source and sense nails of one side of a step, from its candidates: a sense role of a RES4 step that
finds no nail of its own falls back to the source nail (R62). -/
def Part.resolveSide (p : Part) (e : EngineId) (mine : List Pair) (four : Bool) (source sense : Role)
    (cands : List Nat) : Option (Nat × Nat) :=
  match p.best e mine source cands with
  | none => none
  | some s =>
    if four then
      match p.best e mine sense (cands.filter (fun n => decide (n ≠ s))) with
      | some k => some (s, k)
      | none => some (s, s)
    else some (s, s)

/-- The nail of each guard net in list order; `none` when one has no candidate. -/
def Part.resolveGuards (p : Part) (e : EngineId) (mine : List Pair) : List Nat → Option (List Nat)
  | [] => some []
  | net :: rest => match p.best e mine .g (p.candidates none net), p.resolveGuards e mine rest with
    | some n, some ns => some (n :: ns)
    | _, _ => none

/-- The nails of a measurement step on an engine (R61 to R63). -/
def Part.resolve (p : Part) (e : EngineId) (r : StepRecord) : Option Nails :=
  let mine := (p.plan e).held
  let four := decide (r.kind = .res4)
  match p.resolveSide e mine four .sh .kh (p.candidates none r.high),
        p.resolveSide e mine four .sl .kl (p.candidates none r.low),
        p.resolveGuards e mine (p.trimmedGuards r) with
  | some (sh, kh), some (sl, kl), some guards => some ⟨sh, kh, sl, kl, guards⟩
  | _, _, _ => none

/-- Whether a RES4 step has a sense role on its source nail (R62). -/
def twoWireOf (k : StepKind) (n : Nails) : Bool :=
  decide (k = .res4) && (decide (n.kh = n.sh) || decide (n.kl = n.sl))

/-- The wanted set of a measurement step's nails. -/
def Nails.pairs (n : Nails) : List Pair :=
  (⟨n.sh, .sh⟩ : Pair) :: ⟨n.kh, .kh⟩ :: ⟨n.sl, .sl⟩ :: ⟨n.kl, .kl⟩ :: n.guards.map (fun g => ⟨g, .g⟩)

/-- The (net, role) needs of a measurement step (R60). -/
def Part.needs (p : Part) (r : StepRecord) : List (Nat × Role) :=
  (r.high, .sh) :: (r.high, .kh) :: (r.low, .sl) :: (r.low, .kl) :: (p.trimmedGuards r).map (fun n => (n, .g))

/-- How many needs an engine's held set offers to reclaim; 0 for a SCAN step (R60). -/
def Part.reclaimable (p : Part) (r : StepRecord) (e : EngineId) : Nat :=
  if r.kind = .scan then 0
  else ((p.needs r).filter (fun x =>
    (p.candidates none x.1).any (fun n => decide ((⟨n, x.2⟩ : Pair) ∈ (p.plan e).held)))).length

/-- The IDLE engines of a step's mask, ascending. -/
def Part.idleEngines (p : Part) (r : StepRecord) : List EngineId :=
  EngineId.all.filter (fun e => r.allows e && decide ((p.engine e).state = .idle))

/-- Whether every engine of a step's mask is FAULTED (R59). -/
def Part.allFaulted (p : Part) (r : StepRecord) : Bool :=
  EngineId.all.all (fun e => !r.allows e || decide ((p.engine e).state = .faulted))

/-- The engine of the most reclaimable needs, the lowest of equals. -/
def Part.mostReclaimable (p : Part) (r : StepRecord) : List EngineId → Option EngineId
  | [] => none
  | e :: rest => match p.mostReclaimable r rest with
    | some f => if p.reclaimable r e < p.reclaimable r f then some f else some e
    | none => some e

/-- The engine of a ring step (R60). -/
def Part.chooseEngine (p : Part) (r : StepRecord) : Option EngineId :=
  p.mostReclaimable r (p.idleEngines r)

/-! ### Alternates for a retry (R66) -/

/-- One side of a re-plan: the new source and sense nails, and the nails put on the exclusion list; the
side's present nails and none when it has no alternate. -/
def Part.replanSide (p : Part) (e : EngineId) (four : Bool) (source sense : Role) (net s k : Nat) :
    (Nat × Nat) × List Nat :=
  let fresh := (p.candidates (some e) net).filter (fun n => decide (n ≠ s) && decide (n ≠ k))
  match p.resolveSide e (p.plan e).wanted four source sense fresh with
  | some pair => (pair, if s = k then [s] else [s, k])
  | none => ((s, k), [])

/-! ### The Scanner's nails (R147) -/

/-- The usable nails of a net for a group test. -/
def Part.scanCandidates (p : Part) (net : Nat) : List Nat := (p.nailsOf net).filter p.usable

/-- The set in which class 1 is judged: the held set for the first test, the wanted set for later ones. -/
def Part.scanSet (p : Part) (e : EngineId) (isFirst : Bool) : List Pair :=
  if isFirst then (p.plan e).held else (p.plan e).wanted

/-- The best nail of a net for a role of a group test. -/
def Part.scanNail (p : Part) (e : EngineId) (isFirst : Bool) (role : Role) (net : Nat) : Option Nat :=
  p.best e (p.scanSet e isFirst) role (p.scanCandidates net)

end Sys2Proof.Machine
end

