-- ==== Sys2Proof/Machine/Engine.lean ====
section
/-! DEFINITION. The measurement engines (chapter 6): entering phases, sampling, connection ready and still
reports, quiet phases, turning off, forming the final record, and completion. -/

namespace Sys2Proof.Machine

/-! ### An engine of an event -/

/-- One engine changed. -/
def Ev.onEngine (v : Ev) (e : EngineId) (f : Engine → Engine) : Ev :=
  v.map fun p => p.setEngine e (f (p.engine e))

/-- The link looks for its next transaction (R82). -/
def Ev.look (v : Ev) : Ev := v.map fun p => { p with relay := p.relay.look p.time.tick }

/-- Whether an engine's step carries QUIET. -/
def Engine.quietStep (g : Engine) : Bool :=
  match g.work with
  | some w => w.record.isQuiet
  | none => false

/-- Whether an engine serves a SCAN step. -/
def Engine.scanning (g : Engine) : Bool :=
  match g.work with
  | some w => decide (w.record.kind = .scan)
  | none => false

/-- Whether an engine runs a CAP step. -/
def Engine.isCap (g : Engine) : Bool :=
  match g.work with
  | some w => decide (w.record.kind = .cap)
  | none => false

/-! ### Sampling (R112) -/

/-- A sample request sent: the sequence number rises, and a fresh interval and timeout start (assumption log 12). -/
def Engine.sendRequest (g : Engine) (t : Timebase) : Engine :=
  let aperture := match g.work with
    | some w => apertureMicros w.record.aperture
    | none => 0
  let sequence := (g.sequence + 1) % 256
  { g with sequence := sequence, request := some sequence, parted := false,
           interval := some (t.dueIn (micros aperture)),
           timeout := some (t.dueIn (micros (2 * aperture + 100))) }

/-- Entry to NULL or INTEGRATE: a QUIET step's engine reports it, and the first request is sent (R111, R112). -/
def Ev.enterSampling (v : Ev) (e : EngineId) (ph : Phase) : Ev :=
  let v := if (v.p.engine e).quietStep then v.map (fun p => p.setPlan e { p.plan e with quiet := true }) else v
  v.onEngine e fun g => { g with phase := some ph }.sendRequest v.p.time

/-- A still report taken by an engine; ignored by one that waits for none (R111). -/
def Ev.stillReport (v : Ev) (e : EngineId) : Ev :=
  let g := v.p.engine e
  if g.stillWait then
    let v := v.onEngine e fun g => { g with stillWait := false }
    match g.phase with
    | some .connect => v.enterSampling e .null
    | some .settle => v.enterSampling e .integrate
    | _ => v
  else v

/-- Every waiting quiet engine is told together that the matrix is still (R84). -/
def Ev.tellStill (v : Ev) : Ev := EngineId.all.foldl Ev.stillReport v

/-- What follows when the link or the matrix comes to rest: the link looks for its next transaction (R82), and
waiting quiet engines are told of a still matrix (R84). A still report and a start that fall together are
taken in an order the spec leaves open (assumption log 3). -/
def Ev.settleLink (v : Ev) : Ev :=
  if EngineId.all.any (fun e => (v.p.engine e).stillWait) && v.p.relay.still && v.p.relay.wouldStart then
    let (k, p) := v.p.choose 2
    let v := { v with p := p }
    if k = 0 then v.tellStill.look else v.look
  else
    let v := v.look
    if v.p.relay.still then v.tellStill else v

/-- An engine asks for a still report; it is given at once when the matrix is still (R111). -/
def Ev.askStill (v : Ev) (e : EngineId) : Ev :=
  let v := v.onEngine e fun g => { g with stillWait := true }
  if v.p.relay.still && !v.p.relay.wouldStart then v.stillReport e else v

/-- An engine reports that it has left its quiet phase (R84, R111). -/
def Ev.leaveQuiet (v : Ev) (e : EngineId) : Ev :=
  if (v.p.plan e).quiet then (v.map fun p => p.setPlan e { p.plan e with quiet := false }).settleLink else v

/-! ### Phases (section 6.2) -/

/-- Entry to SETTLE: stimulus on, settle wait started (R114). -/
def Ev.enterSettle (v : Ev) (e : EngineId) : Ev :=
  v.onEngine e fun g => { g with phase := some .settle, stimulus := some g.effCurrent, parted := false,
                                 phaseWait := some (v.p.dueIn (micros g.settle)) }

/-- Entry to a discharge phase: discharge path on, a wait of the served discharge started (R116, R118, R124). -/
def Ev.enterDischarge (v : Ev) (e : EngineId) (ph : Phase) : Ev :=
  v.onEngine e fun g => { g with phase := some ph, dischargePath := true, parted := false,
                                 phaseWait := some (v.p.dueIn (micros g.discharge)) }

/-- Connection ready taken by an engine; ignored outside CONNECT (R110; assumption log 19). -/
def Ev.connectionReady (v : Ev) (e : EngineId) : Ev :=
  let g := v.p.engine e
  match g.phase, g.work with
  | some .connect, some w =>
    if g.stillWait then v
    else
      let v := v.onEngine e fun g => { g with readyMark := true }
      let nulls := !w.record.noNull
      match w.record.kind with
      | .res2 => if !nulls then v.enterSettle e else if g.quietStep then v.askStill e else v.enterSampling e .null
      | .res4 => if !nulls then v.enterSettle e else if g.quietStep then v.askStill e else v.enterSampling e .null
      | .diode => v.enterSettle e
      | .scan => v.enterSettle e
      | .cap => v.enterDischarge e .discharge
  | _, _ => v

/-- Connection ready judged for one engine, and reported (R87). -/
def Ev.judgeReady (v : Ev) (e : EngineId) : Ev :=
  if v.p.relay.standsReady e then
    (v.map fun p => { p with relay := p.relay.markReady e }).connectionReady e
  else v

/-- Connection ready judged for every engine. -/
def Ev.judgeAllReady (v : Ev) : Ev := EngineId.all.foldl Ev.judgeReady v

/-- A connection plan reaches the Relay Sequencer; the count of reclaimed pairs comes back (R76). -/
def Ev.sendPlan (v : Ev) (e : EngineId) (plan : List Pair) : Ev × Nat :=
  let (relay, reclaimed) := v.p.relay.plan e plan
  ((v.map fun p => { p with relay := relay }).look, reclaimed)

/-! ### Turning off -/

/-- Stimulus and discharge path off, every wait cancelled, no request outstanding. -/
def Engine.quietDown (g : Engine) : Engine :=
  { g with stimulus := none, dischargePath := false, phaseWait := none, interval := none, timeout := none,
           request := none, stillWait := false }

/-- A capture unit disarmed; it keeps its ticks and mark (R103). -/
def Capture.disarm (c : Capture) : Capture := { c with state := .disarmed }

/-- An engine's capture unit disarmed. -/
def Part.disarm (p : Part) (e : EngineId) : Part := p.setCapture e (p.time.captures.get e).disarm

/-- An engine turned off whole: stimulus, discharge path, waits, capture unit and quiet phase (R120 to R125). -/
def Ev.turnOff (v : Ev) (e : EngineId) : Ev :=
  ((v.onEngine e Engine.quietDown).map (fun p => p.disarm e)).leaveQuiet e

/-- Both accumulators and the clip mark cleared (R110, R119, R127). At an OPEN and a sample timeout R115 and R120 discard
the sums alone; that the clip mark goes with them there is the model's choice (assumption log 31). -/
def Engine.discardSums (g : Engine) : Engine :=
  { g with nullSum := 0, nullCount := 0, sampleSum := 0, sampleCount := 0, clip := false }

/-! ### Taking a step (R110, R130) -/

/-- An engine as it takes a step: effective parameters fixed, accumulators and marks cleared, CONNECT. -/
def Engine.take (g : Engine) (w : Work) (effCurrent : Nat) (clamped : Bool) : Engine :=
  { g.quietDown.discardSums with
    state := .active, phase := some .connect, work := some w,
    effCurrent := effCurrent, clamped := clamped, n := sampleN w.record.count,
    settle := servedSettle w.record.settle, discharge := servedDischarge w.record.discharge,
    retry := false, replan := .none, reuseMark := false, readyMark := false,
    abort := none, formed := none, timeDegraded := false }

/-! ### Completion (R122, R123) -/

/-- The qualifiers of a final record (R123). -/
def Engine.qualifiers (g : Engine) (w : Work) : Qualifiers where
  clamped := g.clamped
  twoWire := w.twoWire
  guardTrimmed := w.guardTrimmed
  retried := g.retry
  timeDegraded := g.timeDegraded
  relaysReused := g.reuseMark

/-- The final record of a measurement step; its time is set by the append. -/
def Engine.finalRecord (g : Engine) (e : EngineId) (w : Work) (f : Formed) (cause : Option Cause) : ResultRecord where
  kind := if w.origin.isSome then .measurement else .direct
  slot := w.origin
  tag := w.record.tag
  stepKind := w.record.kind
  engine := some e
  verdict := f.verdict
  cause := cause
  qualifiers := g.qualifiers w
  shape := .measurement f.value (if g.readyMark then w.nails.map (fun n => (n.sh, n.sl)) else none)
  time := 0

/-- An engine that has ended its work: IDLE, or FAULTED after a sample timeout. -/
def Engine.ended (g : Engine) (faulted : Bool) : Engine :=
  { g.quietDown with state := if faulted then .faulted else .idle, phase := none, work := none,
                     replan := .none, abort := none, formed := none }

/-- A ring step's slot DONE, and the retirement sweep (R40). -/
def Part.slotDone (p : Part) (slot : Nat) : Part :=
  { p with ring := ((p.ring.setState slot .done).advanceNext).retire }

/-- A step completes on its engine: off, record appended, IDLE or FAULTED, slot DONE, completion reported to
the Dispatcher (R122). -/
def Ev.completeStep (v : Ev) (e : EngineId) (f : Formed) (cause : Option Cause) (card : Option Nat)
    (faulted : Bool) : Ev :=
  match (v.p.engine e).work with
  | none => v
  | some w =>
    let v := v.turnOff e
    let v := v.appendFinal ((v.p.engine e).finalRecord e w f cause)
    let v := v.onEngine e (fun g => g.ended faulted)
    let v := match w.origin with
      | some slot => v.map (fun p => p.slotDone slot)
      | none => v
    { v with completions := v.completions ++ [⟨e, w.origin, w.record, f.verdict, cause, card⟩] }

/-- The outcome of an OPEN: a re-plan request for the first attempt of a RETRY_ALT step, completion otherwise
(R115, R118, R119). -/
def Ev.afterOpen (v : Ev) (e : EngineId) : Ev :=
  let g := v.p.engine e
  match g.work with
  | none => v
  | some w =>
    if w.record.retryAlt && !g.retry then v.onEngine e fun g => { g with replan := .requested }
    else v.completeStep e ⟨.openCircuit, none⟩ none none false

/-! ### CAP ramps (R116 to R118) -/

/-- RAMP ended with an outcome: off, disarmed, POST_DISCHARGE. -/
def Ev.endRamp (v : Ev) (e : EngineId) (f : Formed) (degraded : Bool) : Ev :=
  let v := (v.onEngine e fun g => { g.quietDown with formed := some f, timeDegraded := degraded }).map
    (fun p => p.disarm e)
  v.enterDischarge e .postDischarge

/-- The engine takes a capture (R117, R137): its ramp time and its degraded mark. -/
def Ev.takeCapture (v : Ev) (e : EngineId) : Ev :=
  let g := v.p.engine e
  let c := v.p.time.captures.get e
  match g.phase, g.work with
  | some .ramp, some w =>
    let t := c.captureTick.getD 0 - c.armTick.getD 0
    v.endRamp e (formCapture w.record g.effCurrent t) c.degraded
  | _, _ => v

/-- A capture unit armed at a tick with the front end's answer (R103, R104). -/
def Capture.arm (t : Timebase) (alreadyCrossed : Bool) : Capture where
  state := if alreadyCrossed then .captured else .armed
  armTick := some t.tick
  captureTick := if alreadyCrossed then some t.tick else none
  degraded := decide (t.ref ≠ .external)

/-- Entry to RAMP with the front end's answer to the threshold command (R116). -/
def Ev.enterRamp (v : Ev) (e : EngineId) (alreadyCrossed : Bool) : Ev :=
  match (v.p.engine e).work with
  | none => v
  | some w =>
    let v := v.map fun p => p.setCapture e (Capture.arm p.time alreadyCrossed)
    let v := v.onEngine e fun g =>
      { g.quietDown with phase := some .ramp, stimulus := some g.effCurrent, parted := false,
                         threshold := some w.record.threshold,
                         phaseWait := some (v.p.dueIn (micros (w.record.rampLimit * 1000))) }
    if alreadyCrossed then v.takeCapture e else v

end Sys2Proof.Machine
end

