-- ==== Sys2Proof/Machine/Scanner.lean ====
section
/-! DEFINITION. The Shorts Scanner (chapter 8): the scan list, probes and group tests, the bisection stack,
pair records, waiting for space, and every end of a scan. -/

namespace Sys2Proof.Machine

/-- The Scanner's own state changed. -/
def Ev.onScanner (v : Ev) (f : Scanner → Scanner) : Ev := v.map fun p => { p with scanner := f p.scanner }

/-! ### Members and runs (R144, R146) -/

/-- Whether the member at a position is UNTESTED. -/
def Scanner.untested (s : Scanner) (i : Nat) : Bool :=
  match s.members[i]? with
  | some m => decide (m.state = .untested)
  | none => false

/-- The positions of a run's members: those UNTESTED within it. -/
def Scanner.run (s : Scanner) (first last : Nat) : List Nat :=
  ((List.range (last + 1 - first)).map (fun k => first + k)).filter s.untested

/-- The net of the member at a position. -/
def Scanner.netAt (s : Scanner) (i : Nat) : Nat :=
  match s.members[i]? with
  | some m => m.net
  | none => 0

/-- A member's state changed. -/
def Scanner.mark (s : Scanner) (i : Nat) (st : MemberState) : Scanner :=
  { s with members := s.members.modify i (fun m => { m with state := st }) }

/-! ### The end of a scan (R158 to R162) -/

/-- The summary of a scan; its time is set by the append (R158, R163). -/
def Scanner.summary (s : Scanner) (info : ScanInfo) (verdict : Verdict) (cause : Option Cause) : ResultRecord where
  kind := if info.origin.isSome then .scanSummary else .direct
  slot := info.origin
  tag := info.record.tag
  stepKind := info.record.kind
  engine := some info.engine
  verdict := verdict
  cause := cause
  qualifiers := { Qualifiers.none with clamped := s.clampMark, relaysReused := s.reuseMark }
  shape := .summary s.members.length s.tests s.pairs
  time := 0

/-- A scan ends: summary appended, engine told, slot DONE, completion reported, Scanner IDLE (R158, R159). It
goes back to its reset state whole, its last plan cards with it, which R159 does not name (assumption log 27). -/
def Ev.endScan (v : Ev) (verdict : Verdict) (cause : Option Cause) (card : Option Nat) (faulted : Bool) : Ev :=
  match v.p.scanner.scan with
  | none => v
  | some info =>
    let v := v.appendFinal (v.p.scanner.summary info verdict cause)
    let v := (v.turnOff info.engine).onEngine info.engine (fun g => g.ended faulted)
    let v := match info.origin with
      | some slot => v.map (fun p => p.slotDone slot)
      | none => v
    let v := v.onScanner (fun _ => .reset)
    { v with completions := v.completions ++ [⟨info.engine, info.origin, info.record, verdict, cause, card⟩] }

/-- A normal end: FAIL when a pair was found, PASS otherwise (R158). -/
def Ev.endScanNormally (v : Ev) : Ev :=
  v.endScan (if v.p.scanner.pairs = 0 then .pass else .fail) none none false

/-! ### Group tests (R146 to R148) -/

/-- The lowest FAILED card among some (R161). -/
def Part.lowestFailed (p : Part) (cards : List Nat) : Option Nat :=
  (List.range Config.cards).find? (fun c => decide (c ∈ cards) && decide ((p.card c).status = .failed))

/-- The wanted set of a group test, or its first net without a candidate: the probe nail in SH and KH, each
group nail in SL, and KL on the nail of the lowest member (R146, R147; assumption log 18). R147's class 1 is judged of the
probe's nail in SH alone, though it takes KH too, and of the lowest member's in SL: the model's choice (assumption
log 34). -/
def Part.groupPlan (p : Part) (e : EngineId) (isFirst : Bool) (probe : Nat) (group : List Nat) :
    Except Nat (List Pair) :=
  match p.scanNail e isFirst .sh probe with
  | some s =>
    let rec lows : List Nat → Bool → Except Nat (List Pair)
      | [], _ => .ok []
      | net :: rest, lowest => match p.scanNail e isFirst .sl net with
        | none => .error net
        | some n => match lows rest false with
          | .error x => .error x
          | .ok ps => .ok (if lowest then ⟨n, .sl⟩ :: ⟨n, .kl⟩ :: ps else ⟨n, .sl⟩ :: ps)
    match lows group true with
    | .error x => .error x
    | .ok ps => .ok (⟨s, .sh⟩ :: ⟨s, .kh⟩ :: ps)
  | none => .error probe

/-- The cards of a plan, ascending. -/
def planCards (plan : List Pair) : List Nat := (List.range Config.cards).filter (fun c => touches c plan)

/-- A group test of the current probe against the members of a run (R146 to R148); a card failure met here
ends the scan (R161). -/
def Ev.startTest (v : Ev) (purpose : TestPurpose) (first last : Nat) : Ev :=
  let s := v.p.scanner
  match s.scan, s.probe with
  | some info, some probe =>
    let isFirst := decide (s.planCards = [])
    match v.p.lowestFailed s.planCards with
    | some c => v.endScan .fault (some .cardFault) (some c) false
    | none =>
      let group := (s.run first last).map s.netAt
      match v.p.groupPlan info.engine isFirst (s.netAt probe) group with
      | .error net =>
        v.endScan .fault (some .cardFault) (v.p.lowestFailed ((v.p.nailsOf net).map cardOf)) false
      | .ok plan =>
        let (index, lowered) := v.p.effectiveCurrent info.record.current (s.netAt probe :: group)
        let (v, reclaimed) := v.sendPlan info.engine plan
        let v := v.onScanner fun s =>
          { s with state := .testing, test := some ⟨purpose, probe, first, last, lowered⟩,
                   planCards := planCards plan, clampMark := s.clampMark || lowered,
                   reuseMark := s.reuseMark || (isFirst && decide (1 ≤ reclaimed)) }
        let v := v.onEngine info.engine fun g =>
          { g.quietDown with phase := some .connect, effCurrent := index,
                             sampleSum := 0, sampleCount := 0, clip := false }
        v.judgeReady info.engine
  | _, _ => v

/-! ### Pairs (R152, R155 to R157) -/

/-- A pair record (R155); its time is set by the append. -/
def Scanner.pairRecord (s : Scanner) (info : ScanInfo) (partner : Nat) (x : Evidence) : ResultRecord where
  kind := .shortPair
  slot := info.origin
  tag := info.record.tag
  stepKind := info.record.kind
  engine := some info.engine
  verdict := .short
  cause := none
  qualifiers := { Qualifiers.none with clamped := x.lowered }
  shape := .pair (s.netAt (s.probe.getD 0)) (s.netAt partner) x.ohms
  time := 0

/-- A pair appended, its partner JOINED and the pair count raised; true when the Scanner goes on to its next
work, false when the limit has ended the scan (R152, R156). -/
def Ev.appendPair (v : Ev) (partner : Nat) (x : Evidence) : Ev × Bool :=
  let s := v.p.scanner
  match s.scan with
  | none => (v, false)
  | some info =>
    let v := v.append (s.pairRecord info partner x)
    let v := v.onScanner fun s =>
      { s.mark partner (.joined (s.netAt (s.probe.getD 0))) with pairs := s.pairs + 1 }
    if v.p.scanner.pairs = Config.pairLimit then (v.endScan .limit none none false, false) else (v, true)

/-- A partner reported: at once with a free record, otherwise pending with the engine in RESULT_WAIT (R152,
R157). -/
def Ev.reportPartner (v : Ev) (partner : Nat) (x : Evidence) : Ev × Bool :=
  if v.p.recordFree then v.appendPair partner x
  else
    let v := v.onScanner fun s => { s with state := .waitingSpace, pendingPair := some (partner, x) }
    match v.p.scanner.scan with
    | some info => (v.onEngine info.engine (fun g => { g with phase := some .resultWait }), false)
    | none => (v, false)

/-- A KNOWN_SHORT entry acted on: reported when it has one member, split when it has more (R152, R153); true
when the Scanner goes on to its next work. -/
def Ev.takeKnownShort (v : Ev) (entry : StackEntry) (x : Evidence) : Ev × Bool :=
  match v.p.scanner.run entry.first entry.last with
  | [] => (v, true)
  | [g] => v.reportPartner g x
  | ms =>
    let cut := ms.getD ((ms.length + 1) / 2 - 1) entry.first
    (v.startTest (.lower { entry with evidence := some x }) entry.first cut, false)

/-! ### Looking for work (R145) -/

/-- The Scanner's next work; each turn without a test, a wait or an end pops one entry. -/
def Ev.nextWorkAux : Nat → Ev → Ev
  | 0, v => v
  | fuel + 1, v =>
    let s := v.p.scanner
    match s.stack with
    | top :: rest =>
      let v := v.onScanner fun s => { s with stack := rest }
      match top.evidence with
      | some x =>
        let (v, more) := v.takeKnownShort top x
        if more then Ev.nextWorkAux fuel v else v
      | none =>
        if s.run top.first top.last = [] then Ev.nextWorkAux fuel v
        else v.startTest (.unknownEntry top) top.first top.last
    | [] =>
      match (List.range s.members.length).find? s.untested with
      | none => v.endScanNormally
      | some i =>
        let v := v.onScanner fun s => { s.mark i .probed with probe := some i }
        let last := s.members.length - 1
        if v.p.scanner.run (i + 1) last = [] then v.endScanNormally
        else v.startTest .probe (i + 1) last

/-- The Scanner looks for its next work. -/
def Ev.nextWork (v : Ev) : Ev := v.nextWorkAux (v.p.scanner.stack.length + 2)

/-- An entry pushed on top. -/
def Ev.push (v : Ev) (x : StackEntry) : Ev := v.onScanner fun s => { s with stack := x :: s.stack }

/-! ### Reports (R149, R151, R153, R154) -/

/-- What an engine reports of a group test that was measured (R126). -/
inductive TestReport where
  | sampled (sum : Int) (n : Nat) (clip : Bool)
  | openCircuit
deriving DecidableEq, Repr

/-- The evidence of a test, present exactly when it is short (R149). -/
def TestReport.evidence (r : StepRecord) (effCurrent : Nat) (lowered : Bool) : TestReport → Option Evidence
  | .openCircuit => none
  | .sampled sum n clip =>
    match formScanTest r effCurrent sum n clip with
    | some ohms => if ohms < (r.threshold : Int) then some ⟨ohms, lowered⟩ else none
    | none => none

/-- A test's report taken: counted, judged, acted on by its purpose, and the next work found. -/
def Ev.testReport (v : Ev) (report : TestReport) : Ev :=
  let s := v.p.scanner
  match s.scan, s.test with
  | some info, some test =>
    let found := report.evidence info.record (v.p.engine info.engine).effCurrent test.lowered
    let v := v.onScanner fun s => { s with test := none, tests := s.tests + 1 }
    match test.purpose, found with
    | .probe, some x => (v.push ⟨test.first, test.last, some x⟩).nextWork
    | .probe, none => v.nextWork
    | .lower entry, some x =>
      ((v.push ⟨test.last + 1, entry.last, none⟩).push ⟨entry.first, test.last, some x⟩).nextWork
    | .lower entry, none => (v.push ⟨test.last + 1, entry.last, entry.evidence⟩).nextWork
    | .unknownEntry entry, some x =>
      let (v, more) := v.takeKnownShort entry x
      if more then v.nextWork else v
    | .unknownEntry _, none => v.nextWork
  | _, _ => v

/-- A removal reported to the Scanner: in WAITING_SPACE the pending pair is appended and the next work taken
(R157). -/
def Ev.scannerRemoval (v : Ev) : Ev :=
  let s := v.p.scanner
  match s.state, s.pendingPair with
  | .waitingSpace, some (partner, x) =>
    if v.p.recordFree then
      let v := v.onScanner fun s => { s with state := .testing, pendingPair := none }
      let (v, more) := v.appendPair partner x
      if more then v.nextWork else v
    else v
  | _, _ => v

/-! ### The start of a scan (R143) -/

/-- The scan list of a range (R143). -/
def Part.scanList (p : Part) (r : StepRecord) : List Member :=
  ((p.scanNets r.high r.low).filter p.netUsable).map (fun n => ⟨n, .untested⟩)

/-- The Scanner takes a SCAN step and its engine, and looks for its first work. -/
def Ev.startScan (v : Ev) (info : ScanInfo) : Ev :=
  (v.onScanner fun _ =>
    { Scanner.reset with state := .testing, scan := some info, members := v.p.scanList info.record }).nextWork

end Sys2Proof.Machine
end

