-- ==== Sys2Proof/Machine/Dispatcher.lean ====
section
/-! DEFINITION. The Dispatcher (chapter 3): completions, halting errors and state entries, the window and
eligibility, dispatch, failure at dispatch, direct steps, and the close of an event. -/

namespace Sys2Proof.Machine

/-! ### Taking a completion (R65) -/

/-- SUSPECT marking: the GOOD nails a successful retry replaced (R67). -/
def Part.markReplaced (p : Part) (x : Entry) (verdict : Verdict) : Part :=
  if x.retrying ∧ verdict ≠ .openCircuit then
    x.excluded.foldl (fun p n =>
      if (p.nail n).condition = .good then p.setNail n { p.nail n with condition := .suspect } else p) p
  else p

/-- The first part of a completion: marking, the claims released, the held set formed, and the notice of a
ring step with NOTIFY, or the end of the direct step (R65 step 1, R67, R71, R89, R176, R177; assumption log 14). -/
def Ev.releaseStep (v : Ev) (c : Completion) : Ev :=
  let v := match v.p.disp.inFlight.get c.engine with
    | some x => v.map fun p => p.markReplaced x c.verdict
    | none => v
  let v := v.map fun p => p.setEntry c.engine none
  let v := (v.map fun p => { p with relay := p.relay.complete p.time c.engine }).look
  match c.origin with
  | some slot =>
    if c.record.notify then { v with steps := v.steps ++ [.notice (.step slot c.record.tag c.verdict)] } else v
  | none =>
    { (v.map fun p => { p with disp := { p.disp with direct := none } }) with
      askRemainder := true,
      entries := v.entries ++ [.notice (.direct c.record.tag c.record.kind (some c.engine) c.verdict c.cause)] }

/-- STOPPING becomes STOPPED when no ring step is in flight and the matrix is open (R51, R92). -/
def Ev.judgeStopped (v : Ev) : Ev :=
  if v.p.disp.seq = .stopping ∧ v.p.ringInFlight = false ∧ v.p.relay.matrixOpen then v.enterSeq .stopped else v

/-- The state entries of a completion: PAUSING without a ring step in flight enters PAUSED, RUNNING run dry
enters DRAINED (R46, R47, R65 step 4), and STOPPING may end. -/
def Ev.judgeState (v : Ev) : Ev :=
  match v.p.disp.seq with
  | .pausing => if v.p.ringInFlight then v else v.enterSeq .paused
  | .running => if v.p.ringInFlight ∨ v.p.ring.pendingSlots ≠ [] then v else v.enterSeq .drained
  | .stopping => v.judgeStopped
  | .stopped => v
  | .paused => v
  | .drained => v
  | .halted => v

/-- The halting error a ring step's completion is, if it is one (R68). -/
def Completion.error (c : Completion) : Option ErrorRecord :=
  let base : ErrorRecord := ⟨.stepFail, c.origin, some c.record.tag, some c.engine, none, none, 0⟩
  if c.verdict = .fault then
    c.cause.map fun k => { base with cause := k, card := if k = .cardFault then c.card else none }
  else if c.record.stopOnFail && c.verdict.failing then some base
  else none

/-- PAUSE_AFTER of a completed ring step (R48). -/
def Ev.pauseAfter (v : Ev) (c : Completion) : Ev :=
  if c.record.pauseAfter ∧ v.p.disp.seq = .running then
    v.enterSeq (if v.p.ringInFlight then .pausing else .paused)
  else v

/-- The second part of a completion: halting error, PAUSE_AFTER and state entries of a ring step, and the
window asked to be evaluated (R65 steps 2 to 5). -/
def Ev.judgeStep (v : Ev) (c : Completion) : Ev :=
  let v := { v with askEvaluate := true }
  if c.origin.isSome then
    let v := match c.error with
      | some r => v.haltingError r
      | none => v
    (v.pauseAfter c).judgeState
  else v

/-- A completion taken whole. -/
def Ev.takeCompletion (v : Ev) (c : Completion) : Ev := (v.releaseStep c).judgeStep c

/-- Every completion of the event taken, with `between` done after their claims are released and before any
of them is judged: the interlock's report of a removal or a vacuum loss stands there (assumption log 6). -/
def Ev.takeAll (v : Ev) (between : Ev → Ev) : Ev :=
  let cs := v.completions
  cs.foldl Ev.judgeStep (between (cs.foldl Ev.releaseStep { v with completions := [] }))

/-! ### The window and eligibility (section 3.2) -/

/-- Whether two net sets share a net. -/
def sharesNet (a b : List Nat) : Bool := a.any (fun n => decide (n ∈ b))

/-- Whether a net set shares no net with a step in flight (R55). -/
def Part.netsFree (p : Part) (nets : List Nat) : Bool := p.inFlight.all (fun x => !sharesNet x.nets nets)

/-- Whether a step must run alone: SOLO or SCAN (R56). -/
def StepRecord.alone (r : StepRecord) : Bool := r.solo || decide (r.kind = .scan)

/-- The BARRIER, SOLO and SCAN conditions (R56). -/
def Part.orderMet (p : Part) (r : StepRecord) (isOldest : Bool) : Bool :=
  let nothing := p.inFlight.isEmpty
  (!r.barrier || (isOldest && nothing)) && (!r.alone || nothing) && p.inFlight.all (fun x => !x.record.alone)

/-- The record of a slot. -/
def Part.slotRecord (p : Part) (i : Nat) : Option StepRecord := (p.slot i).record

/-- The window over PENDING slots: up to W of them, a BARRIER step only first and then alone (R53). -/
def Part.windowFrom (p : Part) : Nat → Bool → List Nat → List Nat
  | 0, _, _ => []
  | _ + 1, _, [] => []
  | n + 1, isOldest, i :: rest =>
    if ((p.slotRecord i).map StepRecord.barrier).getD false then (if isOldest then [i] else [])
    else i :: p.windowFrom n false rest

/-- The lookahead window. -/
def Part.windowSlots (p : Part) : List Nat := p.windowFrom p.disp.window true p.ring.pendingSlots

/-- Conditions 4 to 6 of R54. -/
def Part.served (p : Part) (r : StepRecord) : Bool :=
  !(p.idleEngines r).isEmpty && (p.requiredNets r).all (fun n => !(p.candidates none n).isEmpty) && p.recordFree

/-- Whether a step of the window is eligible, given the nets of the older PENDING steps (R54). -/
def Part.eligible (p : Part) (olderNets : List Nat) (isOldest : Bool) (r : StepRecord) : Bool :=
  let nets := p.netSet r
  decide (p.disp.seq = .running) && p.netsFree nets && !sharesNet olderNets nets
    && p.orderMet r isOldest && p.served r

/-- The oldest eligible step among slots of the window. -/
def Part.firstEligible (p : Part) : List Nat → Bool → List Nat → Option (Nat × StepRecord)
  | _, _, [] => none
  | olderNets, isOldest, i :: rest =>
    match p.slotRecord i with
    | none => p.firstEligible olderNets false rest
    | some r =>
      if p.eligible olderNets isOldest r then some (i, r)
      else p.firstEligible (olderNets ++ p.netSet r) false rest

/-! ### Dispatch (R64) -/

/-- The in-flight entry of a step. -/
def Part.entryOf (p : Part) (origin : Option Nat) (r : StepRecord) (nails : Option Nails) : Entry where
  origin := origin
  record := r
  nets := p.netSet r
  guardNets := if r.kind = .scan then [] else p.trimmedGuards r
  nails := nails
  twoWire := (nails.map (twoWireOf r.kind)).getD false
  guardTrimmed := decide ((p.trimmedGuards r).length ≠ (p.templateNets r).length)
  retrying := false
  excluded := []
  firstNails := nails

/-- What every dispatch does first: the reservation, the entry with its claims, the slot ACTIVE, the engine
ACTIVE in CONNECT (R64 steps 1 to 4). -/
def Part.beginStep (p : Part) (e : EngineId) (x : Entry) : Part :=
  let (index, clamped) :=
    if x.record.kind = .scan then (x.record.current, false)
    else p.effectiveCurrent x.record.current (x.record.high :: x.record.low :: x.guardNets)
  let work : Work := ⟨x.origin, x.record, x.nails, x.twoWire, x.guardTrimmed⟩
  let p := (p.reserve).setEntry e (some x)
  let p := match x.origin with
    | some slot => { p with ring := (p.ring.setState slot .active).advanceNext }
    | none => p
  p.setEngine e ((p.engine e).take work index clamped)

/-- A step dispatched on an engine (R64). -/
def Ev.dispatch (v : Ev) (e : EngineId) (origin : Option Nat) (r : StepRecord) : Ev :=
  if r.kind = .scan then
    (v.map fun p => p.beginStep e (p.entryOf origin r none)).startScan ⟨origin, e, r⟩
  else match v.p.resolve e r with
    | none => v
    | some nails =>
      let v := v.map fun p => p.beginStep e (p.entryOf origin r (some nails))
      let (v, reclaimed) := v.sendPlan e nails.pairs
      let v := v.onEngine e fun g => { g with reuseMark := decide (1 ≤ reclaimed) }
      v.judgeReady e

/-! ### Failure at dispatch (R59, R71) -/

/-- The final record of a step that never reached an engine (R59, R71). -/
def unservedRecord (origin : Option Nat) (r : StepRecord) (verdict : Verdict) (cause : Cause) : ResultRecord where
  kind := if origin.isNone then .direct else if r.kind = .scan then .scanSummary else .measurement
  slot := origin
  tag := r.tag
  stepKind := r.kind
  engine := none
  verdict := verdict
  cause := some cause
  qualifiers := .none
  shape := if r.kind = .scan then .summary 0 0 0 else .measurement none none
  time := 0

/-- Why a step cannot be served as it stands: NO_ENGINE first, then NO_NAIL with the first such net (R59). -/
def Part.unservable (p : Part) (r : StepRecord) : Option (Cause × Option Nat) :=
  if p.allFaulted r then some (.noEngine, none)
  else match (p.requiredNets r).find? (fun n => !p.netUsable n) with
    | some n => some (.noNail, some n)
    | none => none

/-- The oldest PENDING step failed at dispatch, when it is to fail (R59). -/
def Ev.judgeFailure (v : Ev) : Ev :=
  let p := v.p
  match p.disp.seq, p.ring.pendingSlots with
  | .running, i :: _ =>
    match p.slotRecord i with
    | none => v
    | some r =>
      if p.netsFree (p.netSet r) && p.orderMet r true && p.recordFree then
        match p.unservable r with
        | none => v
        | some (cause, net) =>
          let v := (v.map Part.reserve).appendFinal (unservedRecord (some i) r .fault cause)
          let v := v.map fun p => p.slotDone i
          let v := if r.notify then { v with steps := v.steps ++ [.notice (.step i r.tag .fault)] } else v
          v.haltingError ⟨cause, some i, some r.tag, none, none, net, 0⟩
      else v
  | _, _ => v

/-! ### Direct steps (section 3.8) -/

/-- The direct step ended without an engine: its record appended, the flag cleared, the notice sent (R71). -/
def Ev.endDirect (v : Ev) (r : StepRecord) (verdict : Verdict) (cause : Cause) : Ev :=
  let v := (v.map Part.reserve).appendFinal (unservedRecord none r verdict cause)
  { (v.map fun p => { p with disp := { p.disp with direct := none } }) with
    askRemainder := true, askEvaluate := true,
    entries := v.entries ++ [.notice (.direct r.tag r.kind none verdict (some cause))] }

/-- A direct step that waits is judged: ended, failed, dispatched, or left waiting (R58, R71). -/
def Ev.judgeDirect (v : Ev) : Ev :=
  let p := v.p
  match p.disp.direct, p.directEngine with
  | some d, none =>
    match d.ended with
    | some cause => if p.recordFree then v.endDirect d.record .aborted cause else v
    | none =>
      if p.disp.seq = .halted then v
      else match p.unservable d.record with
        | some (cause, _) => if p.recordFree then v.endDirect d.record .fault cause else v
        | none =>
          if p.netsFree (p.netSet d.record) && p.orderMet d.record true && p.served d.record then
            match p.idleEngines d.record with
            | e :: _ => v.dispatch e none d.record
            | [] => v
          else v
  | _, _ => v

/-- A removal or a vacuum loss reaches a waiting direct step (R71; assumption log 17). -/
def Part.endWaitingDirect (p : Part) (cause : Cause) : Part :=
  match p.disp.direct, p.directEngine with
  | some d, none =>
    if d.ended.isNone then { p with disp := { p.disp with direct := some { d with ended := some cause } } } else p
  | _, _ => p

/-! ### Evaluation (R58) -/

/-- Eligible steps dispatched, oldest first, until none is eligible. -/
def Ev.dispatchEligible : Nat → Ev → Ev
  | 0, v => v
  | fuel + 1, v =>
    match v.p.firstEligible [] true v.p.windowSlots with
    | none => v
    | some (i, r) =>
      match v.p.chooseEngine r with
      | none => v
      | some e => Ev.dispatchEligible fuel (v.dispatch e (some i) r)

/-- One evaluation pass: the direct step, failure at dispatch, then dispatch. -/
def Ev.evaluate (v : Ev) : Ev := (v.judgeDirect.judgeFailure).dispatchEligible 5

/-! ### The close of an event -/

/-- What an event still owes is done: completions taken, removals reported to the Scanner, the window
evaluated, and last the remainder block of a state entry (R65, R169, R58, R172, R175; assumption log 7). -/
def Ev.settle : Nat → Ev → Ev
  | 0, v => v
  | fuel + 1, v =>
    match v.completions with
    | c :: rest => Ev.settle fuel (({ v with completions := rest } : Ev).takeCompletion c)
    | [] =>
      if v.askRemoval then Ev.settle fuel ({ v with askRemoval := false } : Ev).scannerRemoval
      else if v.askEvaluate then Ev.settle fuel ({ v with askEvaluate := false } : Ev).evaluate
      else if v.askRemainder then Ev.settle fuel v.handRemainder
      else v

/-- Turns enough for every event: each step dispatched and ended within the event takes at most four. -/
def settleFuel : Nat := 6000

/-- The event closes: its frames are handed in the order of R175. -/
def Ev.close (v : Ev) : Part :=
  let v := v.settle settleFuel
  v.p.hand v.frames

/-! ### Aborts (R124, R125) -/

/-- An ACTIVE engine ends its work as ABORTED at once. -/
def Ev.abortNow (v : Ev) (e : EngineId) (cause : Cause) : Ev :=
  let scanning := (v.p.engine e).scanning
  let v := (v.onEngine e fun g => { g with abort := some (cause, false) }).turnOff e
  if scanning then v.endScan .aborted (some cause) none false
  else v.completeStep e ⟨.aborted, none⟩ (some cause) none false

/-- Whether an abort with discharge finds a capacitor to drain (R124). -/
def Engine.owesDischarge (g : Engine) : Bool :=
  g.isCap && (match g.phase with
    | some .discharge => true
    | some .ramp => true
    | some .postDischarge => g.phaseWait.isSome
    | _ => false)

/-- An abort with discharge taken by an engine (R124). -/
def Ev.abortWithDischarge (cause : Cause) (v : Ev) (e : EngineId) : Ev :=
  let g := v.p.engine e
  if g.state ≠ .active ∨ g.phase = some .abortDischarge then v
  else if g.owesDischarge then
    ((v.turnOff e).onEngine e fun g =>
      { g with abort := some (cause, true), formed := none }).enterDischarge e .abortDischarge
  else v.abortNow e cause

/-- An abort without discharge taken by an engine (R125). -/
def Ev.abortWithoutDischarge (cause : Cause) (v : Ev) (e : EngineId) : Ev :=
  if (v.p.engine e).state ≠ .active then v else v.abortNow e cause

/-- The ACTIVE engines, in an order the spec leaves open (assumption log 3). -/
def Ev.activeEngines (v : Ev) : List EngineId × Ev :=
  let (es, p) := freeOrder v.p (EngineId.all.filter (fun e => decide ((v.p.engine e).state = .active)))
  (es, { v with p := p })

/-- Every ACTIVE engine told to abort. -/
def Ev.abortAll (v : Ev) (abort : Ev → EngineId → Ev) : Ev :=
  let (es, v) := v.activeEngines
  es.foldl abort v

/-- A release-all asked of the Relay Sequencer: engines in ABORT_DISCHARGE keep their cards (R92). -/
def Ev.releaseAll (v : Ev) : Ev :=
  (v.map fun p => { p with
    relay := p.relay.releaseAll (fun e => decide ((p.engine e).phase = some .abortDischarge)) }).look

/-! ### One event -/

/-- A command's meaning from what it does to the event: the event begins on the part, is acted on, and
closes; the queue is left as it is. -/
def event (s : State) (f : Ev → Ev) : Host.Outcome State Fault Refusal :=
  .next { s with part := (f (Ev.start s.part)).close }

end Sys2Proof.Machine
end

