-- ==== Sys2Proof/Machine/Fixture.lean ====
section
/-! DEFINITION. The fixture interlock (section 1.4): line filters, dock, undock, vacuum, the identity read,
and the fixture checks of R21. -/

namespace Sys2Proof.Machine

/-! ### Line filters (R16) -/

/-- A line's raw level changes: a differing level starts a debounce wait, a returning one cancels it. -/
def LineFilter.change (t : Timebase) (l : LineFilter) (asserted : Bool) : LineFilter :=
  if asserted = l.raw then l
  else ⟨asserted, l.level, if asserted = l.level then none else some (t.dueIn Config.debounceTicks)⟩

/-- A line's filter. -/
def Interlock.line (k : Interlock) : FixtureLine → LineFilter
  | .fixturePresent => k.presentLine
  | .vacuumGood => k.vacuumLine

/-- A line's filter replaced. -/
def Interlock.setLine (k : Interlock) (line : FixtureLine) (l : LineFilter) : Interlock :=
  match line with
  | .fixturePresent => { k with presentLine := l }
  | .vacuumGood => { k with vacuumLine := l }

/-- The interlock changed. -/
def Part.onLock (p : Part) (f : Interlock → Interlock) : Part := { p with lock := f p.lock }

/-- A change of a raw line. -/
def Ev.rawChange (line : FixtureLine) (asserted : Bool) (v : Ev) : Ev :=
  v.map fun p => p.onLock fun k => k.setLine line ((k.line line).change p.time asserted)

/-! ### Fixture events -/

/-- A FIXTURE_NOTICE with the interlock state as it stands (R22). -/
def Ev.fixtureNotice (v : Ev) (change : FixtureChange) : Notice := .fixture v.p.fixtureView change

/-- Dock (R17, R18): the identity read and its 2 ms limit start. -/
def Ev.dock (v : Ev) : Ev :=
  let v := v.map fun p => p.onLock fun k =>
    { k with docked := true, identity := .reading, readStart := some p.time.tick,
             identityLimit := some (p.dueIn Config.identityTicks) }
  v.noteFirst (v.fixtureNotice .dock)

/-- The halting error an interlock event reports; no field but the cause is present (R68). -/
def interlockError (cause : Cause) : ErrorRecord := ⟨cause, none, none, none, none, none, 0⟩

/-- Undock (R19). -/
def Ev.undock (v : Ev) : Ev :=
  let v := v.map fun p => p.onLock fun k => 
    { k with docked := false, identity := .absent, readStart := none, identityLimit := none }
  let v := (v.map fun p => { p with relay := p.relay.askAllOpen }).look
  let v := (v.abortAll (Ev.abortWithoutDischarge .fixtureRemoved)).map (fun p => p.endWaitingDirect .fixtureRemoved)
  let v := v.takeAll (fun v => v.haltingError (interlockError .fixtureRemoved))
  let v := v.noteLast (v.fixtureNotice .undock)
  { v with askEvaluate := true }

/-- Vacuum lost (R20). -/
def Ev.vacuumLost (v : Ev) : Ev :=
  let v := v.map fun p => p.onLock fun k => { k with vacuum := false }
  let v := v.noteFirst (v.fixtureNotice .vacuumLost)
  if v.p.lock.docked then
    let v := (v.abortAll (Ev.abortWithDischarge .vacuumLost)).map (fun p => p.endWaitingDirect .vacuumLost)
    let v := v.releaseAll.takeAll (fun v => v.haltingError (interlockError .vacuumLost))
    let v := v.judgeStopped
    { v with askEvaluate := true }
  else v

/-- Vacuum good (R20). -/
def Ev.vacuumGood (v : Ev) : Ev :=
  let v := v.map fun p => p.onLock fun k => { k with vacuum := true }
  v.noteFirst (v.fixtureNotice .vacuumGood)

/-- The event of a line whose debounced level has taken a level (R16). -/
def Ev.lineEvent (v : Ev) (line : FixtureLine) (asserted : Bool) : Ev :=
  match line, asserted with
  | .fixturePresent, true => v.dock
  | .fixturePresent, false => v.undock
  | .vacuumGood, true => v.vacuumGood
  | .vacuumGood, false => v.vacuumLost

/-- A debounce wait completes: the debounced level takes the raw level and the line's event is taken (R16). -/
def Ev.debounced (line : FixtureLine) (v : Ev) : Ev :=
  let l := v.p.lock.line line
  match l.wait with
  | none => v
  | some due =>
    let v := v.map fun p => (p.reach due).onLock fun k => k.setLine line ⟨l.raw, l.raw, none⟩
    v.lineEvent line l.raw

/-! ### The identity read (R18) -/

/-- The sum of some bytes modulo 256. -/
def byteSum (bs : List Byte) : Byte := bs.foldl (· + ·) 0

/-- What a finished transfer leaves: KNOWN with the eight identity bytes when the nine bytes sum to 0
(assumption log 26). -/
def identityOutcome : IdentityTransfer → IdentityRead
  | .notAcknowledged => .unreadable
  | .bytes read =>
    if read.length = 9 ∧ byteSum read = 0 then .known (BitVec.ofNat 64 (u64At read 0)) else .unreadable

/-- The read ends, with its notice. -/
def Ev.identityEnds (v : Ev) (outcome : IdentityRead) : Ev :=
  let v := v.map fun p => p.onLock fun k => { k with identity := outcome, readStart := none, identityLimit := none }
  v.noteFirst (v.fixtureNotice .identityRead)

/-- The least time a transfer takes from the dock event: twelve bytes of nine clock periods each when it is read
whole, and one byte when the plug does not acknowledge (R18). -/
def identityLeastTicks : IdentityTransfer → Nat
  | .notAcknowledged => Config.transferByteTicks
  | .bytes _ => Config.transferTicks

/-- The part at the first tick at which a transfer that began with the read can have ended (R18; assumption
log 4). -/
def Part.reachTransfer (p : Part) (transfer : IdentityTransfer) : Part :=
  match p.lock.readStart with
  | some start => p.reach (start + identityLeastTicks transfer)
  | none => p

/-- Whether the read's limit has passed: a transfer that ends later has not finished in time (R18). -/
def Part.readOverdue (p : Part) : Bool :=
  match p.lock.identityLimit with
  | some due => decide (due < p.time.tick)
  | none => false

/-- A transfer ends, not before its least time, and UNREADABLE when the limit has passed; without a read under way
nothing happens. -/
def Ev.identityTransferred (transfer : IdentityTransfer) (v : Ev) : Ev :=
  if v.p.lock.identity = .reading then
    let v := v.map fun p => p.reachTransfer transfer
    v.identityEnds (if v.p.readOverdue then .unreadable else identityOutcome transfer)
  else v

/-- The 2 ms limit of the read completes. -/
def Ev.identityLimited (v : Ev) : Ev :=
  match v.p.lock.identityLimit with
  | none => v
  | some due => (v.map (fun p => p.reach due)).identityEnds .unreadable

/-! ### The fixture checks (R21) -/

/-- The first fixture check that fails. -/
def Part.fixtureCheck (p : Part) : Option Status :=
  if !p.lock.docked then some .fixtureAbsent
  else match p.lock.identity with
    | .known value =>
      if p.map.declared ≠ some value then some .identityMismatch
      else if !p.lock.vacuum then some .vacuumLow
      else none
    | .absent => some .fixtureUnknown
    | .reading => some .fixtureUnknown
    | .unreadable => some .fixtureUnknown

/-! ### The commands -/

/-- RAW_LINE_CHANGE (R16). -/
def execRawLineChange (line : FixtureLine) (asserted : Bool) (s : State) : Host.Outcome State Fault Refusal :=
  event s (Ev.rawChange line asserted)

/-- DEBOUNCE_COMPLETE (R16, R17, R19, R20). -/
def execDebounceComplete (line : FixtureLine) (s : State) : Host.Outcome State Fault Refusal :=
  event s (Ev.debounced line)

/-- IDENTITY_READ_END (R18). -/
def execIdentityReadEnd (transfer : IdentityTransfer) (s : State) : Host.Outcome State Fault Refusal :=
  event s (Ev.identityTransferred transfer)

/-- IDENTITY_READ_LIMIT (R18). -/
def execIdentityReadLimit (s : State) : Host.Outcome State Fault Refusal := event s Ev.identityLimited

end Sys2Proof.Machine
end

