-- ==== Sys2Proof/Machine/Layout.lean ====
section
/-! DEFINITION. The byte layouts (chapter 11): the codes of enumerated fields, the records and bodies the
manual lays out, the frame with its CRC (R183), and the time a frame takes on the line (R188). -/

namespace Sys2Proof.Machine

/-! ### Numbers as bytes -/

/-- `k` bytes of a number, least significant first. -/
def leBytes : Nat → Nat → List Byte
  | 0, _ => []
  | k + 1, n => BitVec.ofNat 8 (n % 256) :: leBytes k (n / 256)

/-- A 2-byte field that may be absent: 0xFFFF. -/
def optBytes2 (x : Option Nat) : List Byte := leBytes 2 (x.getD 0xFFFF)

/-- A 1-byte field that may be absent: 0xFF. -/
def optByte (x : Option Nat) : Byte := BitVec.ofNat 8 (x.getD 0xFF)

/-- A signed or unsigned 4-byte field. -/
def intBytes4 (v : Int) : List Byte := leBytes 4 (BitVec.ofInt 32 v).toNat

/-! ### Codes (section 11.6) -/

/-- Step kind codes. -/
def StepKind.code : StepKind → Byte
  | .res2 => 0
  | .res4 => 1
  | .diode => 2
  | .cap => 3
  | .scan => 4

/-- Verdict codes. -/
def Verdict.code : Verdict → Byte
  | .pass => 0
  | .low => 1
  | .high => 2
  | .openCircuit => 3
  | .overrange => 4
  | .fault => 5
  | .aborted => 6
  | .fail => 7
  | .limit => 8
  | .short => 9

/-- Cause codes. -/
def Cause.code : Cause → Byte
  | .engineTimeout => 0
  | .cardFault => 1
  | .noEngine => 2
  | .noNail => 3
  | .fixtureRemoved => 4
  | .vacuumLost => 5
  | .stopped => 6
  | .stepFail => 7

/-- Record kind codes (R195). -/
def RecordKind.code : RecordKind → Byte
  | .measurement => 0
  | .shortPair => 1
  | .scanSummary => 2
  | .direct => 3

/-- Status codes; OK is 0. -/
def Status.code : Status → Byte
  | .ok => 0
  | .badKind => 1
  | .badLength => 2
  | .badValue => 3
  | .badState => 4
  | .busy => 5
  | .slotLive => 6
  | .notStaged => 7
  | .ringFull => 8
  | .mapFrozen => 9
  | .mapNotFrozen => 10
  | .nailAbsent => 11
  | .netFull => 12
  | .notMapped => 13
  | .sameNet => 14
  | .fixtureAbsent => 15
  | .fixtureUnknown => 16
  | .identityMismatch => 17
  | .vacuumLow => 18
  | .logUnread => 19
  | .limitOrder => 20

/-- Sequencer state codes. -/
def SeqState.code : SeqState → Byte
  | .stopped => 0
  | .running => 1
  | .pausing => 2
  | .paused => 3
  | .drained => 4
  | .halted => 5
  | .stopping => 6

/-- Slot state codes. -/
def SlotState.code : SlotState → Byte
  | .empty => 0
  | .staged => 1
  | .pending => 2
  | .active => 3
  | .done => 4

/-- Reference state codes. -/
def RefState.code : RefState → Byte
  | .recovery => 0
  | .verifying => 1
  | .external => 2

/-- Relay condition codes. -/
def RelayReading.code : RelayReading → Byte
  | .openCircuit => 0
  | .closing => 1
  | .closed => 2
  | .opening => 3
  | .unknown => 4

/-- Card status codes. -/
def CardStatus.code : CardStatus → Byte
  | .absent => 0
  | .ready => 1
  | .failed => 2

/-- Identity read state codes. -/
def IdentityRead.code : IdentityRead → Byte
  | .absent => 0
  | .reading => 1
  | .known _ => 2
  | .unreadable => 3

/-- Engine state codes. -/
def EngineState.code : EngineState → Byte
  | .idle => 0
  | .active => 1
  | .faulted => 2

/-- Phase codes. -/
def Phase.code : Phase → Byte
  | .connect => 0
  | .discharge => 1
  | .null => 2
  | .settle => 3
  | .integrate => 4
  | .ramp => 5
  | .postDischarge => 6
  | .abortDischarge => 7
  | .resultWait => 8

/-- Map state codes. -/
def MapState.code : MapState → Byte
  | .editable => 0
  | .frozen => 1

/-- FIXTURE_NOTICE change codes. -/
def FixtureChange.code : FixtureChange → Byte
  | .dock => 0
  | .undock => 1
  | .identityRead => 2
  | .vacuumGood => 3
  | .vacuumLost => 4

/-- Codes of the reset carried by READY. -/
def ResetCause.code : ResetCause → Byte
  | .powerOn => 0
  | .partReset => 1

/-- Plan state codes. -/
def PlanState.code : PlanState → Byte
  | .none => 0
  | .connecting => 1
  | .ready => 2
  | .releaseAtEnd => 3

/-- Card assignment codes. -/
def Assignment.code : Assignment → Byte
  | .unassigned => 0
  | .planned _ => 1
  | .held _ => 2

/-- Codes of a card's queued update. -/
def Stage.code : Option Stage → Byte
  | none => 0
  | some .stageA => 1
  | some .final => 2

/-- Nail condition codes (section 11.4). -/
def NailCondition.code : NailCondition → Byte
  | .good => 0
  | .suspect => 1
  | .disabled => 2

/-- Block reason codes (R195). -/
def BlockReason.code : BlockReason → Byte
  | .full => 0
  | .remainder => 1

/-- Qualifier bits. -/
def Qualifiers.bits (q : Qualifiers) : Byte :=
  BitVec.ofNat 8 (q.clamped.toNat + 2 * q.twoWire.toNat + 4 * q.guardTrimmed.toNat + 8 * q.retried.toNat
    + 16 * q.timeDegraded.toNat + 32 * q.relaysReused.toNat)

/-! ### Records -/

/-- The 34 bytes of a step record (section 11.3). -/
def StepRecord.bytes (r : StepRecord) : List Byte :=
  leBytes 2 r.tag ++ [r.kind.code, BitVec.ofNat 8 r.template] ++ leBytes 2 r.high ++ leBytes 2 r.low
    ++ [BitVec.ofNat 8 r.current, BitVec.ofNat 8 r.gain, BitVec.ofNat 8 r.aperture, BitVec.ofNat 8 r.count]
    ++ leBytes 2 r.settle ++ leBytes 2 r.discharge ++ leBytes 4 r.threshold ++ leBytes 2 r.rampLimit
    ++ [r.presence, r.mask] ++ leBytes 4 r.lowLimit.toNat ++ leBytes 4 r.highLimit.toNat
    ++ leBytes 2 r.flags.toNat

/-- The 3 bytes of a nail entry (section 11.4). -/
def NailEntry.bytes (x : NailEntry) : List Byte := leBytes 2 x.net ++ [x.condition.code]

/-- Bytes 16 to 31 of a result record (R195). -/
def RecordShape.bytes : RecordShape → List Byte
  | .measurement value nails =>
    intBytes4 (value.getD 0) ++ optBytes2 (nails.map (·.1)) ++ optBytes2 (nails.map (·.2))
      ++ [if value.isSome then 1 else 0] ++ leBytes 7 0
  | .pair probe partner evidence =>
    leBytes 2 probe ++ leBytes 2 partner ++ intBytes4 evidence ++ leBytes 8 0
  | .summary nets tests pairs =>
    leBytes 2 nets ++ leBytes 2 tests ++ leBytes 2 pairs ++ leBytes 10 0

/-- The 32 bytes of a result record (R195). -/
def ResultRecord.bytes (r : ResultRecord) : List Byte :=
  [r.kind.code, r.stepKind.code] ++ optBytes2 r.slot ++ leBytes 2 r.tag
    ++ [optByte (r.engine.map EngineId.index), r.verdict.code,
        (match r.cause with
          | some c => c.code
          | none => 0xFF),
        r.qualifiers.bits]
    ++ leBytes 6 r.time ++ r.shape.bytes

/-- The 14-byte block header and the records of a RESULT_BLOCK (R195). -/
def ResultBlock.bytes (b : ResultBlock) : List Byte :=
  leBytes 2 b.number ++ [BitVec.ofNat 8 b.records.length, b.reason.code] ++ leBytes 2 b.stored
    ++ [BitVec.ofNat 8 b.reserved] ++ leBytes 6 b.time ++ [b.seq.code]
    ++ b.records.flatMap ResultRecord.bytes

/-- The 16 bytes of an error log record with the further-error count (section 11.5). -/
def ErrorRecord.bytes (r : ErrorRecord) (further : Nat) : List Byte :=
  [r.cause.code] ++ optBytes2 r.slot ++ leBytes 2 (r.tag.getD 0) ++ [optByte (r.engine.map EngineId.index),
    optByte r.card] ++ optBytes2 r.net ++ leBytes 6 r.time ++ [BitVec.ofNat 8 further]

/-! ### Bodies -/

/-- The body of an OK reply where the manual lays it out. A reply that carries nothing is its status byte. -/
def Reply.bytes? : Reply → Option (List Byte)
  | .done => some [0]
  | .nails first entries =>
    some ([0] ++ leBytes 2 first ++ [BitVec.ofNat 8 entries.length] ++ entries.flatMap NailEntry.bytes)
  | .results records stored reserved =>
    some ([0, BitVec.ofNat 8 records.length] ++ records.flatMap ResultRecord.bytes ++ leBytes 2 stored
      ++ [BitVec.ofNat 8 reserved])
  | .errorLog none => some [0, 0]
  | .errorLog (some (r, further)) => some ([0, 1] ++ r.bytes further)
  | .net _ _ => none
  | .frozen _ _ => none
  | .unmarked _ => none
  | .fixture _ _ _ => none
  | .slotWritten _ => none
  | .slot _ _ _ _ _ => none
  | .committed _ _ _ _ => none
  | .template _ => none
  | .status _ => none
  | .relay _ => none
  | .time _ _ _ => none
  | .describe _ => none
  | .settings _ _ _ => none

/-- The body of a frame where the manual lays it out: refusals (section 11.1), RESULT_BLOCKs and the replies
above. -/
def OutFrame.bytes? : OutFrame → Option (List Byte)
  | .reply _ _ body => body.bytes?
  | .refused _ _ st detail => some (st.code :: optBytes2 detail)
  | .notice (.block b) => some b.bytes
  | .notice (.ready _ _ _ _) => none
  | .notice (.seq _ _ _ _) => none
  | .notice (.step _ _ _) => none
  | .notice (.fixture _ _) => none
  | .notice (.reference _ _ _) => none
  | .notice (.card _ _ _ _) => none
  | .notice (.direct _ _ _ _ _) => none

/-- FREE VALUE (assumption log 5): the bytes of a body whose layout the manual does not give. Nothing
constrains it; its use keeps the manual's bound on a payload. -/
opaque Config.unstatedBody : OutFrame → List Byte

/-- Whether a frame is a reply of either kind. -/
def OutFrame.isReply : OutFrame → Bool
  | .reply _ _ _ => true
  | .refused _ _ _ _ => true
  | .notice _ => false

/-- The body of a frame. A reply begins with its status byte (R189), and a payload has at most 1,040 bytes. -/
def OutFrame.body (f : OutFrame) : List Byte :=
  match f.bytes? with
  | some b => b
  | none => if f.isReply then 0 :: (Config.unstatedBody f).take 1037 else (Config.unstatedBody f).take 1038

/-- The message kind of a notice (section 11.2). -/
def Notice.code : Notice → Byte
  | .ready _ _ _ _ => 0x80
  | .seq _ _ _ _ => 0x81
  | .step _ _ _ => 0x82
  | .fixture _ _ => 0x83
  | .reference _ _ _ => 0x84
  | .card _ _ _ _ => 0x85
  | .direct _ _ _ _ _ => 0x86
  | .block _ => 0x87

/-- The request number and the message kind of a frame (R185). -/
def OutFrame.header : OutFrame → Byte × Byte
  | .reply number kind _ => (number, kind)
  | .refused number kind _ _ => (number, kind)
  | .notice n => (0, n.code)

/-! ### The frame (R183, section 11.1) -/

/-- One bit of the CRC. -/
def crcBit (c : BitVec 16) : BitVec 16 := if c.msb then (c <<< 1) ^^^ 0x1021#16 else c <<< 1

/-- One byte taken into the CRC, most significant bit first. -/
def crcByte (c : BitVec 16) (b : Byte) : BitVec 16 :=
  crcBit (crcBit (crcBit (crcBit (crcBit (crcBit (crcBit (crcBit (c ^^^ (b.setWidth 16 <<< 8)))))))))

/-- The CRC of some bytes, from 0xFFFF. -/
def crc16 (bs : List Byte) : BitVec 16 := bs.foldl crcByte 0xFFFF#16

/-- A frame of a payload: SYNC, length, payload, CRC high byte first. -/
def frameOf (payload : List Byte) : List Byte :=
  let covered := leBytes 2 payload.length ++ payload
  let crc := (crc16 covered).toNat
  0xA5 :: covered ++ [BitVec.ofNat 8 (crc / 256), BitVec.ofNat 8 (crc % 256)]

/-- The bytes of a request frame. -/
def InFrame.bytes (f : InFrame) : List Byte := frameOf (f.number :: f.kind :: f.body)

/-- The bytes of a frame the part sends. -/
def OutFrame.bytes (f : OutFrame) : List Byte := frameOf (f.header.1 :: f.header.2 :: f.body)

/-- The ticks a frame occupies the line, (L + 5) × 5 µs (R188). -/
def OutFrame.lineTicks (f : OutFrame) : Nat := (f.body.length + 2 + 5) * Config.byteTicks

end Sys2Proof.Machine
end

