-- ==== Sys2Proof/Machine/Requests.lean ====
section
/-! DEFINITION. What the owner of each request does with its body (R186 step 5): the owners' checks in their
order, the reply, and the change. Every refusal leaves the part as it was (R189). -/

namespace Sys2Proof.Machine

/-! ### The Fixture Map (section 1.3) -/

/-- The map changed. -/
def Part.onMap (p : Part) (f : FixtureMap → FixtureMap) : Part := { p with map := f p.map }

/-- The ring changed. -/
def Part.onRing (p : Part) (f : Ring → Ring) : Part := { p with ring := f p.ring }

/-- MAP_CURSOR (R7). -/
def ownMapCursor (b : List Byte) (v : Ev) : Ev :=
  let n := u16At b 0
  if Config.nails ≤ n then v.refuse .badValue
  else (v.map fun p => p.onMap fun m => { m with cursor := n }).reply .done

/-- The entries of a MAP_NAILS body, `none` when one is refused (R8 check 5). -/
def mapNailsEntries (b : List Byte) (count : Nat) : Option (List NailEntry) :=
  (List.range count).mapM (fun i => nailEntryAt b (1 + 3 * i))

/-- The entries of a run with their nails. -/
def runOf (first : Nat) (entries : List NailEntry) : List (Nat × NailEntry) :=
  (List.range entries.length).map (fun i => first + i) |>.zip entries

/-- The lowest nail of a run that would be mapped on an ABSENT card (R8 check 6). -/
def Part.absentNail (p : Part) (run : List (Nat × NailEntry)) : Option Nat :=
  (run.find? (fun x => decide (x.2.net ≠ 0) && decide ((p.card (cardOf x.1)).status = .absent))).map (·.1)

/-- Whether a run moves a nail onto a net it is not on. -/
def Part.arrives (p : Part) (x : Nat × NailEntry) (net : Nat) : Bool :=
  decide (x.2.net = net) && decide ((p.nail x.1).net ≠ net)

/-- The nails of a net that a run leaves on it. -/
def Part.keptNails (p : Part) (run : List (Nat × NailEntry)) (net : Nat) : List Nat :=
  (p.nailsOf net).filter (fun n => run.all (fun x => decide (x.1 ≠ n) || decide (x.2.net = net)))

/-- The first nail of a run whose arrival takes a net past 8 (R8 check 7; assumption log 15). -/
def Part.overfullNail (p : Part) (run : List (Nat × NailEntry)) : Option Nat :=
  (run.find? (fun x => decide (x.2.net ≠ 0) && p.arrives x x.2.net
    && decide (Config.nailsPerNet < (p.keptNails run x.2.net).length
        + (run.filter (fun y => decide (y.1 ≤ x.1) && p.arrives y x.2.net)).length))).map (·.1)

/-- A run written (R9). -/
def Part.writeRun (p : Part) (run : List (Nat × NailEntry)) : Part :=
  let p := run.foldl (fun p x => p.setNail x.1 x.2) p
  p.onMap fun m => { m with cursor := m.cursor + run.length }

/-- MAP_NAILS (R8, R9). -/
def ownMapNails (b : List Byte) (v : Ev) : Ev :=
  let count := byteAt b 0
  if v.p.map.state = .frozen then v.refuse .mapFrozen
  else if b = [] ∨ b.length ≠ 1 + 3 * count then v.refuse .badLength
  else if count = 0 ∨ 64 < count then v.refuse .badValue
  else if Config.nails < v.p.map.cursor + count then v.refuse .badValue
  else match mapNailsEntries b count with
    | none => v.refuse .badValue
    | some entries =>
      let run := runOf v.p.map.cursor entries
      match v.p.absentNail run, v.p.overfullNail run with
      | some n, _ => v.refuse .nailAbsent (some n)
      | none, some n => v.refuse .netFull (some n)
      | none, none => (v.map fun p => p.writeRun run).reply .done

/-- MAP_READ (R10). At the cursor 4096 the reply without entries names 4096 as its first nail, which R10 leaves open: the
model's choice (assumption log 32). -/
def ownMapRead (b : List Byte) (v : Ev) : Ev :=
  let count := byteAt b 0
  if count = 0 ∨ 64 < count then v.refuse .badValue
  else
    let first := v.p.map.cursor
    let k := min count (Config.nails - first)
    let entries := (List.range k).map (fun i => v.p.nail (first + i))
    (v.map fun p => p.onMap fun m => { m with cursor := first + k }).reply (.nails first entries)

/-- MAP_NETATTR (R11). -/
def ownMapNetattr (b : List Byte) (v : Ev) : Ev :=
  let net := u16At b 0
  let bits := byteAt b 2
  if v.p.map.state = .frozen then v.refuse .mapFrozen
  else if net = 0 ∨ Config.maxNet < net ∨ 3 < bits then v.refuse .badValue
  else
    let attrs : NetAttrs := ⟨bits % 2 = 1, bits / 2 = 1⟩
    (v.map fun p => p.onMap fun m => { m with attrs := store .unlisted m.attrs net attrs }).reply
      (.net (v.p.nailsOf net) attrs)

/-- MAP_IDENTITY (R12). -/
def ownMapIdentity (b : List Byte) (v : Ev) : Ev :=
  if v.p.map.state = .frozen then v.refuse .mapFrozen
  else (v.map fun p => p.onMap fun m => { m with declared := some (BitVec.ofNat 64 (u64At b 0)) }).reply .done

/-- The number of mapped nails (R13). -/
def FixtureMap.mappedCount (m : FixtureMap) : Nat := (m.nails.filter (fun x => decide (x.2.net ≠ 0))).length

/-- The number of nets whose nail list is not empty (R13). -/
def FixtureMap.netCount (m : FixtureMap) : Nat :=
  (((m.nails.map (fun x => x.2.net)).filter (fun n => decide (n ≠ 0))).eraseDups).length

/-- MAP_FREEZE (R13). -/
def ownMapFreeze (_ : List Byte) (v : Ev) : Ev :=
  if v.p.map.state = .editable ∧ v.p.map.declared = none then v.refuse .badState
  else (v.map fun p => p.onMap fun m => { m with state := .frozen }).reply
    (.frozen v.p.map.mappedCount v.p.map.netCount)

/-- MAP_CLEAR (R14). -/
def ownMapClear (_ : List Byte) (v : Ev) : Ev :=
  if v.p.disp.seq ≠ .stopped then v.refuse .badState
  else if v.p.disp.direct.isSome then v.refuse .busy
  else (v.map fun p => { p with map := .reset, ring := .reset }).reply .done

/-- The SUSPECT nails. -/
def FixtureMap.suspects (m : FixtureMap) : List (Nat × NailEntry) :=
  m.nails.filter (fun x => decide (x.2.condition = .suspect))

/-- MAP_UNMARK (R15). -/
def ownMapUnmark (_ : List Byte) (v : Ev) : Ev :=
  let marked := v.p.map.suspects
  (v.map fun p => marked.foldl (fun p x => p.setNail x.1 { x.2 with condition := .good }) p).reply
    (.unmarked marked.length)

/-- FIXTURE_QUERY (R22). -/
def ownFixtureQuery (_ : List Byte) (v : Ev) : Ev :=
  v.reply (.fixture v.p.fixtureView v.p.map.declared v.p.map.state)

/-! ### The Step Ring and the Template Store (chapter 2) -/

/-- STEP_WRITE (R29, R30). -/
def ownStepWrite (b : List Byte) (v : Ev) : Ev :=
  let slot := u16At b 0
  if Config.slots ≤ slot then v.refuse .badValue
  else if v.p.map.state ≠ .frozen then v.refuse .mapNotFrozen
  else if v.p.ring.isLive slot then v.refuse .slotLive
  else match v.p.checkedRecordAt b 2 with
    | .error (st, detail) => v.refuse st detail
    | .ok r => (v.map fun p => p.onRing (fun g => g.setSlot slot ⟨.staged, some r⟩)).reply (.slotWritten slot)

/-- STEP_READ (R31). -/
def ownStepRead (b : List Byte) (v : Ev) : Ev :=
  let slot := u16At b 0
  if Config.slots ≤ slot then v.refuse .badValue
  else
    let x := v.p.slot slot
    v.reply (.slot x.state x.record v.p.ring.head v.p.ring.next v.p.ring.commit)

/-- The number of slots a STEP_COMMIT commits. -/
def Ring.commitCount (r : Ring) (c : Nat) : Nat := (c + Config.slots - r.commit) % Config.slots

/-- A run of slots made PENDING, and COMMIT moved (R38). -/
def Ring.commitTo (r : Ring) (c : Nat) : Ring :=
  { (ringRun r.commit (r.commitCount c)).foldl (fun r i => r.setState i .pending) r with commit := c }

/-- The Dispatcher's act on a commit: DRAINED runs again or enters PAUSED (R38), and in every state the commit asks for
an evaluation, in which a waiting direct step is judged (R58, R70). -/
def Ev.commitReported (v : Ev) : Ev :=
  let v := match v.p.disp.seq with
    | .drained => v.enterSeq (if v.p.fixtureCheck = none then .running else .paused)
    | .running => v
    | .stopped => v
    | .pausing => v
    | .paused => v
    | .halted => v
    | .stopping => v
  { v with askEvaluate := true }

/-- STEP_COMMIT (R37, R38). -/
def ownStepCommit (b : List Byte) (v : Ev) : Ev :=
  let c := u16At b 0
  let r := v.p.ring
  if Config.slots ≤ c then v.refuse .badValue
  else if c = r.commit then v.refuse .badValue
  else if Config.maxLive < r.live + r.commitCount c then v.refuse .ringFull
  else match (ringRun r.commit (r.commitCount c)).find? (fun i => decide (r.stateOf i ≠ .staged)) with
    | some i => v.refuse .notStaged (some i)
    | none =>
      let v := v.map fun p => p.onRing (fun g => g.commitTo c)
      (v.reply (.committed v.p.ring.head v.p.ring.next v.p.ring.commit v.p.ring.live)).commitReported

/-- RING_RESET (R41). -/
def ownRingReset (_ : List Byte) (v : Ev) : Ev :=
  if v.p.disp.seq ≠ .stopped then v.refuse .badState
  else (v.map fun p => { p with ring := .reset }).reply .done

/-- Whether the sequencer state lets a template be written (R33 check 1). -/
def SeqState.allowsTemplates : SeqState → Bool
  | .stopped => true
  | .paused => true
  | .drained => true
  | .halted => true
  | .running => false
  | .pausing => false
  | .stopping => false

/-- Whether nets are a list a template may hold (R33 check 5). -/
def templateNetsOk (nets : List Nat) : Bool :=
  nets.all (fun n => decide (1 ≤ n) && decide (n ≤ Config.maxNet)) && decide nets.Nodup

/-- TEMPLATE_WRITE (R33). -/
def ownTemplateWrite (b : List Byte) (v : Ev) : Ev :=
  let code := byteAt b 0
  let count := byteAt b 1
  let nets := (List.range count).map (fun i => u16At b (2 + 2 * i))
  if !v.p.disp.seq.allowsTemplates then v.refuse .badState
  else if b.length ≠ 2 + 2 * count then v.refuse .badLength
  else if Config.templates ≤ code then v.refuse .badValue
  else if Config.templateNets < count then v.refuse .badValue
  else if !templateNetsOk nets then v.refuse .badValue
  else (v.map fun p => { p with templates := store [] p.templates code nets }).reply .done

/-- TEMPLATE_READ (R34). -/
def ownTemplateRead (b : List Byte) (v : Ev) : Ev :=
  let code := byteAt b 0
  if Config.templates ≤ code then v.refuse .badValue else v.reply (.template (v.p.template code))

/-! ### The sequencer (sections 3.1 and 3.8) -/

/-- RUN (R45). -/
def ownRun (_ : List Byte) (v : Ev) : Ev :=
  if v.p.disp.seq ≠ .stopped then v.refuse .badState
  else if v.p.disp.direct.isSome then v.refuse .busy
  else if v.p.map.state ≠ .frozen then v.refuse .mapNotFrozen
  else match v.p.fixtureCheck with
    | some st => v.refuse st
    | none =>
      let v := v.reply .done
      if v.p.ring.pendingSlots = [] then v.enterSeq .drained
      else { (v.enterSeq .running) with askEvaluate := true }

/-- PAUSE (R47). -/
def ownPause (_ : List Byte) (v : Ev) : Ev :=
  match v.p.disp.seq with
  | .running => (v.reply .done).enterSeq (if v.p.ringInFlight then .pausing else .paused)
  | .drained => (v.reply .done).enterSeq .paused
  | .pausing => v.reply .done
  | .paused => v.reply .done
  | .halted => v.reply .done
  | .stopped => v.refuse .badState
  | .stopping => v.refuse .busy

/-- RESUME once its state check has passed (R49 checks 2 and 3). -/
def Ev.resumeFrom (v : Ev) : Ev :=
  if v.p.disp.direct.isSome then v.refuse .busy
  else match v.p.fixtureCheck with
    | some st => v.refuse st
    | none => { ((v.reply .done).enterSeq .running).judgeState with askEvaluate := true }

/-- RESUME (R49). -/
def ownResume (_ : List Byte) (v : Ev) : Ev :=
  match v.p.disp.seq with
  | .pausing => v.resumeFrom
  | .paused => v.resumeFrom
  | .halted => v.refuse .logUnread
  | .stopped => v.refuse .badState
  | .running => v.refuse .badState
  | .drained => v.refuse .badState
  | .stopping => v.refuse .busy

/-- Every PENDING slot discarded, NEXT at COMMIT, and one retirement sweep (R42). -/
def Ring.discardPending (r : Ring) : Ring :=
  Ring.retire { r.pendingSlots.foldl (fun r i => r.setState i .done) r with next := r.commit }

/-- STOP once its state check has passed (R50). -/
def Ev.stopFrom (v : Ev) : Ev :=
  if v.p.disp.direct.isSome then v.refuse .busy
  else
    let v := (v.reply .done).enterSeq .stopping
    let v := v.map fun p => p.onRing Ring.discardPending
    let v := (v.abortAll (Ev.abortWithDischarge .stopped)).releaseAll
    (v.takeAll id).judgeStopped

/-- STOP (R50). -/
def ownStop (_ : List Byte) (v : Ev) : Ev :=
  match v.p.disp.seq with
  | .running => v.stopFrom
  | .pausing => v.stopFrom
  | .paused => v.stopFrom
  | .drained => v.stopFrom
  | .stopped => v.refuse .badState
  | .halted => v.refuse .logUnread
  | .stopping => v.refuse .busy

/-- What STATUS reports of an engine (R52). -/
def Engine.view (g : Engine) : EngineView where
  state := g.state
  phase := g.phase
  slot := if g.state = .active then g.work.bind Work.origin else none

/-- The STATUS view (R52). -/
def Part.statusView (p : Part) : StatusView where
  seq := p.disp.seq
  window := p.disp.window
  head := p.ring.head
  next := p.ring.next
  commit := p.ring.commit
  live := p.ring.live
  engines := p.engines.mapIdx (fun _ g => g.view)
  directActive := p.disp.direct.isSome
  directEngine := p.directEngine
  stored := p.queue.records.length
  reserved := p.queue.reserved
  logHeld := p.log.record.isSome
  further := p.log.further
  mapState := p.map.state
  fixture := p.fixtureState
  ref := p.time.ref

/-- STATUS (R52). -/
def ownStatus (_ : List Byte) (v : Ev) : Ev := v.reply (.status v.p.statusView)

/-- Whether the sequencer state lets a direct step be taken (R70 check 1). -/
def SeqState.allowsDirect : SeqState → Bool
  | .stopped => true
  | .paused => true
  | .drained => true
  | .running => false
  | .pausing => false
  | .halted => false
  | .stopping => false

/-- DIRECT_STEP (R70). -/
def ownDirectStep (b : List Byte) (v : Ev) : Ev :=
  if !v.p.disp.seq.allowsDirect then v.refuse .badState
  else if v.p.disp.direct.isSome then v.refuse .busy
  else if v.p.map.state ≠ .frozen then v.refuse .mapNotFrozen
  else match v.p.checkedRecordAt b 0 with
    | .error (st, detail) => v.refuse st detail
    | .ok r => match v.p.fixtureCheck with
      | some st => v.refuse st
      | none =>
        { ((v.map fun p => { p with disp := { p.disp with direct := some ⟨r, none⟩ } }).reply .done) with
          askEvaluate := true }

/-! ### The matrix and the engines -/

/-- RELAY_QUERY (R95). -/
def ownRelayQuery (b : List Byte) (v : Ev) : Ev :=
  let c := byteAt b 0
  if Config.cards ≤ c then v.refuse .badValue else v.reply (.relay (v.p.relay.view v.p.time.tick c))

/-- A FAULTED engine cleared; its sequence number is kept (R127). -/
def Engine.cleared (g : Engine) : Engine :=
  { g.discardSums with state := .idle, reuseMark := false, readyMark := false, request := none,
                       stimulus := none, dischargePath := false, parted := true }

/-- ENGINE_CLEAR (R127). -/
def ownEngineClear (b : List Byte) (v : Ev) : Ev :=
  match EngineId.ofNat? (byteAt b 0) with
  | none => v.refuse .badValue
  | some e =>
    if (v.p.engine e).state ≠ .faulted then v.refuse .badState
    else { ((v.onEngine e Engine.cleared).reply .done) with askEvaluate := true }

/-! ### Results, the log and the time -/

/-- RESULTS_READ (R169, R170). -/
def ownResultsRead (b : List Byte) (v : Ev) : Ev :=
  let n := byteAt b 0
  if n = 0 ∨ 32 < n then v.refuse .badValue
  else
    let q := v.p.queue
    let taken := q.records.take n
    let rest := q.records.drop n
    let v := (v.map fun p => { p with queue := { p.queue with records := rest } }).reply
      (.results taken rest.length q.reserved)
    if taken = [] then v else { v with askEvaluate := true, askRemoval := true }

/-- ERRLOG_READ (R69, R179). -/
def ownErrlogRead (_ : List Byte) (v : Ev) : Ev :=
  match v.p.log.record with
  | none => v.reply (.errorLog none)
  | some r =>
    let v := (v.reply (.errorLog (some (r, v.p.log.further)))).map fun p => { p with log := ⟨none, 0⟩ }
    if v.p.disp.seq = .halted then v.enterSeq (if v.p.ringInFlight then .pausing else .paused) else v

/-- TIME_READ (R105). -/
def ownTimeRead (_ : List Byte) (v : Ev) : Ev :=
  v.reply (.time v.p.time.tick v.p.time.ref v.p.time.lossCount)

/-- The DESCRIBE view (R190). -/
def Part.describeView (p : Part) : DescribeView where
  revision := Config.revision
  nails := Config.nails
  present := p.presentCards
  engines := 4
  ringSize := Config.slots
  queueSize := Config.records
  windowMax := Config.windowMax
  templates := Config.templates
  kinds := [.res2, .res4, .diode, .cap, .scan]
  mapState := p.map.state
  fixture := p.fixtureState
  mode := p.link.mode
  window := p.disp.window
  holdLimit := p.relay.holdLimit
  block := p.link.blockCopy

/-- DESCRIBE (R190). -/
def ownDescribe (_ : List Byte) (v : Ev) : Ev := v.reply (.describe v.p.describeView)

/-- The stream block values (R191). -/
def blockSizes : List Nat := [0, 1, 2, 4, 8, 16, 32]

/-- The three settings set. -/
def Part.setPace (p : Part) (window holdLimit block : Nat) : Part :=
  { p with disp := { p.disp with window := window }, relay := { p.relay with holdLimit := holdLimit },
           queue := { p.queue with block := block }, link := { p.link with blockCopy := block } }

/-- PACE (R173, R191). -/
def ownPace (b : List Byte) (v : Ev) : Ev :=
  let window := byteAt b 0
  let holdLimit := u32At b 1
  let block := byteAt b 5
  if window = 0 ∨ Config.windowMax < window ∨ 100000 < holdLimit ∨ block ∉ blockSizes then v.refuse .badValue
  else
    let changed := decide (block ≠ v.p.queue.block)
    let v := (v.map fun p => p.setPace window holdLimit block).reply (.settings window holdLimit block)
    let v := if changed then v.formBlocks (v.p.queue.records.length + 1) else v
    { v with askEvaluate := true }

/-- PART_RESET: the reply goes out, and the reset is taken when its last byte has been sent (R192). That the reply is its
status byte alone, without a time field, is the model's choice (assumption log 35). -/
def ownPartReset (_ : List Byte) (v : Ev) : Ev :=
  let v := v.reply .done
  v.map fun p => { p with link := { p.link with
    inProgress := p.link.inProgress.map (fun q => { q with resetWhenSent := true }) } }

/-- The owner of each request. -/
def owner : RequestKind → List Byte → Ev → Ev
  | .mapCursor => ownMapCursor
  | .mapNails => ownMapNails
  | .mapRead => ownMapRead
  | .mapNetattr => ownMapNetattr
  | .mapIdentity => ownMapIdentity
  | .mapFreeze => ownMapFreeze
  | .mapClear => ownMapClear
  | .mapUnmark => ownMapUnmark
  | .fixtureQuery => ownFixtureQuery
  | .stepWrite => ownStepWrite
  | .stepRead => ownStepRead
  | .stepCommit => ownStepCommit
  | .ringReset => ownRingReset
  | .templateWrite => ownTemplateWrite
  | .templateRead => ownTemplateRead
  | .run => ownRun
  | .pause => ownPause
  | .resume => ownResume
  | .stop => ownStop
  | .status => ownStatus
  | .directStep => ownDirectStep
  | .relayQuery => ownRelayQuery
  | .engineClear => ownEngineClear
  | .resultsRead => ownResultsRead
  | .errlogRead => ownErrlogRead
  | .timeRead => ownTimeRead
  | .describe => ownDescribe
  | .pace => ownPace
  | .partReset => ownPartReset

end Sys2Proof.Machine
end

