-- ==== Sys2Proof/Machine/Link.lean ====
section
/-! DEFINITION. The message link (chapter 10): the receiver, the receive buffer, the taking of requests, the
sending of frames, and the resets. A request command is its good frame offered to the receive buffer. -/

namespace Sys2Proof.Machine

/-! ### Taking requests (R184 to R187) -/

/-- The Link Port changed. -/
def Part.onLink (p : Part) (f : LinkPort → LinkPort) : Part := { p with link := f p.link }

/-- Whether the mode gate admits a request (R187). -/
def admits (mode : LinkMode) (seq : SeqState) (k : RequestKind) : Bool :=
  match mode with
  | .starting => decide (k = .describe)
  | .serving =>
    if seq = .stopping then
      match k with
      | .status => true
      | .describe => true
      | .fixtureQuery => true
      | .timeRead => true
      | .resultsRead => true
      | _ => false
    else true

/-- A frame that has become the request in progress is judged: kind, mode gate, body length, owner (R186). -/
def Ev.judgeRequest (f : InFrame) (v : Ev) : Ev :=
  match requestKindOf f.kind.toNat with
  | none => v.refuse .badKind
  | some k =>
    if !admits v.p.link.mode v.p.disp.seq k then v.refuse .busy
    else match k.bodyLength with
      | some n => if f.body.length ≠ n then v.refuse .badLength else owner k f.body v
      | none => owner k f.body v

/-- The Link Port takes the oldest frame of the buffer while no request is in progress; a frame of number 0
is discarded and the next is taken (R185, R186). -/
def Ev.takeFrames : Nat → Ev → Ev
  | 0, v => v
  | fuel + 1, v =>
    match v.p.link.inProgress, v.p.link.buffer with
    | none, f :: rest =>
      let v := v.map fun p => p.onLink fun l => { l with buffer := rest }
      if f.number = 0 then Ev.takeFrames fuel v
      else (v.map fun p => p.onLink fun l => { l with inProgress := some ⟨f.number, f.kind, false⟩ }).judgeRequest f
    | _, _ => v

/-- A good frame is offered to the receive buffer: it joins, or is discarded when four wait, and a frame is
taken if no request is in progress (R184; assumption log 1). -/
def Ev.offer (f : InFrame) (v : Ev) : Ev :=
  if v.p.link.buffer.length < Config.bufferFrames then
    (v.map fun p => p.onLink fun l => { l with buffer := l.buffer ++ [f] }).takeFrames (Config.bufferFrames + 1)
  else v

/-! ### The receiver (R181 to R183) -/

/-- The receiver after a byte, and the good frame the byte completed, if any (R181, R183). -/
def Receiver.next (r : Receiver) (b : Byte) : Receiver × Option InFrame :=
  match r with
  | .hunt => (if b = 0xA5 then .length none else .hunt, none)
  | .length none => (.length (some b), none)
  | .length (some low) =>
    let len := low.toNat + 256 * b.toNat
    (if 2 ≤ len ∧ len ≤ 1040 then .payload len [] else .hunt, none)
  | .payload len kept =>
    let kept := kept ++ [b]
    (if kept.length < len then .payload len kept else .check kept none, none)
  | .check kept none => (.check kept (some b), none)
  | .check kept (some high) =>
    (.hunt,
     if (crc16 (leBytes 2 kept.length ++ kept)).toNat = 256 * high.toNat + b.toNat then
       match kept with
       | number :: kind :: body => some ⟨number, kind, body⟩
       | _ => none
     else none)

/-- What a byte does to the inter-byte wait (R182): a dropped byte leaves it, the second CRC byte cancels it,
and every other byte starts it anew (assumption log 24). -/
def Receiver.waitAfter (r : Receiver) (b : Byte) (t : Timebase) (wait : Option Nat) : Option Nat :=
  match r with
  | .hunt => if b = 0xA5 then some (t.dueIn Config.interByteTicks) else wait
  | .check _ (some _) => none
  | .length _ => some (t.dueIn Config.interByteTicks)
  | .payload _ _ => some (t.dueIn Config.interByteTicks)
  | .check _ none => some (t.dueIn Config.interByteTicks)

/-- A byte is received. -/
def Ev.takeByte (b : Byte) (v : Ev) : Ev :=
  let (receiver, done) := v.p.link.receiver.next b
  let v := v.map fun p => p.onLink fun l =>
    { l with receiver := receiver, interByte := l.receiver.waitAfter b p.time l.interByte }
  match done with
  | some f => v.offer f
  | none => v

/-- The inter-byte wait completes: the frame so far is discarded (R182). -/
def Ev.interByteEnds (v : Ev) : Ev :=
  match v.p.link.interByte with
  | none => v
  | some due => v.map fun p => (p.reach due).onLink fun l => { l with receiver := .hunt, interByte := none }

/-! ### Resets (R16, R106, R192, R193) -/

/-- A line's filter after a reset: deasserted, with a debounce wait for a line that is asserted (R16, R106). -/
def LineFilter.restart (raw : Bool) : LineFilter :=
  ⟨raw, false, if raw then some (Part.fresh.dueIn Config.debounceTicks) else none⟩

/-- The part after a reset; the raw lines stand as they are outside. -/
def Part.restart (p : Part) (cause : ResetCause) : Part :=
  { Part.fresh with
    lock := { Part.fresh.lock with presentLine := LineFilter.restart p.lock.presentLine.raw,
                                   vacuumLine := LineFilter.restart p.lock.vacuumLine.raw }
    link := { Part.fresh.link with resetCause := cause }
    free := p.free }

/-! ### Sending (R188) -/

/-- The frame at the front has been sent: it leaves the list and the next begins. -/
def Part.dropSent (p : Part) : Part :=
  p.onLink fun l =>
    let rest := l.transmit.tail
    { l with transmit := rest, sendStart := if rest = [] then none else some p.time.tick }

/-- The last byte of the frame at the front has been sent; after a reply the request in progress ends, and the
next is taken or, after the reply of PART_RESET, the reset (R188, R192; assumption log 13). -/
def Ev.sent (v : Ev) : Ev :=
  match v.p.link.transmit with
  | [] => v
  | f :: _ =>
    if f.isReply then
      match v.p.link.inProgress with
      | some q =>
        if q.resetWhenSent then v.map fun p => p.restart .partReset
        else (v.map fun p => p.dropSent.onLink fun l => { l with inProgress := none }).takeFrames
          (Config.bufferFrames + 1)
      | none => v.map Part.dropSent
    else v.map Part.dropSent

/-! ### The commands of the link -/

/-- POWER_ON (R193). -/
def execPowerOn (s : State) : Host.Outcome State Fault Refusal := event s (Ev.map fun p => p.restart .powerOn)

/-- FRAME_RECEIVED: the byte that completes a frame (R181). -/
def execFrameReceived (byte : Byte) (s : State) : Host.Outcome State Fault Refusal := event s (Ev.takeByte byte)

/-- RECEIVED_BYTE (R181). -/
def execReceivedByte (byte : Byte) (s : State) : Host.Outcome State Fault Refusal := event s (Ev.takeByte byte)

/-- INTER_BYTE_LIMIT (R182). -/
def execInterByteLimit (s : State) : Host.Outcome State Fault Refusal := event s Ev.interByteEnds

/-- FRAME_SENT (R188). -/
def execFrameSent (s : State) : Host.Outcome State Fault Refusal := event s Ev.sent

/-- A request's good frame is offered (R184, R186). -/
def offerRequest (k : RequestKind) (number : Byte) (body : List Byte) (s : State) :
    Host.Outcome State Fault Refusal :=
  event s (Ev.offer ⟨number, k.code, body⟩)

/-- BAD_KIND_REQUEST (R186). -/
def execBadKindRequest (number kind : Byte) (body : List Byte) (s : State) : Host.Outcome State Fault Refusal :=
  event s (Ev.offer ⟨number, kind, body⟩)

/-- MAP_CURSOR (R7). -/
def execMapCursor (number : Byte) (body : List Byte) (s : State) : Host.Outcome State Fault Refusal :=
  offerRequest .mapCursor number body s

/-- MAP_NAILS (R8). -/
def execMapNails (number : Byte) (body : List Byte) (s : State) : Host.Outcome State Fault Refusal :=
  offerRequest .mapNails number body s

/-- MAP_READ (R10). -/
def execMapRead (number : Byte) (body : List Byte) (s : State) : Host.Outcome State Fault Refusal :=
  offerRequest .mapRead number body s

/-- MAP_NETATTR (R11). -/
def execMapNetattr (number : Byte) (body : List Byte) (s : State) : Host.Outcome State Fault Refusal :=
  offerRequest .mapNetattr number body s

/-- MAP_IDENTITY (R12). -/
def execMapIdentity (number : Byte) (body : List Byte) (s : State) : Host.Outcome State Fault Refusal :=
  offerRequest .mapIdentity number body s

/-- MAP_FREEZE (R13). -/
def execMapFreeze (number : Byte) (body : List Byte) (s : State) : Host.Outcome State Fault Refusal :=
  offerRequest .mapFreeze number body s

/-- MAP_CLEAR (R14). -/
def execMapClear (number : Byte) (body : List Byte) (s : State) : Host.Outcome State Fault Refusal :=
  offerRequest .mapClear number body s

/-- MAP_UNMARK (R15). -/
def execMapUnmark (number : Byte) (body : List Byte) (s : State) : Host.Outcome State Fault Refusal :=
  offerRequest .mapUnmark number body s

/-- FIXTURE_QUERY (R22). -/
def execFixtureQuery (number : Byte) (body : List Byte) (s : State) : Host.Outcome State Fault Refusal :=
  offerRequest .fixtureQuery number body s

/-- STEP_WRITE (R29). -/
def execStepWrite (number : Byte) (body : List Byte) (s : State) : Host.Outcome State Fault Refusal :=
  offerRequest .stepWrite number body s

/-- STEP_READ (R31). -/
def execStepRead (number : Byte) (body : List Byte) (s : State) : Host.Outcome State Fault Refusal :=
  offerRequest .stepRead number body s

/-- STEP_COMMIT (R37). -/
def execStepCommit (number : Byte) (body : List Byte) (s : State) : Host.Outcome State Fault Refusal :=
  offerRequest .stepCommit number body s

/-- RING_RESET (R41). -/
def execRingReset (number : Byte) (body : List Byte) (s : State) : Host.Outcome State Fault Refusal :=
  offerRequest .ringReset number body s

/-- TEMPLATE_WRITE (R33). -/
def execTemplateWrite (number : Byte) (body : List Byte) (s : State) : Host.Outcome State Fault Refusal :=
  offerRequest .templateWrite number body s

/-- TEMPLATE_READ (R34). -/
def execTemplateRead (number : Byte) (body : List Byte) (s : State) : Host.Outcome State Fault Refusal :=
  offerRequest .templateRead number body s

/-- RUN (R45). -/
def execRun (number : Byte) (body : List Byte) (s : State) : Host.Outcome State Fault Refusal :=
  offerRequest .run number body s

/-- PAUSE (R47). -/
def execPause (number : Byte) (body : List Byte) (s : State) : Host.Outcome State Fault Refusal :=
  offerRequest .pause number body s

/-- RESUME (R49). -/
def execResume (number : Byte) (body : List Byte) (s : State) : Host.Outcome State Fault Refusal :=
  offerRequest .resume number body s

/-- STOP (R50). -/
def execStop (number : Byte) (body : List Byte) (s : State) : Host.Outcome State Fault Refusal :=
  offerRequest .stop number body s

/-- STATUS (R52). -/
def execStatus (number : Byte) (body : List Byte) (s : State) : Host.Outcome State Fault Refusal :=
  offerRequest .status number body s

/-- DIRECT_STEP (R70). -/
def execDirectStep (number : Byte) (body : List Byte) (s : State) : Host.Outcome State Fault Refusal :=
  offerRequest .directStep number body s

/-- RELAY_QUERY (R95). -/
def execRelayQuery (number : Byte) (body : List Byte) (s : State) : Host.Outcome State Fault Refusal :=
  offerRequest .relayQuery number body s

/-- ENGINE_CLEAR (R127). -/
def execEngineClear (number : Byte) (body : List Byte) (s : State) : Host.Outcome State Fault Refusal :=
  offerRequest .engineClear number body s

/-- RESULTS_READ (R170). -/
def execResultsRead (number : Byte) (body : List Byte) (s : State) : Host.Outcome State Fault Refusal :=
  offerRequest .resultsRead number body s

/-- ERRLOG_READ (R179). -/
def execErrlogRead (number : Byte) (body : List Byte) (s : State) : Host.Outcome State Fault Refusal :=
  offerRequest .errlogRead number body s

/-- TIME_READ (R105). -/
def execTimeRead (number : Byte) (body : List Byte) (s : State) : Host.Outcome State Fault Refusal :=
  offerRequest .timeRead number body s

/-- DESCRIBE (R190). -/
def execDescribe (number : Byte) (body : List Byte) (s : State) : Host.Outcome State Fault Refusal :=
  offerRequest .describe number body s

/-- PACE (R191). -/
def execPace (number : Byte) (body : List Byte) (s : State) : Host.Outcome State Fault Refusal :=
  offerRequest .pace number body s

/-- PART_RESET (R192). -/
def execPartReset (number : Byte) (body : List Byte) (s : State) : Host.Outcome State Fault Refusal :=
  offerRequest .partReset number body s

end Sys2Proof.Machine
end

