-- ==== Sys2Proof/Machine/Arrivals.lean ====
section
/-! DEFINITION. What reaches a measurement engine from outside its own phase sequence (chapter 6): samples,
waits that complete, compliance, crossings, card faults and re-plan answers; and the Dispatcher's answer to a
re-plan request (R66). A completion or report that finds no wait or request of its own is ignored (R100). -/

namespace Sys2Proof.Machine

/-! ### Card faults (R121) -/

/-- Whether an engine takes a CARD_FAULT report. -/
def Engine.takesCardFault (g : Engine) : Bool :=
  decide (g.state = .active) && decide (g.phase ≠ some .abortDischarge) && decide (g.phase ≠ some .resultWait)

/-- A CARD_FAULT report reaches an engine. -/
def Ev.cardFault (v : Ev) (e : EngineId) (card : Nat) : Ev :=
  let g := v.p.engine e
  if g.takesCardFault then
    let v := v.turnOff e
    if g.scanning then v.endScan .fault (some .cardFault) (some card) false
    else v.completeStep e ⟨.fault, none⟩ (some .cardFault) (some card) false
  else v

/-! ### Samples (R112 to R114, R120) -/

/-- The next request is sent when the interval has already completed. -/
def Ev.nextRequest (v : Ev) (e : EngineId) : Ev :=
  if (v.p.engine e).interval = none then v.onEngine e (fun g => g.sendRequest v.p.time) else v

/-- The end of INTEGRATE: a value and completion for a step, a report for a scan test (R114, R126, R134). -/
def Ev.endIntegrate (v : Ev) (e : EngineId) : Ev :=
  let v := v.onEngine e fun g => { g with interval := none, stimulus := none }
  let g := v.p.engine e
  match g.work with
  | none => v
  | some w =>
    if w.record.kind = .scan then (v.leaveQuiet e).testReport (.sampled g.sampleSum g.n g.clip)
    else v.completeStep e
      (formIntegrated w.record g.effCurrent g.nullSum g.nullCount g.sampleSum g.n g.clip) none none false

/-- A sample arrives: one whose number is that of the outstanding request is accumulated (R108, R112). That one given
before its aperture has passed is taken at once is the model's choice (assumption log 30). -/
def Ev.sampleArrives (e : EngineId) (sequence : Nat) (code : Int) (v : Ev) : Ev :=
  let g := v.p.engine e
  if g.request = some sequence then
    let v := v.onEngine e fun g => { g with request := none, timeout := none, clip := g.clip || isClip code }
    match g.phase with
    | some .null =>
      let v := v.onEngine e fun g => { g with nullSum := g.nullSum + code, nullCount := g.nullCount + 1 }
      if g.nullCount + 1 = 4 then
        ((v.onEngine e fun g => { g with interval := none }).leaveQuiet e).enterSettle e
      else v.nextRequest e
    | some .integrate =>
      let v := v.onEngine e fun g => { g with sampleSum := g.sampleSum + code, sampleCount := g.sampleCount + 1 }
      if g.sampleCount + 1 = g.n then v.endIntegrate e else v.nextRequest e
    | _ => v
  else v

/-- The sample interval completes: the next request is sent unless the sample is still outstanding (R112). -/
def Ev.intervalEnds (e : EngineId) (v : Ev) : Ev :=
  match (v.p.engine e).interval with
  | none => v
  | some due =>
    let v := (v.map fun p => p.reach due).onEngine e fun g => { g with interval := none }
    if (v.p.engine e).request = none then v.nextRequest e else v

/-- The sample timeout completes with its request outstanding: ENGINE_TIMEOUT (R120, R160). -/
def Ev.sampleTimesOut (e : EngineId) (v : Ev) : Ev :=
  let g := v.p.engine e
  match g.timeout with
  | none => v
  | some due =>
    let v := ((v.map fun p => p.reach due).turnOff e).onEngine e Engine.discardSums
    if g.scanning then v.endScan .fault (some .engineTimeout) none true
    else v.completeStep e ⟨.fault, none⟩ (some .engineTimeout) none true

/-! ### Compliance (R115) -/

/-- A compliance report: ignored with the stimulus off, OPEN otherwise. -/
def Ev.complianceReported (e : EngineId) (v : Ev) : Ev :=
  let g := v.p.engine e
  if g.stimulus = none then v
  else if g.phase = some .ramp then v.endRamp e ⟨.openCircuit, none⟩ false
  else
    let v := (v.turnOff e).onEngine e Engine.discardSums
    if g.scanning then v.testReport .openCircuit else v.afterOpen e

/-! ### Waits of the phases (R114, R116 to R118, R124) -/

/-- The settle wait completes: INTEGRATE, or for a QUIET step the request for a still report. -/
def Ev.settled (e : EngineId) (v : Ev) : Ev :=
  let g := v.p.engine e
  match g.phase, g.phaseWait with
  | some .settle, some due =>
    let v := (v.map fun p => p.reach due).onEngine e fun g => { g with phaseWait := none }
    if g.quietStep then v.askStill e else v.enterSampling e .integrate
  | _, _ => v

/-- The discharge completes: RAMP, with the front end's answer to the threshold command. -/
def Ev.discharged (e : EngineId) (alreadyCrossed : Bool) (v : Ev) : Ev :=
  let g := v.p.engine e
  match g.phase, g.phaseWait with
  | some .discharge, some due => (v.map fun p => p.reach due).enterRamp e alreadyCrossed
  | _, _ => v

/-- The ramp limit completes: OVERRANGE. -/
def Ev.rampLimited (e : EngineId) (v : Ev) : Ev :=
  let g := v.p.engine e
  match g.phase, g.phaseWait with
  | some .ramp, some due => (v.map fun p => p.reach due).endRamp e ⟨.overrange, none⟩ false
  | _, _ => v

/-- The post-discharge completes: completion with what RAMP left, or what follows an OPEN. -/
def Ev.postDischarged (e : EngineId) (v : Ev) : Ev :=
  let g := v.p.engine e
  match g.phase, g.phaseWait, g.formed with
  | some .postDischarge, some due, some f =>
    let v := (v.map fun p => p.reach due).onEngine e fun g => { g with phaseWait := none, dischargePath := false }
    if f.verdict = .openCircuit then v.afterOpen e else v.completeStep e f none none false
  | _, _, _ => v

/-- The discharge of an abort completes: ABORTED with the abort's cause. -/
def Ev.abortDischarged (e : EngineId) (v : Ev) : Ev :=
  let g := v.p.engine e
  match g.phase, g.phaseWait with
  | some .abortDischarge, some due =>
    (v.map fun p => p.reach due).completeStep e ⟨.aborted, none⟩ (g.abort.map (·.1)) none false
  | _, _ => v

/-! ### Crossings (R104, R117) -/

/-- A crossing reported to an ARMED unit is latched and its engine takes the capture. -/
def Ev.crossed (e : EngineId) (v : Ev) : Ev :=
  let c := v.p.time.captures.get e
  if c.state = .armed then
    (v.map fun p => p.setCapture e { c with state := .captured, captureTick := some p.time.tick }).takeCapture e
  else v

/-! ### Re-plans (R66, R119) -/

/-- A re-planned entry: the sides that have alternates take them; `none` when neither has. -/
def Part.replanned (p : Part) (e : EngineId) (x : Entry) (n : Nails) : Option Entry :=
  let four := decide (x.record.kind = .res4)
  let high := p.replanSide e four .sh .kh x.record.high n.sh n.kh
  let low := p.replanSide e four .sl .kl x.record.low n.sl n.kl
  if high.2 = [] ∧ low.2 = [] then none
  else
    let nails : Nails := ⟨high.1.1, high.1.2, low.1.1, low.1.2, n.guards⟩
    some { x with nails := some nails, excluded := high.2 ++ low.2, retrying := true,
                  twoWire := twoWireOf x.record.kind nails }

/-- The Dispatcher takes a re-plan request and answers it (R66, R119). -/
def Ev.replanAsked (e : EngineId) (v : Ev) : Ev :=
  if (v.p.engine e).replan = .requested then
    let declined := v.onEngine e fun g => { g with replan := .declined }
    match v.p.disp.inFlight.get e with
    | none => declined
    | some x =>
      match x.nails with
      | none => declined
      | some n =>
        if v.p.disp.seq = .stopping then declined
        else match v.p.replanned e x n with
          | none => declined
          | some y =>
            let v := v.map fun p => p.setEntry e (some y)
            let (v, _) := v.sendPlan e ((y.nails.map Nails.pairs).getD [])
            let v := v.onEngine e fun g => { g with replan := .replanned }
            v.judgeReady e
  else v

/-- An engine takes the answer (R119). -/
def Ev.replanTaken (e : EngineId) (v : Ev) : Ev :=
  match (v.p.engine e).replan, v.p.disp.inFlight.get e with
  | .declined, _ => v.completeStep e ⟨.openCircuit, none⟩ none none false
  | .replanned, some x =>
    v.onEngine e fun g =>
      { g.discardSums with
        phase := some .connect, retry := true, replan := .none, formed := none, timeDegraded := false,
        work := g.work.map (fun w => { w with nails := x.nails, twoWire := x.twoWire }) }
  | _, _ => v

/-! ### The commands -/

/-- SAMPLE (R112). -/
def execSample (engine : EngineId) (sequence : Byte) (code : AdcCode) (s : State) :
    Host.Outcome State Fault Refusal :=
  event s (Ev.sampleArrives engine sequence.toNat code.toInt)

/-- SAMPLE_INTERVAL_COMPLETE (R112). -/
def execSampleIntervalComplete (engine : EngineId) (s : State) : Host.Outcome State Fault Refusal :=
  event s (Ev.intervalEnds engine)

/-- SAMPLE_TIMEOUT (R120). -/
def execSampleTimeout (engine : EngineId) (s : State) : Host.Outcome State Fault Refusal :=
  event s (Ev.sampleTimesOut engine)

/-- COMPLIANCE (R115). -/
def execCompliance (engine : EngineId) (s : State) : Host.Outcome State Fault Refusal :=
  event s (Ev.complianceReported engine)

/-- THRESHOLD_CROSSING (R104). -/
def execThresholdCrossing (engine : EngineId) (s : State) : Host.Outcome State Fault Refusal :=
  event s (Ev.crossed engine)

/-- SETTLE_COMPLETE (R114). -/
def execSettleComplete (engine : EngineId) (s : State) : Host.Outcome State Fault Refusal :=
  event s (Ev.settled engine)

/-- DISCHARGE_COMPLETE (R116). -/
def execDischargeComplete (engine : EngineId) (alreadyCrossed : Bool) (s : State) :
    Host.Outcome State Fault Refusal :=
  event s (Ev.discharged engine alreadyCrossed)

/-- RAMP_LIMIT (R117). -/
def execRampLimit (engine : EngineId) (s : State) : Host.Outcome State Fault Refusal :=
  event s (Ev.rampLimited engine)

/-- POST_DISCHARGE_COMPLETE (R118). -/
def execPostDischargeComplete (engine : EngineId) (s : State) : Host.Outcome State Fault Refusal :=
  event s (Ev.postDischarged engine)

/-- ABORT_DISCHARGE_COMPLETE (R124). -/
def execAbortDischargeComplete (engine : EngineId) (s : State) : Host.Outcome State Fault Refusal :=
  event s (Ev.abortDischarged engine)

/-- REPLAN_REQUEST (R66). -/
def execReplanRequest (engine : EngineId) (s : State) : Host.Outcome State Fault Refusal :=
  event s (Ev.replanAsked engine)

/-- REPLAN_ANSWER (R119). -/
def execReplanAnswer (engine : EngineId) (s : State) : Host.Outcome State Fault Refusal :=
  event s (Ev.replanTaken engine)

end Sys2Proof.Machine
end

