-- ==== Sys2Proof/Machine/Matrix.lean ====
section
/-! DEFINITION. What reaches the Relay Sequencer (chapter 4): enumeration, acknowledgements and their
timeout, the end of a card's motion, the end of ALL_OPEN, and hold expiries. -/

namespace Sys2Proof.Machine

/-! ### Enumeration (R74, R193) -/

/-- Enumeration is complete: READY is handed and the link serves (R193). -/
def Ev.enumerated (v : Ev) : Ev :=
  let v := v.map fun p => { p with relay := { p.relay with link := .idle } }
  let v := v.noteFirst (.ready v.p.link.resetCause Config.revision v.p.presentCards v.p.time.tick)
  (v.map fun p => { p with link := { p.link with mode := .serving } }).settleLink

/-- Relays whose motion wait has completed reach their condition (R74's OPEN from that tick on; assumption log 22). -/
def Relay.settleDue (r : Relay) (tick : Nat) : Relay :=
  { r with cards := r.cards.map (fun x => (x.1, x.2.arrived tick)) }

/-- One query ends: its position becomes READY or ABSENT, and the next query begins (R74). -/
def Ev.queryEnds (answered : Bool) (v : Ev) : Ev :=
  match v.p.relay.link with
  | .query position start openDue =>
    let v := v.map fun p =>
      let p := p.reach (start + Config.transactionTicks)
      let card := if answered then Card.found position p.time.tick openDue else .unlisted
      { p with relay := (p.relay.setCard position card).settleDue p.time.tick }
    if position + 1 < Config.cards then
      v.map fun p => { p with relay := { p.relay with link := .query (position + 1) p.time.tick openDue } }
    else v.enumerated
  | _ => v

/-! ### ALL_OPEN (R93) -/

/-- The broadcast ends: at start-up the queries begin, and otherwise the matrix opens. -/
def Ev.allOpenEnds (v : Ev) : Ev :=
  match v.p.relay.link with
  | .startupAllOpen start =>
    v.map fun p =>
      let p := p.reach (start + Config.transactionTicks)
      { p with relay := { p.relay with
        link := .query 0 p.time.tick (p.time.tick + lengthen Config.openTicks) } }
  | .allOpen start =>
    let v := v.map fun p =>
      let p := p.reach (start + Config.transactionTicks)
      { p with relay := p.relay.endAllOpen p.time }
    v.judgeAllReady.settleLink.judgeStopped
  | _ => v

/-! ### Card updates (R83, R85, R86) -/

/-- Whether an acknowledgement that comes at a tick is that of an update begun at `start`: not past the 40 µs, and, for
an update that the last expiry began, not before its own 12 µs are over (R83, R85; assumption log 20). -/
def Relay.timely (r : Relay) (start tick : Nat) : Bool :=
  decide (tick ≤ start + Config.ackTimeoutTicks)
    && (decide (r.expired ≠ some start) || decide (start + Config.transactionTicks ≤ tick))

/-- The card of the update on the link acknowledges: its relays begin to move and the link becomes idle (R83). A late
acknowledgement is discarded. -/
def Ev.acknowledged (v : Ev) : Ev :=
  match v.p.relay.link with
  | .update card image start =>
    if v.p.relay.timely start v.p.time.tick then
      let v := v.map fun p =>
        let p := p.reach (start + Config.transactionTicks)
        { p with relay :=
          { p.relay.setCard card ((p.relay.card card).acknowledge image p.time) with link := .idle } }
      v.settleLink
    else v
  | _ => v

/-- No acknowledgement in 40 µs: the card fails, and its failure is told to the engine whose plan used it and
to the Dispatcher (R85, R86). Connection ready is judged of the engines that this card alone held back
(assumption logs 21 and 28). The CARD_NOTICE names the engine to which the card is PLANNED, and none for a card that is
HELD, also after a first failure under the same plan: the model's choice (assumption log 33). -/
def Ev.ackTimesOut (v : Ev) : Ev :=
  match v.p.relay.link with
  | .update card image start =>
    let v := v.map fun p => p.reach (start + Config.ackTimeoutTicks)
    let planned := v.p.relay.plannedTo card
    let heldBack := EngineId.all.filter (v.p.relay.holdsBack card image)
    let v := v.noteFirst (.card card v.p.time.tick (v.p.relay.card card).operations planned)
    let v := v.map fun p => { p with relay := { p.relay.failCard card with expired := some p.time.tick } }
    let v := match planned with
      | some e => v.cardFault e card
      | none => v
    let v := (heldBack.foldl Ev.judgeReady v).settleLink.judgeStopped
    { v with askEvaluate := true }
  | _ => v

/-! ### Motion and hold (R73, R90) -/

/-- A card's last moving relay reaches its condition (R73). -/
def Ev.motionEnds (card : Nat) (v : Ev) : Ev :=
  let x := v.p.relay.card card
  if x.inMotion then
    let v := v.map fun p =>
      let p := p.reach x.lastDue
      { p with relay := (p.relay.setCard card x.settled).deriveAtRest card }
    v.judgeAllReady.settleLink.judgeStopped
  else v

/-- An engine's hold timer expires (R90). -/
def Ev.holdExpires (e : EngineId) (v : Ev) : Ev :=
  match (v.p.plan e).hold with
  | none => v
  | some due =>
    (v.map fun p =>
      let p := p.reach due
      { p with relay := p.relay.releaseHeld e }).look

/-! ### The commands -/

/-- ENUMERATION_QUERY_END (R74). -/
def execEnumerationQueryEnd (answered : Bool) (s : State) : Host.Outcome State Fault Refusal :=
  event s (Ev.queryEnds answered)

/-- CARD_ACKNOWLEDGEMENT (R83). -/
def execCardAcknowledgement (s : State) : Host.Outcome State Fault Refusal := event s Ev.acknowledged

/-- CARD_ACK_TIMEOUT (R85). -/
def execCardAckTimeout (s : State) : Host.Outcome State Fault Refusal := event s Ev.ackTimesOut

/-- RELAY_MOTION_END (R73). -/
def execRelayMotionEnd (card : Nat) (s : State) : Host.Outcome State Fault Refusal := event s (Ev.motionEnds card)

/-- ALL_OPEN_END (R93). -/
def execAllOpenEnd (s : State) : Host.Outcome State Fault Refusal := event s Ev.allOpenEnds

/-- HOLD_EXPIRY (R90). -/
def execHoldExpiry (engine : EngineId) (s : State) : Host.Outcome State Fault Refusal := event s (Ev.holdExpires engine)

end Sys2Proof.Machine
end

