-- ==== Sys2Proof/Machine/Reference.lean ====
section
/-! DEFINITION. The tick counter and the reference states (sections 5.1 and 5.2). -/

namespace Sys2Proof.Machine

/-- The Timebase changed. -/
def Part.onTime (p : Part) (f : Timebase → Timebase) : Part := { p with time := f p.time }

/-- The counter advanced. -/
def Timebase.advance (t : Timebase) (n : Nat) : Timebase := { t with tick := t.tick + n }

/-- The degraded mark an entry to RECOVERY sets on an ARMED unit (R104). -/
def Capture.degrade (c : Capture) : Capture := if c.state = .armed then { c with degraded := true } else c

/-- Entry to RECOVERY on a loss: the verification wait goes, the loss is counted, ARMED units are marked
(R97, R98, R104). -/
def Timebase.lose (t : Timebase) : Timebase :=
  { t with ref := .recovery, lossCount := min 65535 (t.lossCount + 1), verification := none, silent := 0,
           captures := t.captures.mapIdx (fun _ c => c.degrade) }

/-- The REFERENCE_NOTICE of the state as it stands (R99). -/
def Ev.referenceNotice (v : Ev) : Ev :=
  v.noteFirst (.reference v.p.time.ref v.p.time.tick v.p.time.lossCount)

/-- One period of the recovery oscillator: it counts outside EXTERNAL (R96), and where losses are looked for it is
one more period without an edge (R97). -/
def Timebase.period (t : Timebase) : Timebase :=
  match t.ref with
  | .recovery => t.advance 1
  | .verifying => { t.advance 1 with silent := t.silent + 1 }
  | .external => { t with silent := t.silent + 1 }

/-- A reference edge restarts the count of silent periods (R97); it counts in EXTERNAL and starts VERIFYING from
RECOVERY (R96, R98). -/
def Timebase.edge (t : Timebase) : Timebase :=
  match t.ref with
  | .external => { t.advance 1 with silent := 0 }
  | .recovery => { t with ref := .verifying, verification := some (t.tick + Config.verifyTicks), silent := 0 }
  | .verifying => { t with silent := 0 }

/-- A reference edge. -/
def Ev.edge (v : Ev) : Ev := v.map fun p => p.onTime Timebase.edge

/-- A reference loss is detected: the periods still missing pass first, on the counter in VERIFYING, where it counts
the oscillator; in EXTERNAL the counter stands until it is advanced by 100; none is detected in RECOVERY (R97, R98;
assumption log 11). -/
def Ev.loss (v : Ev) : Ev :=
  match v.p.time.ref with
  | .external => (v.map fun p => p.onTime (fun t => (t.advance Config.lossTicks).lose)).referenceNotice
  | .verifying => v.map fun p => p.onTime fun t => (t.advance (Config.lossPeriods - t.silent)).lose
  | .recovery => v

/-- The verification wait completes (R98). -/
def Ev.verified (v : Ev) : Ev :=
  match v.p.time.verification with
  | none => v
  | some due =>
    (v.map fun p => (p.reach due).onTime fun t => { t with ref := .external, verification := none }).referenceNotice

/-- REFERENCE_EDGE (R98). -/
def execReferenceEdge (s : State) : Host.Outcome State Fault Refusal := event s Ev.edge

/-- REFERENCE_LOSS (R97; assumption log 11). -/
def execReferenceLoss (s : State) : Host.Outcome State Fault Refusal := event s Ev.loss

/-- VERIFICATION_COMPLETE (R98). -/
def execVerificationComplete (s : State) : Host.Outcome State Fault Refusal := event s Ev.verified

end Sys2Proof.Machine
end

