-- ==== Sys2Proof/Machine/Waits.lean ====
section
/-! DEFINITION. The due list (R102) as a view of the waits their owners hold, with the link's own times beside
it, and what the part does when no command waits: the completion that is due, or one period of the recovery
oscillator (assumption log 4). -/

namespace Sys2Proof.Machine

/-- A wait with the command its completion is. -/
def dueOf (wait : Option Nat) (c : Instr) : List (Nat × Instr) := wait.toList.map (fun d => (d, c))

/-- The waits of an engine: its phase wait, sample interval and sample timeout, and its hold (R102). -/
def Part.engineWaits (p : Part) (e : EngineId) : List (Nat × Instr) :=
  let g := p.engine e
  let phase : List (Nat × Instr) := match g.phase with
    | some .settle => dueOf g.phaseWait (.settleComplete e)
    | some .discharge => dueOf g.phaseWait (.dischargeComplete e false)
    | some .ramp => dueOf g.phaseWait (.rampLimit e)
    | some .postDischarge => dueOf g.phaseWait (.postDischargeComplete e)
    | some .abortDischarge => dueOf g.phaseWait (.abortDischargeComplete e)
    | _ => []
  phase ++ dueOf g.interval (.sampleIntervalComplete e) ++ dueOf g.timeout (.sampleTimeout e)
    ++ dueOf (p.plan e).hold (.holdExpiry e)

/-- The waits of the card link, and one for each moving relay (R102). The command beside a relay's wait is its card's
end of motion, which the card's last relay is. -/
def Relay.waits (r : Relay) : List (Nat × Instr) :=
  let ack : List (Nat × Instr) := match r.link with
    | .update _ _ start => [(start + Config.ackTimeoutTicks, .cardAckTimeout)]
    | _ => []
  ack ++ r.cards.flatMap (fun x => x.2.waits.map (fun d => (d, .relayMotionEnd x.1)))

/-- The due list: every running wait of every block with the matter it serves (R102). -/
def Part.dueList (p : Part) : List (Nat × Instr) :=
  dueOf p.lock.presentLine.wait (.debounceComplete .fixturePresent)
    ++ dueOf p.lock.vacuumLine.wait (.debounceComplete .vacuumGood)
    ++ dueOf p.lock.identityLimit .identityReadLimit
    ++ dueOf p.link.interByte .interByteLimit
    ++ p.relay.waits
    ++ EngineId.all.flatMap p.engineWaits
    ++ dueOf p.time.verification .verificationComplete

/-- The times that are not waits: the card link's transactions, and the frame on the line (R74, R93, R188). A
query that ends by itself ends unanswered. -/
def Part.linkTimes (p : Part) : List (Nat × Instr) :=
  let card : List (Nat × Instr) := match p.relay.link with
    | .allOpen start => [(start + Config.transactionTicks, .allOpenEnd)]
    | .startupAllOpen start => [(start + Config.transactionTicks, .allOpenEnd)]
    | .query _ start _ => [(start + Config.transactionTicks, .enumerationQueryEnd false)]
    | .update _ _ _ => []
    | .idle => []
  let line : List (Nat × Instr) := match p.link.sendStart, p.link.transmit with
    | some start, f :: _ => [(start + f.lineTicks, .frameSent)]
    | _, _ => []
  card ++ line

/-- Re-plan requests not yet answered, and answers not yet taken (R66). -/
def Part.replanEvents (p : Part) : List Instr :=
  EngineId.all.filterMap (fun e => match (p.engine e).replan with
    | .requested => some (.replanRequest e)
    | .declined => some (.replanAnswer e)
    | .replanned => some (.replanAnswer e)
    | .none => none)

/-- The detection of a loss, due as soon as 100 periods have passed without an edge (R97). -/
def Part.lossDue (p : Part) : List (Nat × Instr) :=
  if p.time.ref ≠ .recovery ∧ Config.lossPeriods ≤ p.time.silent then [(p.time.tick, .referenceLoss)] else []

/-- Everything that the part has timed, with its due time. -/
def Part.timed (p : Part) : List (Nat × Instr) := p.dueList ++ p.linkTimes ++ p.lossDue

/-- The completions that are due, of the earliest due time among them; their order is open (R102). -/
def Part.dueNow (p : Part) : List (Nat × Instr) :=
  let due := p.timed.filter (fun x => decide (x.1 ≤ p.time.tick))
  due.filter (fun x => due.all (fun y => decide (x.1 ≤ y.1)))

/-- One item of a list, freely chosen where it has more than one (assumption log 3). -/
def Part.chooseOne {α : Type} (p : Part) : List α → Option (α × Part)
  | [] => none
  | [a] => some (a, p)
  | a :: b :: rest =>
    let (k, p) := p.choose (rest.length + 2)
    some ((a :: b :: rest).getD k a, p)

/-- What the part takes by itself when no command waits, with its due time: a re-plan event, else a completion that
is due; the order of several is open (assumption log 3). -/
def Part.ownEvent (p : Part) : Option ((Nat × Instr) × Part) :=
  match p.replanEvents with
  | [] => p.chooseOne p.dueNow
  | c :: cs => p.chooseOne ((c :: cs).map fun c => (p.time.tick, c))

/-- One period of the recovery oscillator (R96, R97). -/
def Part.oscillate (p : Part) : Part := p.onTime Timebase.period

/-- Some relays of a card reach their conditions while others of the card still move (R73, R102). -/
def Part.relaysArrive (p : Part) (card due : Nat) : Part :=
  { p with relay := p.relay.setCard card ((p.relay.card card).arrived due) }

end Sys2Proof.Machine
end

