-- ==== Sys2Proof/Machine/Dispatch.lean ====
section
/-! DEFINITION. The effect of each command: one arm for each constructor of `Instr`. -/

namespace Sys2Proof.Machine

/-- The effect of a command on everything but the queue. -/
def exec (i : Instr) (s : State) : Host.Outcome State Fault Refusal :=
  match i with
  | .powerOn => Sys2Proof.Machine.execPowerOn s
  | .frameReceived byte => Sys2Proof.Machine.execFrameReceived byte s
  | .interByteLimit => Sys2Proof.Machine.execInterByteLimit s
  | .frameSent => Sys2Proof.Machine.execFrameSent s
  | .badKindRequest number kind body => Sys2Proof.Machine.execBadKindRequest number kind body s
  | .mapCursor number body => Sys2Proof.Machine.execMapCursor number body s
  | .mapNails number body => Sys2Proof.Machine.execMapNails number body s
  | .mapRead number body => Sys2Proof.Machine.execMapRead number body s
  | .mapNetattr number body => Sys2Proof.Machine.execMapNetattr number body s
  | .mapIdentity number body => Sys2Proof.Machine.execMapIdentity number body s
  | .mapFreeze number body => Sys2Proof.Machine.execMapFreeze number body s
  | .mapClear number body => Sys2Proof.Machine.execMapClear number body s
  | .mapUnmark number body => Sys2Proof.Machine.execMapUnmark number body s
  | .fixtureQuery number body => Sys2Proof.Machine.execFixtureQuery number body s
  | .stepWrite number body => Sys2Proof.Machine.execStepWrite number body s
  | .stepRead number body => Sys2Proof.Machine.execStepRead number body s
  | .stepCommit number body => Sys2Proof.Machine.execStepCommit number body s
  | .ringReset number body => Sys2Proof.Machine.execRingReset number body s
  | .templateWrite number body => Sys2Proof.Machine.execTemplateWrite number body s
  | .templateRead number body => Sys2Proof.Machine.execTemplateRead number body s
  | .run number body => Sys2Proof.Machine.execRun number body s
  | .pause number body => Sys2Proof.Machine.execPause number body s
  | .resume number body => Sys2Proof.Machine.execResume number body s
  | .stop number body => Sys2Proof.Machine.execStop number body s
  | .status number body => Sys2Proof.Machine.execStatus number body s
  | .directStep number body => Sys2Proof.Machine.execDirectStep number body s
  | .relayQuery number body => Sys2Proof.Machine.execRelayQuery number body s
  | .engineClear number body => Sys2Proof.Machine.execEngineClear number body s
  | .resultsRead number body => Sys2Proof.Machine.execResultsRead number body s
  | .errlogRead number body => Sys2Proof.Machine.execErrlogRead number body s
  | .timeRead number body => Sys2Proof.Machine.execTimeRead number body s
  | .describe number body => Sys2Proof.Machine.execDescribe number body s
  | .pace number body => Sys2Proof.Machine.execPace number body s
  | .partReset number body => Sys2Proof.Machine.execPartReset number body s
  | .rawLineChange line asserted => Sys2Proof.Machine.execRawLineChange line asserted s
  | .debounceComplete line => Sys2Proof.Machine.execDebounceComplete line s
  | .identityReadEnd transfer => Sys2Proof.Machine.execIdentityReadEnd transfer s
  | .identityReadLimit => Sys2Proof.Machine.execIdentityReadLimit s
  | .referenceEdge => Sys2Proof.Machine.execReferenceEdge s
  | .referenceLoss => Sys2Proof.Machine.execReferenceLoss s
  | .verificationComplete => Sys2Proof.Machine.execVerificationComplete s
  | .enumerationQueryEnd answered => Sys2Proof.Machine.execEnumerationQueryEnd answered s
  | .cardAcknowledgement => Sys2Proof.Machine.execCardAcknowledgement s
  | .cardAckTimeout => Sys2Proof.Machine.execCardAckTimeout s
  | .relayMotionEnd card => Sys2Proof.Machine.execRelayMotionEnd card s
  | .allOpenEnd => Sys2Proof.Machine.execAllOpenEnd s
  | .holdExpiry e => Sys2Proof.Machine.execHoldExpiry e s
  | .sample e sequence code => Sys2Proof.Machine.execSample e sequence code s
  | .sampleIntervalComplete e => Sys2Proof.Machine.execSampleIntervalComplete e s
  | .sampleTimeout e => Sys2Proof.Machine.execSampleTimeout e s
  | .compliance e => Sys2Proof.Machine.execCompliance e s
  | .thresholdCrossing e => Sys2Proof.Machine.execThresholdCrossing e s
  | .settleComplete e => Sys2Proof.Machine.execSettleComplete e s
  | .dischargeComplete e alreadyCrossed => Sys2Proof.Machine.execDischargeComplete e alreadyCrossed s
  | .rampLimit e => Sys2Proof.Machine.execRampLimit e s
  | .postDischargeComplete e => Sys2Proof.Machine.execPostDischargeComplete e s
  | .abortDischargeComplete e => Sys2Proof.Machine.execAbortDischargeComplete e s
  | .replanRequest e => Sys2Proof.Machine.execReplanRequest e s
  | .replanAnswer e => Sys2Proof.Machine.execReplanAnswer e s
  | .receivedByte byte => Sys2Proof.Machine.execReceivedByte byte s

end Sys2Proof.Machine
end

