-- ==== Sys2Proof/Machine/Step.lean ====
section
/-! DEFINITION. One step: the command at the front of the queue, or what the part does by itself. -/

namespace Sys2Proof.Machine

/-- The part takes an event of its own: a completion is its command, but that of a relay before its card's last is
the relay's arrival alone, and the front end's answer to the threshold command is free (assumption log 3). -/
def takeOwn (due : Nat) (c : Instr) (s : State) : Host.Outcome State Fault Refusal :=
  match c with
  | .relayMotionEnd card =>
    if due < (s.part.relay.card card).lastDue then .next { s with part := s.part.relaysArrive card due }
    else exec c s
  | .dischargeComplete e _ =>
    let (k, p) := s.part.choose 2
    exec (.dischargeComplete e (decide (k = 1))) { s with part := p }
  | _ => exec c s

/-- What the part does with no command waiting: its own due event, or one period of the recovery oscillator
(assumption log 4). -/
def idle (s : State) : Host.Outcome State Fault Refusal :=
  match s.part.ownEvent with
  | some ((due, c), p) => takeOwn due c { s with part := p }
  | none => .next { s with part := s.part.oscillate }

/-- One step. -/
def step (s : State) : Host.Outcome State Fault Refusal :=
  match s.pending with
  | c :: rest => exec c { s with pending := rest }
  | [] => idle s

/-- The state with the command a word spells put at the front of its queue; the table's words spell none. -/
def State.withFetchWord (s : State) (nbits w : Nat) : State :=
  match Sys2Proof.decodeTableWord nbits w with
  | some c => { s with pending := c :: s.pending }
  | none => s

end Sys2Proof.Machine
end

