-- ==== Sys2Proof/Safety.lean ====
section
/-! DEFINITION. The terms the statements use: when a request is taken at once and what its answer leaves, what
the measuring machinery never writes, and the invariants of the part. -/

namespace Sys2Proof.Machine

/-! ### Requests taken at once -/

/-- The link serves, nothing is in progress or waiting, the sequencer is not STOPPING, and the request carries
a number: the Link Port takes the request at once and its gate admits it (R185 to R187). -/
structure State.Serving (s : State) (number : Byte) : Prop where
  mode : s.part.link.mode = .serving
  free : s.part.link.inProgress = none
  empty : s.part.link.buffer = []
  going : s.part.disp.seq ≠ .stopping
  numbered : number ≠ 0

/-- No request is in progress and none waits, and the request carries a number: it is taken at once, and its
kind, the mode gate and its length are judged (R184 to R187). -/
structure State.LinkIdle (s : State) (number : Byte) : Prop where
  free : s.part.link.inProgress = none
  empty : s.part.link.buffer = []
  numbered : number ≠ 0

/-- The command of a request. -/
def requestOf (k : RequestKind) (number : Byte) (body : List Byte) : Instr :=
  match k with
  | .mapCursor => .mapCursor number body
  | .mapNails => .mapNails number body
  | .mapRead => .mapRead number body
  | .mapNetattr => .mapNetattr number body
  | .mapIdentity => .mapIdentity number body
  | .mapFreeze => .mapFreeze number body
  | .mapClear => .mapClear number body
  | .mapUnmark => .mapUnmark number body
  | .fixtureQuery => .fixtureQuery number body
  | .stepWrite => .stepWrite number body
  | .stepRead => .stepRead number body
  | .stepCommit => .stepCommit number body
  | .ringReset => .ringReset number body
  | .templateWrite => .templateWrite number body
  | .templateRead => .templateRead number body
  | .run => .run number body
  | .pause => .pause number body
  | .resume => .resume number body
  | .stop => .stop number body
  | .status => .status number body
  | .directStep => .directStep number body
  | .relayQuery => .relayQuery number body
  | .engineClear => .engineClear number body
  | .resultsRead => .resultsRead number body
  | .errlogRead => .errlogRead number body
  | .timeRead => .timeRead number body
  | .describe => .describe number body
  | .pace => .pace number body
  | .partReset => .partReset number body

/-- The receiver and its inter-byte wait replaced. -/
def State.withReceiver (s : State) (r : Receiver) (wait : Option Nat) : State :=
  { s with part := s.part.onLink fun l => { l with receiver := r, interByte := wait } }

/-- The part once a request is in progress and its frames have been handed. -/
def Part.answered (p : Part) (number kind : Byte) (frames : List OutFrame) : Part :=
  (p.onLink fun l => { l with inProgress := some ⟨number, kind, false⟩ }).hand frames

/-- The part once a request has been refused: nothing else is changed (R189). -/
def Part.refusedWith (p : Part) (number kind : Byte) (st : Status) (detail : Option Nat) : Part :=
  p.answered number kind [.refused number kind st detail]

/-- The part once a request has been taken and replied to. -/
def Part.repliedWith (p : Part) (number kind : Byte) (body : Reply) : Part :=
  p.answered number kind [.reply number kind body]

/-- The frame of the SEQ_NOTICE of a state, with the ring positions as they stand (R44). -/
def Part.seqNotice (p : Part) (st : SeqState) : OutFrame := .notice (.seq st p.ring.head p.ring.next p.ring.commit)

/-! ### Conditions on a part -/

/-- An evaluation of the window finds nothing to do: the sequencer is not RUNNING and no direct step waits or
runs, or no result record is free (R54, R58, R59, R71). -/
def Part.nothingToDispatch (p : Part) : Bool :=
  (decide (p.disp.seq ≠ .running) && p.disp.direct.isNone) || !p.recordFree

/-- A state entry finds no remainder to send (R172). -/
def Part.noRemainder (p : Part) : Bool := decide (p.queue.block = 0) || p.queue.records.isEmpty

/-- No engine is ACTIVE. -/
def Part.noneActive (p : Part) : Bool := EngineId.all.all (fun e => decide ((p.engine e).state ≠ .active))

/-- No engine waits for a still report (R111). -/
def Part.noStillWait (p : Part) : Bool := EngineId.all.all (fun e => !(p.engine e).stillWait)

/-- No plan waits for connection ready (R87). -/
def Part.noneConnecting (p : Part) : Bool := EngineId.all.all (fun e => decide ((p.plan e).state ≠ .connecting))

/-- The slot table keeps its canonical form, and each position is 0 to 1023 (R36). -/
structure Ring.InRange (r : Ring) : Prop where
  table : tableWf Slot.unlisted r.slots = true
  positions : r.head < Config.slots ∧ r.next < Config.slots ∧ r.commit < Config.slots

/-- One engine runs a step of the ring or the direct step, not a scan, and its in-flight entry is that step's. -/
structure Part.Measures (p : Part) (e : EngineId) (w : Work) (x : Entry) : Prop where
  active : (p.engine e).state = .active
  work : (p.engine e).work = some w
  notScan : w.record.kind ≠ .scan
  entry : p.disp.inFlight.get e = some x

/-! ### The end of a measurement step -/

/-- No other engine is told of a still matrix when this one leaves a quiet phase (R84). -/
def Part.AloneInQuiet (p : Part) (e : EngineId) : Prop :=
  (p.plan e).quiet = true → ∀ f, f ≠ e → (p.engine f).stillWait = false

/-- The evaluation that follows the end of a step or scan finds nothing to do (R58): no record is free, or no ring step is
PENDING or the sequencer is not RUNNING, and no direct step waits beside a ring step. -/
def Part.NothingFollows (p : Part) (origin : Option Nat) : Prop :=
  (p.queue.block = 0 ∧ p.recordFree = false) ∨
    ((p.disp.seq ≠ .running ∨ p.ring.pendingSlots = []) ∧ (origin = none ∨ p.disp.direct = none))

/-- The conditions under which the end of a step does nothing beyond itself: no block streaming, or the step's record
fills a block and no scan waits for the space; the step's reservation stands, and the evaluation that follows finds nothing
to do. -/
structure Part.EndsAlone (p : Part) (e : EngineId) (w : Work) (x : Entry) : Prop where
  measures : p.Measures e w x
  ring : p.ring.InRange
  still : p.AloneInQuiet e
  block : p.queue.block = 0 ∨ (p.queue.records.length + 1 = p.queue.block ∧ p.scanner.state ≠ .waitingSpace)
  reserved : 1 ≤ p.queue.reserved
  nothing : p.NothingFollows w.origin

/-- Whether a ring step is in flight on another engine. -/
def Part.othersInFlight (p : Part) (e : EngineId) : Bool :=
  EngineId.all.any (fun f => decide (f ≠ e) && (match p.disp.inFlight.get f with
    | some x => x.origin.isSome
    | none => false))

/-- The error record of the end of a ring step, if that end is a halting error (R68). -/
def Work.endError (w : Work) (e : EngineId) (f : Formed) (cause : Option Cause) (time : Nat) : Option ErrorRecord :=
  match w.origin with
  | none => none
  | some slot =>
    if f.verdict = .fault then cause.map (fun k => ⟨k, some slot, some w.record.tag, some e, none, none, time⟩)
    else if w.record.stopOnFail ∧ f.verdict.failing then
      some ⟨.stepFail, some slot, some w.record.tag, some e, none, none, time⟩
    else none

/-- The sequencer state after the end of a ring step (R46 to R48, R51, R68). -/
def SeqState.afterStep (st : SeqState) (error pauseAfter others pending matrixOpen : Bool) : SeqState :=
  match st with
  | .running =>
    if error then .halted
    else if pauseAfter then (if others then .pausing else .paused)
    else if others ∨ pending then .running else .drained
  | .pausing => if error then .halted else if others then .pausing else .paused
  | .stopping => if ¬ others ∧ matrixOpen then .stopped else .stopping
  | .halted => .halted
  | .stopped => .stopped
  | .paused => .paused
  | .drained => .drained

/-- One engine alone is ACTIVE, with a measurement step, and its end or abort does nothing beyond itself: no block
streaming, the step's reservation stands, the engine is in no quiet phase, and no direct step beside a ring step. -/
structure Part.AloneActive (p : Part) (e : EngineId) (w : Work) (x : Entry) : Prop where
  measures : p.Measures e w x
  origin : x.origin = w.origin
  quiet : (p.plan e).quiet = false
  block : p.queue.block = 0
  reserved : 1 ≤ p.queue.reserved
  others : ∀ f, f ≠ e → (p.engine f).state ≠ .active ∧ (p.engine f).phase ≠ some .abortDischarge
  direct : w.origin ≠ none → p.disp.direct = none

/-- An engine that has taken an abort and drains its charge (R124), in a part whose clock starts the wait. -/
def Engine.discharging (g : Engine) (p : Part) (cause : Cause) : Engine :=
  { g with
    stimulus := none, dischargePath := true, phaseWait := some (p.dueIn (100 * g.discharge)), interval := none,
    timeout := none, request := none, stillWait := false, abort := some (cause, true), formed := none,
    phase := some .abortDischarge, parted := false }

/-- A part whose oldest PENDING step failed at dispatch (R59, R68, R178). -/
def Part.failedAtDispatch (p : Part) (slot : Nat) (r : StepRecord) (cause : Cause) (net : Option Nat) : Part :=
  { p with
    queue := { p.queue with records := p.queue.records ++ [⟨if r.kind = .scan then .scanSummary else .measurement,
      some slot, r.tag, r.kind, none, .fault, some cause, ⟨false, false, false, false, false, false⟩,
      if r.kind = .scan then .summary 0 0 0 else .measurement none none, p.time.tick % 2 ^ 48⟩] }
    ring := ((p.ring.setState slot .done).advanceNext).retire
    log := p.log.take ⟨cause, some slot, some r.tag, none, none, net, p.time.tick % 2 ^ 48⟩
    disp := { p.disp with seq := .halted } }

/-- A part whose waiting direct step ended without an engine (R71). -/
def Part.directEnded (p : Part) (r : StepRecord) (verdict : Verdict) (cause : Cause) : Part :=
  { p with
    queue := { p.queue with records := p.queue.records ++ [⟨.direct, none, r.tag, r.kind, none, verdict, some cause,
      ⟨false, false, false, false, false, false⟩,
      if r.kind = .scan then .summary 0 0 0 else .measurement none none, p.time.tick % 2 ^ 48⟩] }
    disp := { p.disp with direct := none } }

/-- An event in which a waiting scan has reported its pending pair: the pair record appended, the partner JOINED, the pair
counted, and the Scanner TESTING (R155 to R157). -/
def Ev.pendingReported (v : Ev) (info : ScanInfo) (partner : Nat) (x : Evidence) : Ev :=
  let s := v.p.scanner
  let probe := s.netAt (s.probe.getD 0)
  { v with p := { v.p with
    queue := { v.p.queue with records := v.p.queue.records ++ [⟨.shortPair, info.origin, info.record.tag,
      info.record.kind, some info.engine, .short, none, ⟨x.lowered, false, false, false, false, false⟩,
      .pair probe (s.netAt partner) x.ohms, v.p.time.tick % 2 ^ 48⟩] }
    scanner := { s with
      state := .testing
      pendingPair := none
      members := s.members.modify partner fun m => { m with state := .joined probe }
      pairs := s.pairs + 1 } } }

/-- The record of a measurement step that ends on an engine (R122, R123). -/
def Part.workRecord (p : Part) (e : EngineId) (w : Work) (f : Formed) (cause : Option Cause) : ResultRecord where
  kind := if w.origin.isSome then .measurement else .direct
  slot := w.origin
  tag := w.record.tag
  stepKind := w.record.kind
  engine := some e
  verdict := f.verdict
  cause := cause
  qualifiers := ⟨(p.engine e).clamped, w.twoWire, w.guardTrimmed, (p.engine e).retry, (p.engine e).timeDegraded,
    (p.engine e).reuseMark⟩
  shape := .measurement f.value (if (p.engine e).readyMark then w.nails.map (fun n => (n.sh, n.sl)) else none)
  time := p.time.tick % 2 ^ 48

/-- The queue once a record has joined it: the B-th record leaves with its block, and with B of 0 none does (R168,
R171). -/
def ResultQueue.joined (q : ResultQueue) (r : ResultRecord) : ResultQueue :=
  if q.records.length + 1 = q.block then { q with records := [], blockNumber := (q.blockNumber + 1) % 65536 }
  else { q with records := q.records ++ [r] }

/-- The block that a final record fills, handed in its event (R171, R175). -/
def Part.filledBlock (p : Part) (r : ResultRecord) : List OutFrame :=
  if p.queue.records.length + 1 = p.queue.block then
    [.notice (.block ⟨p.queue.blockNumber, .full, 0, p.queue.reserved - 1, p.time.tick % 2 ^ 48, p.disp.seq,
      p.queue.records ++ [r]⟩)]
  else []

/-- What the end of a measurement step leaves of its own work, whatever ends it (R65 step 1, R67, R89, R122, R123, R168),
from the part `p` before the end to the part `t` after the event. -/
structure Part.WorkEnded (p t : Part) (e : EngineId) (w : Work) (x : Entry) (f : Formed) (cause : Option Cause)
    (faulted : Bool) : Prop where
  queue : t.queue =
    ({ p.queue with reserved := p.queue.reserved - 1 } : ResultQueue).joined (p.workRecord e w f cause)
  engine : (t.engine e).state = (if faulted then .faulted else .idle) ∧ (t.engine e).phase = none ∧
    (t.engine e).work = none ∧ (t.engine e).stimulus = none ∧ (t.engine e).dischargePath = false ∧
    (t.engine e).request = none ∧ (t.engine e).phaseWait = none ∧ (t.engine e).interval = none ∧
    (t.engine e).timeout = none ∧ (t.engine e).sequence = (p.engine e).sequence
  engines : ∀ g, g ≠ e → t.engine g = p.engine g
  time : t.time = { p.time with
    captures := p.time.captures.set e { p.time.captures.get e with state := .disarmed } }
  inFlight : t.disp.inFlight = p.disp.inFlight.set e none ∧ t.disp.window = p.disp.window
  ring : t.ring = match w.origin with
    | some slot => ((p.ring.setState slot .done).advanceNext).retire
    | none => p.ring
  direct : t.disp.direct = if w.origin = none then none else p.disp.direct
  nails : tableWf NailEntry.unlisted p.map.nails = true → ∀ n, t.nail n =
    if x.retrying = true ∧ f.verdict ≠ .openCircuit ∧ n ∈ x.excluded ∧ (p.nail n).condition = .good
    then ⟨(p.nail n).net, .suspect⟩ else p.nail n
  map : t.map = { p.map with nails := t.map.nails }
  rest : t.lock = p.lock ∧ t.templates = p.templates ∧ t.scanner = p.scanner

/-- The notice of the end of a ring step with NOTIFY (R176). -/
def Work.stepNotice (w : Work) (verdict : Verdict) : List OutFrame :=
  match w.origin with
  | none => []
  | some slot => if w.record.notify then [.notice (.step slot w.record.tag verdict)] else []

/-- The notice of the end of the direct step (R177). -/
def Work.directNotice (w : Work) (e : EngineId) (verdict : Verdict) (cause : Option Cause) : List OutFrame :=
  match w.origin with
  | none => [.notice (.direct w.record.tag w.record.kind (some e) verdict cause)]
  | some _ => []

/-- The SEQ_NOTICE of an event that took the sequencer from one announced state to another (R44). -/
def Part.seqEntry (t : Part) (before : SeqState) : List OutFrame :=
  if t.disp.seq ≠ before ∧ t.disp.seq.announced then [t.seqNotice t.disp.seq] else []

/-- The log after an error by sequencer state (R68, R178). -/
def ErrorLog.afterError (l : ErrorLog) (st : SeqState) (error : Option ErrorRecord) : ErrorLog :=
  match st, error with
  | .running, some r => l.take r
  | .pausing, some r => l.take r
  | .halted, some r => l.take r
  | _, _ => l

/-- The Relay Sequencer after the end of a step on an engine: the engine leaves a quiet phase it was in, and the link looks
for what was deferred (R84); then the completion forms the held set (R89), and the link looks again. -/
def Part.stepRelay (p : Part) (e : EngineId) : Relay :=
  let left := if (p.plan e).quiet then
      ({ p.relay with plans := p.relay.plans.set e { p.plan e with quiet := false } } : Relay).look p.time.tick
    else p.relay
  (left.complete p.time e).look p.time.tick

/-- What the end of a measurement step leaves (R65 to R68, R84, R89, R122, R123, R168, R171, R178), from the part `p` at the
event to the part `t` after it, but for the frames handed. -/
structure Part.StepLeft (p t : Part) (e : EngineId) (w : Work) (x : Entry) (f : Formed) (cause : Option Cause)
    (faulted : Bool) : Prop where
  work : p.WorkEnded t e w x f cause faulted
  relay : t.relay = p.stepRelay e
  seq : t.disp.seq = match w.origin with
    | none => p.disp.seq
    | some _ => p.disp.seq.afterStep (w.endError e f cause 0).isSome w.record.pauseAfter (p.othersInFlight e)
        (decide (t.ring.pendingSlots ≠ [])) t.relay.matrixOpen
  log : t.log = p.log.afterError p.disp.seq (w.endError e f cause (p.time.tick % 2 ^ 48))

/-- What the end of a measurement step leaves with its frames, where nothing follows it (R171, R175 to R177). -/
structure Part.StepEnded (p t : Part) (e : EngineId) (w : Work) (x : Entry) (f : Formed) (cause : Option Cause)
    (faulted : Bool) : Prop where
  left : p.StepLeft t e w x f cause faulted
  link : t.link = (p.hand (p.filledBlock (p.workRecord e w f cause) ++ w.stepNotice f.verdict ++
    w.directNotice e f.verdict cause ++ t.seqEntry p.disp.seq)).link

/-- The event at the end of a measurement step on the part `p`, before what it still owes is done: the removal that a filled
block is (R169), the evaluation (R58, R65), and the remainder point of a state entry or of the direct step's end (R172). -/
structure Part.StepEnding (p : Part) (v : Ev) (e : EngineId) (w : Work) (x : Entry) (f : Formed) (cause : Option Cause)
    (faulted : Bool) : Prop where
  left : p.StepLeft v.p e w x f cause faulted
  link : v.p.link = p.link
  frames : v.blocks = p.filledBlock (p.workRecord e w f cause) ∧ v.steps = w.stepNotice f.verdict ∧
    v.entries = w.directNotice e f.verdict cause ++ v.p.seqEntry p.disp.seq
  others : v.first = [] ∧ v.replies = [] ∧ v.remainders = [] ∧ v.last = [] ∧ v.completions = []
  owes : v.askEvaluate = true ∧ v.askRemoval = decide (p.queue.records.length + 1 = p.queue.block) ∧
    v.askRemainder = decide (v.entries ≠ [])

/-- The part once what an event owes has been done and its frames handed. -/
def Ev.finished (v : Ev) (turns : Nat) : Part := (v.settle turns).p.hand (v.settle turns).frames

/-! ### The end of a scan -/

/-- The work of a scan as its notices and its halting error name it. -/
def ScanInfo.work (i : ScanInfo) : Work := ⟨i.origin, i.record, none, false, false⟩

/-- The halting error of the end of a ring step with a card, if that end is one (R68). -/
def Work.endErrorOn (w : Work) (e : EngineId) (verdict : Verdict) (cause : Option Cause) (card : Option Nat) (time : Nat) :
    Option ErrorRecord :=
  (w.endError e ⟨verdict, none⟩ cause time).map fun r => { r with card := if r.cause = .cardFault then card else none }

/-- The summary record of a scan (R158). -/
def Part.scanRecord (p : Part) (i : ScanInfo) (verdict : Verdict) (cause : Option Cause) : ResultRecord where
  kind := if i.origin.isSome then .scanSummary else .direct
  slot := i.origin
  tag := i.record.tag
  stepKind := i.record.kind
  engine := some i.engine
  verdict := verdict
  cause := cause
  qualifiers := ⟨p.scanner.clampMark, false, false, false, false, p.scanner.reuseMark⟩
  shape := .summary p.scanner.members.length p.scanner.tests p.scanner.pairs
  time := p.time.tick % 2 ^ 48

/-- The conditions under which the end of a scan does nothing beyond itself. -/
structure Part.ScanEndsAlone (p : Part) (i : ScanInfo) (x : Entry) : Prop where
  scan : p.scanner.scan = some i
  entry : p.disp.inFlight.get i.engine = some x
  ring : p.ring.InRange
  still : p.AloneInQuiet i.engine
  block : p.queue.block = 0 ∨ p.queue.records.length + 1 = p.queue.block
  reserved : 1 ≤ p.queue.reserved
  nothing : p.NothingFollows i.origin

/-- What the end of a scan leaves (R65, R67, R68, R71, R84, R89, R122, R158, R159, R168, R171, R175 to R178), from the part
`p` at the event to the part `t` after it. -/
structure Part.ScanEnded (p t : Part) (i : ScanInfo) (x : Entry) (verdict : Verdict) (cause : Option Cause)
    (card : Option Nat) (faulted : Bool) : Prop where
  queue : t.queue =
    ({ p.queue with reserved := p.queue.reserved - 1 } : ResultQueue).joined (p.scanRecord i verdict cause)
  scanner : t.scanner = Scanner.reset
  engine : (t.engine i.engine).state = (if faulted then .faulted else .idle) ∧ (t.engine i.engine).phase = none ∧
    (t.engine i.engine).work = none ∧ (t.engine i.engine).stimulus = none ∧ (t.engine i.engine).request = none ∧
    (t.engine i.engine).phaseWait = none ∧ (t.engine i.engine).interval = none ∧ (t.engine i.engine).timeout = none
  engines : ∀ g, g ≠ i.engine → t.engine g = p.engine g
  inFlight : t.disp.inFlight = p.disp.inFlight.set i.engine none ∧ t.disp.window = p.disp.window
  ring : t.ring = match i.origin with
    | some slot => ((p.ring.setState slot .done).advanceNext).retire
    | none => p.ring
  direct : t.disp.direct = if i.origin = none then none else p.disp.direct
  map : x.retrying = false → t.map = p.map
  rest : t.lock = p.lock ∧ t.templates = p.templates
  relay : t.relay = p.stepRelay i.engine
  seq : t.disp.seq = match i.origin with
    | none => p.disp.seq
    | some _ => p.disp.seq.afterStep (i.work.endErrorOn i.engine verdict cause card 0).isSome i.record.pauseAfter
        (p.othersInFlight i.engine) (decide (t.ring.pendingSlots ≠ [])) t.relay.matrixOpen
  log : t.log = p.log.afterError p.disp.seq (i.work.endErrorOn i.engine verdict cause card (p.time.tick % 2 ^ 48))
  link : t.link = (p.hand (p.filledBlock (p.scanRecord i verdict cause) ++ i.work.stepNotice verdict ++
    i.work.directNotice i.engine verdict cause ++ t.seqEntry p.disp.seq)).link

/-- What the Dispatcher does with a completion (R65, R67, R68, R71, R89, R176 to R178), from the event `v` to the event `t`;
`x` is the in-flight entry of the step. -/
structure Ev.CompletionTaken (v t : Ev) (c : Completion) (x : Entry) : Prop where
  inFlight : t.p.disp.inFlight = v.p.disp.inFlight.set c.engine none ∧ t.p.disp.window = v.p.disp.window
  direct : t.p.disp.direct = if c.origin = none then none else v.p.disp.direct
  relay : t.p.relay = (v.p.relay.complete v.p.time c.engine).look v.p.time.tick
  seq : t.p.disp.seq = match c.origin with
    | none => v.p.disp.seq
    | some _ => v.p.disp.seq.afterStep
        ((⟨c.origin, c.record, none, false, false⟩ : Work).endErrorOn c.engine c.verdict c.cause c.card 0).isSome
        c.record.pauseAfter (v.p.othersInFlight c.engine) (decide (v.p.ring.pendingSlots ≠ [])) t.p.relay.matrixOpen
  log : t.p.log = v.p.log.afterError v.p.disp.seq
    ((⟨c.origin, c.record, none, false, false⟩ : Work).endErrorOn c.engine c.verdict c.cause c.card
      (v.p.time.tick % 2 ^ 48))
  map : x.retrying = false → t.p.map = v.p.map
  rest : t.p.lock = v.p.lock ∧ t.p.templates = v.p.templates ∧ t.p.ring = v.p.ring ∧ t.p.engines = v.p.engines ∧
    t.p.scanner = v.p.scanner ∧ t.p.time = v.p.time ∧ t.p.queue = v.p.queue ∧ t.p.link = v.p.link ∧ t.p.free = v.p.free
  steps : t.steps = v.steps ++ (⟨c.origin, c.record, none, false, false⟩ : Work).stepNotice c.verdict
  entries : t.entries = v.entries ++ (⟨c.origin, c.record, none, false, false⟩ : Work).directNotice c.engine c.verdict c.cause
    ++ t.p.seqEntry v.p.disp.seq
  others : t.first = v.first ∧ t.replies = v.replies ∧ t.blocks = v.blocks ∧ t.remainders = v.remainders ∧
    t.last = v.last ∧ t.completions = v.completions ∧ t.askRemoval = v.askRemoval
  owes : t.askEvaluate = true ∧ t.askRemainder = (v.askRemainder || decide (t.entries ≠ v.entries))

/-- The receiver fed some bytes, and the good frames they complete. -/
def Receiver.feed (r : Receiver) : List Byte → Receiver × List InFrame
  | [] => (r, [])
  | b :: rest =>
    let (r', done) := r.next b
    let (r'', more) := r'.feed rest
    (r'', done.toList ++ more)

/-- Whether a command comes over the message link or is a reset; every other command is an event of the
fixture, the reference, the matrix or a front end, or a wait of the part. -/
def overLink : Instr → Bool
  | .rawLineChange _ _ => false
  | .debounceComplete _ => false
  | .identityReadEnd _ => false
  | .identityReadLimit => false
  | .referenceEdge => false
  | .referenceLoss => false
  | .verificationComplete => false
  | .enumerationQueryEnd _ => false
  | .cardAcknowledgement => false
  | .cardAckTimeout => false
  | .relayMotionEnd _ => false
  | .allOpenEnd => false
  | .holdExpiry _ => false
  | .sample _ _ _ => false
  | .sampleIntervalComplete _ => false
  | .sampleTimeout _ => false
  | .compliance _ => false
  | .thresholdCrossing _ => false
  | .settleComplete _ => false
  | .dischargeComplete _ _ => false
  | .rampLimit _ => false
  | .postDischargeComplete _ => false
  | .abortDischargeComplete _ => false
  | .replanRequest _ => false
  | .replanAnswer _ => false
  | .powerOn => true
  | .frameReceived _ => true
  | .interByteLimit => true
  | .frameSent => true
  | .badKindRequest _ _ _ => true
  | .mapCursor _ _ => true
  | .mapNails _ _ => true
  | .mapRead _ _ => true
  | .mapNetattr _ _ => true
  | .mapIdentity _ _ => true
  | .mapFreeze _ _ => true
  | .mapClear _ _ => true
  | .mapUnmark _ _ => true
  | .fixtureQuery _ _ => true
  | .stepWrite _ _ => true
  | .stepRead _ _ => true
  | .stepCommit _ _ => true
  | .ringReset _ _ => true
  | .templateWrite _ _ => true
  | .templateRead _ _ => true
  | .run _ _ => true
  | .pause _ _ => true
  | .resume _ _ => true
  | .stop _ _ => true
  | .status _ _ => true
  | .directStep _ _ => true
  | .relayQuery _ _ => true
  | .engineClear _ _ => true
  | .resultsRead _ _ => true
  | .errlogRead _ _ => true
  | .timeRead _ _ => true
  | .describe _ _ => true
  | .pace _ _ => true
  | .partReset _ _ => true
  | .receivedByte _ => true

/-! ### What the measuring machinery never writes -/

/-- The settings the test host loads: they change by requests and resets alone (R2, R4 to R6, R32, R53, R91,
R174). -/
structure Settings where
  attrs : List (Nat × NetAttrs)
  mapState : MapState
  cursor : Nat
  declared : Option (BitVec 64)
  templates : List (Nat × List Nat)
  window : Nat
  holdLimit : Nat
  block : Nat
  blockCopy : Nat
deriving DecidableEq, Repr

/-- The settings of a part. -/
def Part.settings (p : Part) : Settings where
  attrs := p.map.attrs
  mapState := p.map.state
  cursor := p.map.cursor
  declared := p.map.declared
  templates := p.templates
  window := p.disp.window
  holdLimit := p.relay.holdLimit
  block := p.queue.block
  blockCopy := p.link.blockCopy

/-- What dispatch, the engines, the Scanner and the Relay Sequencer never write: the settings, the interlock,
the link, and the clock with its reference. -/
structure Steady where
  settings : Settings
  lock : Interlock
  link : LinkPort
  tick : Nat
  ref : RefState
  lossCount : Nat
  verification : Option Nat
  silent : Nat
deriving DecidableEq, Repr

/-- That of a part. -/
def Part.steady (p : Part) : Steady where
  settings := p.settings
  lock := p.lock
  link := p.link
  tick := p.time.tick
  ref := p.time.ref
  lossCount := p.time.lossCount
  verification := p.time.verification
  silent := p.time.silent

/-! ### Invariants -/

/-- The settings stay in their ranges (R2, R4, R5, R32, R53, R91, R191). -/
structure Settings.Ok (x : Settings) : Prop where
  cursor : x.cursor ≤ Config.nails
  declared : x.mapState = .frozen → x.declared.isSome
  attrs : tableWf NetAttrs.unlisted x.attrs
  nets : ∀ y ∈ x.attrs, 1 ≤ y.1 ∧ y.1 ≤ Config.maxNet
  templates : tableWf [] x.templates
  lists : ∀ y ∈ x.templates, y.1 < Config.templates ∧ y.2.length ≤ Config.templateNets ∧ templateNetsOk y.2
  window : 1 ≤ x.window ∧ x.window ≤ Config.windowMax
  holdLimit : x.holdLimit ≤ 100000
  block : x.block ∈ blockSizes
  copy : x.blockCopy = x.block

/-- A line's debounce wait runs exactly while its raw level differs from its debounced level (R16). -/
def LineFilter.Ok (l : LineFilter) : Prop := l.wait.isSome ↔ l.raw ≠ l.level

/-- The interlock agrees with its lines, and the identity read with the presence (R16 to R19). -/
structure Interlock.Ok (k : Interlock) : Prop where
  present : k.presentLine.Ok
  vacuumLine : k.vacuumLine.Ok
  docked : k.docked = k.presentLine.level
  vacuum : k.vacuum = k.vacuumLine.level
  absent : k.docked = false → k.identity = .absent
  limit : k.identityLimit.isSome ↔ k.identity = .reading
  start : k.readStart.isSome ↔ k.identity = .reading

/-- At most four frames wait, and a frame is on the line exactly while the transmit list is not empty (R184,
R188). -/
structure LinkPort.Ok (l : LinkPort) : Prop where
  buffer : l.buffer.length ≤ Config.bufferFrames
  line : l.sendStart.isSome ↔ l.transmit ≠ []

/-- The verification wait runs exactly in VERIFYING, the loss count saturates, and a loss is detected after 100 periods
without an edge and never in RECOVERY (R97, R98). -/
structure Timebase.Ok (t : Timebase) : Prop where
  verification : t.verification.isSome ↔ t.ref = .verifying
  lossCount : t.lossCount ≤ 65535
  silent : t.silent ≤ Config.lossPeriods
  recovery : t.ref = .recovery → t.silent = 0

/-- The invariant of what the machinery never writes. -/
structure Part.SteadyOk (p : Part) : Prop where
  settings : p.settings.Ok
  lock : p.lock.Ok
  link : p.link.Ok
  time : p.time.Ok

/-- The sequencer is HALTED exactly when the Error Log holds a record; an empty log has counted nothing, and
the count saturates (R69, R178). -/
structure Part.HaltOk (p : Part) : Prop where
  halted : p.disp.seq = .halted ↔ p.log.record.isSome
  emptyLog : p.log.record = none → p.log.further = 0
  count : p.log.further ≤ 255

/-- No two steps in flight share a net, and a SOLO or SCAN step in flight is the only one (R55, R56). -/
def Part.ClaimsOk (p : Part) : Prop :=
  ∀ e f : EngineId, e ≠ f → ∀ x y : Entry, p.disp.inFlight.get e = some x → p.disp.inFlight.get f = some y →
    sharesNet x.nets y.nets = false ∧ x.record.alone = false

/-- The place of a slot counted from HEAD in ring order (R36). -/
def Ring.offset (r : Ring) (i : Nat) : Nat := (i + Config.slots - r.head) % Config.slots

/-- The ring's slots and positions agree (R36, R40, R43): what a live slot holds, what stands from HEAD up to NEXT,
what NEXT and HEAD stand at, and which slots hold a record. -/
structure Ring.Ok (r : Ring) : Prop where
  range : r.InRange
  order : r.offset r.next ≤ r.live
  live : ∀ i, i < Config.slots → r.offset i < r.live →
    r.stateOf i = .pending ∨ r.stateOf i = .active ∨ r.stateOf i = .done
  free : ∀ i, i < Config.slots → r.live ≤ r.offset i → r.stateOf i = .empty ∨ r.stateOf i = .staged
  passed : ∀ i, i < Config.slots → r.offset i < r.offset r.next → r.stateOf i = .active ∨ r.stateOf i = .done
  nextPending : r.next ≠ r.commit → r.stateOf r.next = .pending
  headNotDone : r.head ≠ r.commit → r.stateOf r.head ≠ .done
  records : ∀ i, (lookup Slot.unlisted r.slots i).record.isSome ↔ r.stateOf i ≠ .empty

/-- The ring is in order, and the work of the engines is in the ring: each ring step an engine holds has an ACTIVE slot
of its own and its in-flight entry, and a scan under way is its engine's step (R36, R39, R64). -/
structure Part.RingOk (p : Part) : Prop where
  ring : p.ring.Ok
  active : ∀ e w i, (p.engine e).work = some w → w.origin = some i → i < Config.slots ∧ p.ring.stateOf i = .active
  apart : ∀ e f w x i, e ≠ f → (p.engine e).work = some w → (p.engine f).work = some x → w.origin = some i →
    x.origin ≠ some i
  entries : ∀ e w, (p.engine e).work = some w → ∃ x, p.disp.inFlight.get e = some x ∧ x.origin = w.origin
  scan : ∀ info, p.scanner.scan = some info → ∃ w, (p.engine info.engine).work = some w ∧ w.origin = info.origin

/-- The nail table keeps its canonical form, every net in it is 0 to 2047, and no net holds more than 8 nails (R1,
R2). -/
structure Part.NailsOk (p : Part) : Prop where
  table : tableWf NailEntry.unlisted p.map.nails = true
  nets : ∀ x ∈ p.map.nails, x.2.net ≤ Config.maxNet
  eight : ∀ net, (p.nailsOf net).length ≤ Config.nailsPerNet

/-- An EDITABLE map goes with a STOPPED sequencer and no direct step, and no ring step is in flight in STOPPED, PAUSED
or DRAINED (section 1.2, R44, R46). -/
structure Part.QuietOk (p : Part) : Prop where
  editable : p.map.state = .editable → p.disp.seq = .stopped ∧ p.disp.direct = none
  atRest : p.disp.seq = .stopped ∨ p.disp.seq = .paused ∨ p.disp.seq = .drained → p.ringInFlight = false

/-- How many engines hold work. -/
def Part.worksHeld (p : Part) : Nat := (EngineId.all.filter fun e => (p.engine e).work.isSome).length

/-- The Result Queue keeps its bounds, and its reservations are those of the steps the engines hold, four at most
(R165, R167, R168, R171); a scan under way has an engine that serves it, and that engine stands in a phase of a group
test, never in a re-plan (R126, R143, R157). -/
structure Part.QueueOk (p : Part) : Prop where
  fits : p.queue.records.length + p.queue.reserved ≤ Config.records
  reserved : p.queue.reserved = p.worksHeld
  block : p.queue.block ≠ 0 → p.queue.records.length < p.queue.block
  number : p.queue.blockNumber < 65536
  idle : ∀ e, (p.engine e).state ≠ .active → (p.engine e).work = none
  scan : ∀ info, p.scanner.scan = some info → ∃ w, (p.engine info.engine).work = some w ∧ w.record.kind = .scan
  serving : ∀ e w, (p.engine e).work = some w → w.record.kind = .scan →
    (p.engine e).replan = .none ∧
    (p.engine e).phase ∈ [some .connect, some .settle, some .integrate, some .resultWait] ∧
    ((p.engine e).phase = some .connect → (p.engine e).stillWait = false)

end Sys2Proof.Machine
end

