-- ==== Sys2Proof/Certificates/Slice0/Obligations.lean ====
section
/-! DEFINITION. The statements for the provers. Each docstring names the rule of spec/ it formalises, and says
where a clause rests on a choice of the model. -/

open Sys2Proof Sys2Proof.Machine

/-! ### The machine -/

/-- A step takes the command at the front of the queue and is its effect, with the queue's rest waiting. -/
def Obligations.StepRunsTheFrontCommand : Prop :=
  ∀ (c : Instr) (rest : List Instr) (s : State), s.pending = c :: rest →
    step s = exec c { s with pending := rest }

/-- The model's own choice (assumption logs 3, 4 and 11): with no command waiting a step is what the part does by
itself. A re-plan event comes first, else the completion of the earliest due time reached of all that is timed; which of
several is free. A relay due before its card's last only arrives, and the front end's answer to a threshold command is
free. With none due one period of the recovery oscillator passes: it counts outside EXTERNAL, and where losses are
looked for it is one more without an edge (R96, R97, R100, R102). -/
def Obligations.IdleStepTakesADueEventOrOneTick : Prop :=
  ∀ s : State, s.pending = [] →
    let p := s.part
    (∀ due c q, p.ownEvent = some ((due, c), q) →
      (∃ n, q = { p with free := n }) ∧
      (p.replanEvents ≠ [] → c ∈ p.replanEvents ∧ due = p.time.tick) ∧
      (p.replanEvents = [] → (due, c) ∈ p.timed ∧ due ≤ p.time.tick ∧ ∀ x ∈ p.timed, due ≤ x.1) ∧
      (∀ card, c = .relayMotionEnd card → step s =
        if due < (p.relay.card card).lastDue
        then .next { s with part := { q with relay := p.relay.setCard card ((p.relay.card card).arrived due) } }
        else exec c { s with part := q }) ∧
      (∀ e crossed, c = .dischargeComplete e crossed → ∃ (answer : Bool) (n : Nat),
        step s = exec (.dischargeComplete e answer) { s with part := { p with free := n } }) ∧
      ((∀ card, c ≠ .relayMotionEnd card) → (∀ e crossed, c ≠ .dischargeComplete e crossed) →
        step s = exec c { s with part := q })) ∧
    (p.ownEvent = none →
      (∀ e, (p.engine e).replan = .none) ∧ (∀ x ∈ p.timed, p.time.tick < x.1) ∧
      step s = .next { s with part := { p with time := { p.time with
        tick := if p.time.ref = .external then p.time.tick else p.time.tick + 1
        silent := if p.time.ref = .recovery then p.time.silent else p.time.silent + 1 } } })

/-- The values the tables of chapters 1 to 10 give for power-on; the degraded mark of a capture unit, for which R103
gives none, is clear, the count of oscillator periods without an edge, for which chapter 5 gives none, is 0, and no
expiry is kept: the model's choices (assumption logs 9 and 20). POWER_ON, and the sending of the last byte of the reply
to a PART_RESET that was taken, leave that state, but for the raw fixture lines, which stand as they are outside
(assumption log 2): a line that is asserted has a debounce wait of 531,250 ticks from the reset (R16, R106, R192, R193).
PART_RESET itself is replied to at once, with its status byte alone (the model's choice, assumption log 35). -/
def Obligations.ResetsGiveTheStateTheTablesSay : Prop :=
  (let p := State.reset.part
   State.reset.pending = [] ∧
   (∀ n, p.nail n = ⟨0, .good⟩) ∧ (∀ n, p.nailsOf n = [] ∧ p.attrs n = ⟨false, false⟩) ∧
   p.map.state = .editable ∧ p.map.cursor = 0 ∧ p.map.declared = none ∧
   p.lock.docked = false ∧ p.lock.identity = .absent ∧ p.lock.readStart = none ∧ p.lock.vacuum = false ∧
   p.lock.presentLine.level = false ∧ p.lock.presentLine.wait = none ∧
   p.lock.vacuumLine.level = false ∧ p.lock.vacuumLine.wait = none ∧ p.lock.identityLimit = none ∧
   (∀ c, p.template c = []) ∧ (∀ i, p.slot i = ⟨.empty, none⟩) ∧
   p.ring.head = 0 ∧ p.ring.next = 0 ∧ p.ring.commit = 0 ∧
   p.disp.seq = .stopped ∧ p.disp.window = 8 ∧ (∀ e, p.disp.inFlight.get e = none) ∧ p.disp.direct = none ∧
   (∀ c, p.card c = ⟨.absent, ⟨none, none⟩, [], 0⟩) ∧ p.relay.queue = [] ∧ p.relay.allOpenPending = false ∧
   (∀ e, p.plan e = ⟨.none, [], [], none, false⟩) ∧ p.relay.holdLimit = 5000 ∧ p.relay.link = .startupAllOpen 0 ∧
   p.relay.expired = none ∧
   p.time.tick = 0 ∧ p.time.ref = .recovery ∧ p.time.lossCount = 0 ∧ p.time.verification = none ∧
   p.time.silent = 0 ∧
   (∀ e, p.time.captures.get e = ⟨.disarmed, none, none, false⟩) ∧ p.dueList = [] ∧
   (∀ e, (p.engine e).state = .idle ∧ (p.engine e).phase = none ∧ (p.engine e).work = none ∧
     (p.engine e).retry = false ∧ (p.engine e).replan = .none ∧ (p.engine e).reuseMark = false ∧
     (p.engine e).readyMark = false ∧ (p.engine e).nullSum = 0 ∧ (p.engine e).nullCount = 0 ∧
     (p.engine e).sampleSum = 0 ∧ (p.engine e).sampleCount = 0 ∧ (p.engine e).clip = false ∧
     (p.engine e).request = none ∧ (p.engine e).sequence = 0 ∧ (p.engine e).stimulus = none ∧
     (p.engine e).dischargePath = false ∧ (p.engine e).abort = none) ∧
   p.scanner.state = .idle ∧ p.scanner.scan = none ∧ p.scanner.members = [] ∧ p.scanner.probe = none ∧
   p.scanner.stack = [] ∧ p.scanner.test = none ∧ p.scanner.pendingPair = none ∧ p.scanner.pairs = 0 ∧
   p.scanner.tests = 0 ∧ p.scanner.clampMark = false ∧ p.scanner.reuseMark = false ∧ p.scanner.planCards = [] ∧
   p.queue.records = [] ∧ p.queue.reserved = 0 ∧ p.queue.block = 0 ∧ p.queue.blockNumber = 0 ∧
   p.log.record = none ∧ p.log.further = 0 ∧
   p.link.receiver = .hunt ∧ p.link.interByte = none ∧ p.link.buffer = [] ∧ p.link.inProgress = none ∧
   p.link.transmit = [] ∧ p.link.mode = .starting ∧ p.link.blockCopy = 0) ∧
  ((∀ s : State,
     let waiting := fun raw : Bool => (⟨raw, false, if raw then some 531250 else none⟩ : LineFilter)
     let after := fun cause : ResetCause => { s with part := { State.reset.part with
       lock := { State.reset.part.lock with presentLine := waiting s.part.lock.presentLine.raw,
                                            vacuumLine := waiting s.part.lock.vacuumLine.raw }
       link := { State.reset.part.link with resetCause := cause }
       free := s.part.free } }
     exec .powerOn s = .next (after .powerOn) ∧
     ∀ q f rest, s.part.link.inProgress = some q → q.resetWhenSent = true → s.part.link.transmit = f :: rest →
       f.isReply = true → exec .frameSent s = .next (after .partReset)) ∧
   ∀ (s : State) (number : Byte), s.Serving number →
     let taken := s.part.onLink fun l => { l with inProgress := some ⟨number, 0x62, true⟩ }
     exec (.partReset number []) s = .next { s with part := taken.hand [.reply number 0x62 .done] })

/-- No command is refused or faults, and none touches the queue. -/
def Obligations.EveryCommandAnswersANextState : Prop :=
  ∀ (c : Instr) (s : State), ∃ t, exec c s = .next t ∧ t.pending = s.pending

/-! ### The message link -/

/-- R181, R183: frames with their CRC, and bytes other than SYNC between them, are received whole and in order; a frame
whose CRC does not match, or whose length is out of range, yields nothing and leaves the receiver in HUNT. -/
def Obligations.GoodFramesAreReceivedWholeAndBadOnesDiscarded : Prop :=
  (∀ fs : List (List Byte × InFrame), (∀ x ∈ fs, (∀ b ∈ x.1, b ≠ 0xA5) ∧ x.2.body.length ≤ 1038) →
     Receiver.feed .hunt (fs.flatMap (fun x => x.1 ++ x.2.bytes)) = (.hunt, fs.map (·.2))) ∧
  ((∀ (payload : List Byte) (high low : Byte), 2 ≤ payload.length → payload.length ≤ 1040 →
     256 * high.toNat + low.toNat ≠ (crc16 (leBytes 2 payload.length ++ payload)).toNat →
     Receiver.feed .hunt (0xA5 :: leBytes 2 payload.length ++ payload ++ [high, low]) = (.hunt, [])) ∧
   ∀ low high : Byte, (low.toNat + 256 * high.toNat < 2 ∨ 1040 < low.toNat + 256 * high.toNat) →
     Receiver.feed .hunt [0xA5, low, high] = (.hunt, []))

/-- R183: the CRC starts from 0xFFFF and takes each byte bit by bit, most significant bit first, with the polynomial
0x1021; it stands over the length bytes and the payload, high byte first, in every frame the part sends, and a
received frame is good exactly when it matches. -/
def Obligations.CrcTakesEachByteMostSignificantBitFirst : Prop :=
  crc16 [] = 0xFFFF#16 ∧
  (∀ (bs : List Byte) (b : Byte), crc16 (bs ++ [b]) =
    (List.range 8).foldl (fun (c : BitVec 16) i =>
      if c.getLsbD 15 != b.getLsbD (7 - i) then (c <<< 1) ^^^ 0x1021#16 else c <<< 1) (crc16 bs)) ∧
  crc16 [0x31, 0x32, 0x33, 0x34, 0x35, 0x36, 0x37, 0x38, 0x39] = 0x29B1#16 ∧
  (∀ f : OutFrame, ∃ high low : Byte,
    f.bytes = 0xA5 :: (leBytes 2 (f.body.length + 2) ++ f.header.1 :: f.header.2 :: f.body ++ [high, low]) ∧
    256 * high.toNat + low.toNat =
      (crc16 (leBytes 2 (f.body.length + 2) ++ f.header.1 :: f.header.2 :: f.body)).toNat) ∧
  ∀ (number kind : Byte) (body : List Byte) (high low : Byte),
    ((Receiver.check (number :: kind :: body) (some high)).next low).2 =
      if (crc16 (leBytes 2 (body.length + 2) ++ number :: kind :: body)).toNat = 256 * high.toNat + low.toNat
      then some ⟨number, kind, body⟩ else none

/-- R181 and R182: what a received byte does in each state of the receiver, and the end of the inter-byte wait. A good
frame is offered to the receive buffer in the event of its last byte. That a length out of range starts the wait anew is
assumption log 24; that a limit given early raises the counter to its due time, and one without a wait does nothing, is
the model's choice (assumption log 4). -/
def Obligations.ReceivedByteFollowsTheReceiverTable : Prop :=
  (∀ (s : State) (b : Byte) (c : Instr), (c = .receivedByte b ∨ c = .frameReceived b) →
    let r := s.part.link.receiver
    let anew := some (s.part.dueIn Config.interByteTicks)
    (r = .hunt → b ≠ 0xA5 → exec c s = .next s) ∧
    (r = .hunt → b = 0xA5 → exec c s = .next (s.withReceiver (.length none) anew)) ∧
    (r = .length none → exec c s = .next (s.withReceiver (.length (some b)) anew)) ∧
    (∀ low, r = .length (some low) →
      let len := low.toNat + 256 * b.toNat
      exec c s = .next (s.withReceiver (if 2 ≤ len ∧ len ≤ 1040 then .payload len [] else .hunt) anew)) ∧
    (∀ len kept, r = .payload len kept →
      exec c s = .next (s.withReceiver
        (if kept.length + 1 < len then .payload len (kept ++ [b]) else .check (kept ++ [b]) none) anew)) ∧
    (∀ kept, r = .check kept none → exec c s = .next (s.withReceiver (.check kept (some b)) anew)) ∧
    (∀ kept high, r = .check kept (some high) →
      (crc16 (leBytes 2 kept.length ++ kept)).toNat ≠ 256 * high.toNat + b.toNat →
      exec c s = .next (s.withReceiver .hunt none)) ∧
    (∀ number kind body high, r = .check (number :: kind :: body) (some high) →
      (crc16 (leBytes 2 (body.length + 2) ++ number :: kind :: body)).toNat = 256 * high.toNat + b.toNat →
      exec c s = exec (.badKindRequest number kind body) (s.withReceiver .hunt none))) ∧
  (∀ (s : State) (due : Nat), s.part.link.interByte = some due →
    exec .interByteLimit s = .next ({ s with part := s.part.reach due }.withReceiver .hunt none)) ∧
  ∀ s : State, s.part.link.interByte = none → exec .interByteLimit s = .next s

/-- R184 to R187: a request that finds one in progress waits in the buffer, and is discarded when four wait; one
that finds none is judged at once by its number, its kind, the mode gate and its length, in this order, and goes to
its owner when all pass. -/
def Obligations.RequestsAreBufferedAndJudgedInOrder : Prop :=
  (∀ (k : RequestKind) (number : Byte) (body : List Byte) (s : State), s.part.link.inProgress ≠ none →
    exec (requestOf k number body) s = .next (if s.part.link.buffer.length < 4
      then { s with part := s.part.onLink fun l => { l with buffer := l.buffer ++ [⟨number, k.code, body⟩] } }
      else s)) ∧
  (∀ (k : RequestKind) (body : List Byte) (s : State), s.part.link.inProgress = none → s.part.link.buffer = [] →
    exec (requestOf k 0 body) s = .next s) ∧
  (∀ (number kind : Byte) (body : List Byte) (s : State), s.LinkIdle number → requestKindOf kind.toNat = none →
    exec (.badKindRequest number kind body) s = .next { s with part := s.part.refusedWith number kind .badKind none }) ∧
  ∀ (k : RequestKind) (number : Byte) (body : List Byte) (s : State), s.LinkIdle number →
    exec (requestOf k number body) s =
      if (s.part.link.mode = .starting ∧ k ≠ .describe) ∨
         (s.part.link.mode = .serving ∧ s.part.disp.seq = .stopping ∧
          k ∉ [.status, .describe, .fixtureQuery, .timeRead, .resultsRead])
      then .next { s with part := s.part.refusedWith number k.code .busy none }
      else if k.bodyLength ≠ none ∧ k.bodyLength ≠ some body.length
      then .next { s with part := s.part.refusedWith number k.code .badLength none }
      else event { s with part := { s.part with link :=
        { s.part.link with inProgress := some ⟨number, k.code, false⟩ } } } (owner k body)

/-- R184 to R186, R188: the frame sent leaves the list and the next begins; after a reply the request in progress ends
and the next frame of the buffer is taken, frames of number 0 before it being discarded. Stated with at most four frames
waiting (R184). That FRAME_SENT leaves the counter as it stands is assumption log 13, and that it does nothing with an
empty list is the model's choice (assumption log 4). -/
def Obligations.FrameSentEndsTheRequestOfAReply : Prop :=
  ∀ s : State,
    let rest := s.part.link.transmit.tail
    let dropped := s.part.onLink fun l =>
      { l with transmit := rest, sendStart := if rest = [] then none else some s.part.time.tick }
    (s.part.link.transmit = [] → exec .frameSent s = .next s) ∧
    (∀ n more, s.part.link.transmit = .notice n :: more → exec .frameSent s = .next { s with part := dropped }) ∧
    (∀ f more q, s.part.link.transmit = f :: more → f.isReply = true → s.part.link.inProgress = some q →
      q.resetWhenSent = false → s.part.link.buffer.length ≤ 4 → (∀ x ∈ s.part.link.buffer, x.number = 0) →
      exec .frameSent s = .next { s with part := dropped.onLink fun l => { l with buffer := [], inProgress := none } }) ∧
    ∀ f more q number kind body zeros waiting, s.part.link.transmit = f :: more → f.isReply = true →
      s.part.link.inProgress = some q → q.resetWhenSent = false → s.part.link.buffer.length ≤ 4 →
      s.part.link.buffer = zeros ++ ⟨number, kind, body⟩ :: waiting → (∀ x ∈ zeros, x.number = 0) → number ≠ 0 →
      exec .frameSent s = event { s with part := dropped.onLink fun l =>
        { l with buffer := waiting, inProgress := some ⟨number, kind, false⟩ } }
          (Ev.judgeRequest ⟨number, kind, body⟩)

/-- R188, R194, R195, sections 11.1, 11.3 to 11.5: the sizes of frames and records, and the time a frame takes at 5 µs a
byte; and a step record and its 34 bytes determine each other, wherever the record stands in a body: unused fields come
back as sent. -/
def Obligations.FramesAndRecordsHaveTheirSizesAndStepRecordsReadBack : Prop :=
  ((∀ f : OutFrame, f.bytes.length = f.body.length + 7 ∧ f.lineTicks = 500 * f.bytes.length) ∧
   (∀ r : ResultRecord, r.bytes.length = 32) ∧ (∀ r : StepRecord, r.bytes.length = 34) ∧
   (∀ x : NailEntry, x.bytes.length = 3) ∧ (∀ (r : ErrorRecord) (n : Nat), (r.bytes n).length = 16) ∧
   (∀ b : ResultBlock, (OutFrame.notice (.block b)).body.length = 14 + 32 * b.records.length) ∧
   (∀ number kind records stored reserved,
     (OutFrame.reply number kind (.results records stored reserved)).body.length = 5 + 32 * records.length) ∧
   ∀ number kind st detail, (OutFrame.refused number kind st detail).body.length = 3) ∧
  ((∀ (r : StepRecord) (front : List Byte), r.tag < 65536 → r.template < 256 → r.high < 65536 → r.low < 65536 →
     r.current < 256 → r.gain < 256 → r.aperture < 256 → r.count < 256 → r.settle < 65536 → r.discharge < 65536 →
     r.threshold < 4294967296 → r.rampLimit < 65536 → stepRecordAt (front ++ r.bytes) front.length = some r) ∧
   ∀ (b : List Byte) (r : StepRecord), b.length = 34 → stepRecordAt b 0 = some r → r.bytes = b)

/-! ### The Fixture Map -/

/-- R2: a net's nail list is derived from the nail table: the nails whose net field names it, ascending. -/
def Obligations.NailListsFollowTheNailTable : Prop :=
  ∀ p : Part, tableWf NailEntry.unlisted p.map.nails = true → ∀ net : Nat,
    (∀ n, n ∈ p.nailsOf net ↔ net ≠ 0 ∧ (p.nail n).net = net) ∧ (p.nailsOf net).Pairwise (· < ·)

/-- R5, R7 and R10: MAP_CURSOR sets the cursor to 0 to 4095 and changes nothing else of the map; MAP_READ returns the
entries of the nails from the cursor onwards and advances the cursor by their number. Which first nail number a reply
without entries carries, at the cursor 4096, is left open (assumption log 32). -/
def Obligations.MapCursorAndMapReadMoveTheCursor : Prop :=
  (∀ (s : State) (number : Byte) (body : List Byte), s.Serving number → body.length = 2 →
    let n := u16At body 0
    exec (.mapCursor number body) s = .next { s with
      part :=
        if n ≤ 4095 then ({ s.part with map := { s.part.map with cursor := n } }).repliedWith number 0x10 .done
        else s.part.refusedWith number 0x10 .badValue none }) ∧
  ∀ (s : State) (number : Byte) (body : List Byte), s.Serving number → body.length = 1 →
    let count := byteAt body 0
    let first := s.part.map.cursor
    let returned := min count (4096 - first)
    ∃ named, (first < 4096 → named = first) ∧ exec (.mapRead number body) s = .next { s with
      part :=
        if 1 ≤ count ∧ count ≤ 64 then
          (({ s.part with map := { s.part.map with cursor := first + returned } }).repliedWith number 0x12
            (.nails named ((List.range returned).map fun i => s.part.nail (first + i))))
        else s.part.refusedWith number 0x12 .badValue none }

/-- R8 and R9: MAP_NAILS checks the run as a whole, in the order given, and then writes every entry and advances the
cursor. Which nail NET_FULL names is assumption log 15: the nails that the run moves off their nets are gone first, and
the entries then arrive in ascending nail order; the nail named is the first to bring a ninth to its net, and one exists
whenever the run as a whole would leave nine nails on a net. -/
def Obligations.MapNailsChecksTheWholeRunThenWritesIt : Prop :=
  ∀ (s : State) (number : Byte) (body : List Byte), s.Serving number → s.part.NailsOk →
    let count := byteAt body 0
    let first := s.part.map.cursor
    let net := fun i => u16At body (1 + 3 * i)
    let condition := fun i => byteAt body (3 + 3 * i)
    let old := fun n => (s.part.nail n).net
    let absent := fun i => i < count ∧ net i ≠ 0 ∧ (s.part.card ((first + i) / 64)).status = .absent
    let netWith := fun i n =>
      if first ≤ n ∧ n < first + count ∧ net (n - first) ≠ old n then (if n ≤ first + i then net (n - first) else 0)
      else old n
    let nineOn := fun (i m : Nat) => m ≠ 0 ∧ ∃ l : List Nat, l.Nodup ∧ l.length = 9 ∧ ∀ n ∈ l, netWith i n = m
    let full := fun i => i < count ∧ net i ≠ old (first + i) ∧ nineOn i (net i)
    let refused := fun (st : Status) (detail : Option Nat) =>
      exec (.mapNails number body) s = .next { s with part := s.part.refusedWith number 0x11 st detail }
    let counted := s.part.map.state = .editable ∧ body.length = 1 + 3 * count
    let inRange := counted ∧ 1 ≤ count ∧ count ≤ 64 ∧ first + count ≤ 4096
    let legal := inRange ∧ ∀ i, i < count → net i ≤ 2047 ∧ (condition i = 0 ∨ condition i = 2)
    (s.part.map.state = .frozen → refused .mapFrozen none) ∧
    (s.part.map.state = .editable → body.length ≠ 1 + 3 * count → refused .badLength none) ∧
    (counted → ¬ inRange → refused .badValue none) ∧
    (inRange → ¬ legal → refused .badValue none) ∧
    (legal → ∀ i, absent i → (∀ j, j < i → ¬ absent j) → refused .nailAbsent (some (first + i))) ∧
    (legal → (∀ i, ¬ absent i) → ∀ i, full i → (∀ j, j < i → ¬ full j) → refused .netFull (some (first + i))) ∧
    (legal → ∀ m, nineOn (count - 1) m → ∃ i, full i) ∧
    (legal → (∀ i, ¬ absent i) → (∀ i, ¬ full i) → ∃ nails : List (Nat × NailEntry),
      tableWf NailEntry.unlisted nails = true ∧
      (∀ n, lookup .unlisted nails n =
        if first ≤ n ∧ n < first + count
        then ⟨net (n - first), if condition (n - first) = 0 then .good else .disabled⟩ else s.part.nail n) ∧
      exec (.mapNails number body) s = .next { s with
      part :=
        (({ s.part with map := { s.part.map with nails := nails, cursor := first + count } }).repliedWith
          number 0x11 .done) })

/-- R11 and R15: MAP_NETATTR replaces a net's attribute set, and its reply carries the net's nail list and attributes;
MAP_UNMARK makes every SUSPECT nail GOOD and counts them, and no net field and no other condition changes. -/
def Obligations.MapNetattrAndMapUnmarkWriteTheMap : Prop :=
  (∀ (s : State) (number : Byte) (body : List Byte), s.Serving number → body.length = 3 →
     tableWf NetAttrs.unlisted s.part.map.attrs = true →
     let net := u16At body 0
     let bits := byteAt body 2
     let given : NetAttrs := ⟨bits % 2 = 1, bits / 2 % 2 = 1⟩
     let refused := fun (st : Status) =>
       exec (.mapNetattr number body) s = .next { s with part := s.part.refusedWith number 0x13 st none }
     (s.part.map.state = .frozen → refused .mapFrozen) ∧
     (s.part.map.state = .editable → (net = 0 ∨ 2047 < net ∨ 3 < bits) → refused .badValue) ∧
     (s.part.map.state = .editable → 1 ≤ net → net ≤ 2047 → bits ≤ 3 → ∃ attrs : List (Nat × NetAttrs),
       tableWf NetAttrs.unlisted attrs = true ∧
       (∀ m, lookup .unlisted attrs m = if m = net then given else s.part.attrs m) ∧
       exec (.mapNetattr number body) s = .next { s with
       part :=
         (({ s.part with map := { s.part.map with attrs := attrs } }).repliedWith number 0x13
           (.net (s.part.nailsOf net) given)) })) ∧
  (∀ (s : State) (number : Byte), s.Serving number → tableWf NailEntry.unlisted s.part.map.nails = true →
     ∃ nails : List (Nat × NailEntry), tableWf NailEntry.unlisted nails = true ∧
       (∀ n, lookup .unlisted nails n =
         if (s.part.nail n).condition = .suspect then ⟨(s.part.nail n).net, .good⟩ else s.part.nail n) ∧
       exec (.mapUnmark number []) s = .next { s with
       part :=
         (({ s.part with map := { s.part.map with nails := nails } }).repliedWith number 0x17
           (.unmarked (s.part.map.nails.filter fun x : Nat × NailEntry => decide (x.2.condition = NailCondition.suspect)).length)) })

/-- R12 to R14 and R41: MAP_IDENTITY declares a value while EDITABLE; MAP_FREEZE freezes a map with a declared identity
and counts its mapped nails and its nets with nails; MAP_CLEAR and RING_RESET empty their state in STOPPED alone, and
MAP_CLEAR with no direct step; they leave the templates, the results, the log, the interlock and the relays as they
were. -/
def Obligations.MapIdentityFreezeClearAndRingResetAct : Prop :=
  ((∀ (s : State) (number : Byte) (body : List Byte), s.Serving number → body.length = 8 →
     exec (.mapIdentity number body) s = .next { s with
       part :=
       if s.part.map.state = .frozen then s.part.refusedWith number 0x14 .mapFrozen none
       else (({ s.part with map := { s.part.map with declared := some (BitVec.ofNat 64 (u64At body 0)) } }).repliedWith
         number 0x14 .done) }) ∧
   ∀ (s : State) (number : Byte), s.Serving number → s.part.NailsOk →
     let mapped := (s.part.map.nails.filter fun x : Nat × NailEntry => decide (x.2.net ≠ 0)).length
     let nets := ((List.range 2048).filter fun m => decide (s.part.nailsOf m ≠ [])).length
     exec (.mapFreeze number []) s = .next { s with
       part :=
       if s.part.map.state = .editable ∧ s.part.map.declared = none then s.part.refusedWith number 0x15 .badState none
       else ({ s.part with map := { s.part.map with state := .frozen } }).repliedWith number 0x15 (.frozen mapped nets) }) ∧
  (∀ (s : State) (number : Byte), s.Serving number →
     (exec (.mapClear number []) s = .next { s with
       part :=
       if s.part.disp.seq ≠ .stopped then s.part.refusedWith number 0x16 .badState none
       else if s.part.disp.direct.isSome then s.part.refusedWith number 0x16 .busy none
       else ({ s.part with map := ⟨[], [], .editable, 0, none⟩, ring := ⟨[], 0, 0, 0⟩ }).repliedWith number 0x16 .done }) ∧
     exec (.ringReset number []) s = .next { s with
       part :=
       if s.part.disp.seq ≠ .stopped then s.part.refusedWith number 0x23 .badState none
       else ({ s.part with ring := ⟨[], 0, 0, 0⟩ }).repliedWith number 0x23 .done })

/-- R22, R31, R34, R52, R95, R105, R190: the requests that only report change nothing, and what they report. STATUS,
FIXTURE_QUERY and TIME_READ report in STOPPING as well, and DESCRIBE in every mode. RELAY_QUERY reports of a FAILED card
every relay UNKNOWN, of an ABSENT card its status alone, and of a READY card every relay as it stands: a relay whose
motion wait has completed while others of its card still move reads as what it has reached. -/
def Obligations.QueriesReportAndChangeNothing : Prop :=
  (∀ (s : State) (number : Byte), s.LinkIdle number →
     let p := s.part
     let identity : IdentityState := match p.lock.identity with
       | .absent => .absent
       | .reading => .reading
       | .known _ => .known
       | .unreadable => .unreadable
     let view := fun e => (⟨(p.engine e).state, (p.engine e).phase,
       if (p.engine e).state = .active then (p.engine e).work.bind Work.origin else none⟩ : EngineView)
     let reports := fun (c : Instr) (kind : Byte) (body : Reply) =>
       exec c s = .next { s with part := p.repliedWith number kind body }
     let refuses := fun (c : Instr) (kind : Byte) =>
       exec c s = .next { s with part := p.refusedWith number kind .badValue none }
     reports (.describe number []) 0x60 (.describe ⟨1, 4096, p.presentCards, 4, 1024, 512, 8, 32,
       [.res2, .res4, .diode, .cap, .scan], p.map.state, ⟨p.lock.docked, p.lock.vacuum, identity⟩, p.link.mode,
       p.disp.window, p.relay.holdLimit, p.link.blockCopy⟩) ∧
     (p.link.mode = .serving →
       reports (.fixtureQuery number []) 0x18
         (.fixture ⟨p.lock.docked, p.lock.vacuum, p.lock.identity⟩ p.map.declared p.map.state) ∧
       reports (.timeRead number []) 0x58 (.time p.time.tick p.time.ref p.time.lossCount) ∧
       reports (.status number []) 0x34 (.status ⟨p.disp.seq, p.disp.window, p.ring.head, p.ring.next, p.ring.commit,
         (p.ring.commit + 1024 - p.ring.head) % 1024, ⟨view .me0, view .me1, view .me2, view .me3⟩,
         p.disp.direct.isSome, p.directEngine, p.queue.records.length, p.queue.reserved, p.log.record.isSome,
         p.log.further, p.map.state, ⟨p.lock.docked, p.lock.vacuum, identity⟩, p.time.ref⟩)) ∧
     (p.link.mode = .serving → p.disp.seq ≠ .stopping →
       (∀ body : List Byte, body.length = 2 →
         (1024 ≤ u16At body 0 → refuses (.stepRead number body) 0x21) ∧
         (u16At body 0 < 1024 → reports (.stepRead number body) 0x21 (.slot (p.slot (u16At body 0)).state
           (p.slot (u16At body 0)).record p.ring.head p.ring.next p.ring.commit))) ∧
       ∀ code : Byte,
         (32 ≤ code.toNat → refuses (.templateRead number [code]) 0x25) ∧
         (code.toNat < 32 → reports (.templateRead number [code]) 0x25 (.template (p.template code.toNat))) ∧
         (64 ≤ code.toNat → refuses (.relayQuery number [code]) 0x40) ∧
         (code.toNat < 64 → reports (.relayQuery number [code]) 0x40 (.relay (p.relay.view p.time.tick code.toNat))))) ∧
  (∀ (r : Relay) (tick c : Nat),
     let x := r.card c
     let view := r.view tick c
     let reading := fun m : Option Motion => match m with
       | none => RelayReading.openCircuit
       | some (.closing _) => .closing
       | some .closed => .closed
       | some (.opening _) => .opening
     view.status = x.status ∧ view.holdLimit = r.holdLimit ∧
     (∀ e, view.plans.get e = ⟨(r.plans.get e).state, (r.plans.get e).held.length, (r.plans.get e).hold⟩) ∧
     (x.status = .absent → view.operations = none ∧ view.assignment = none ∧ view.connection = none ∧
       view.relays = [] ∧ view.queued = none) ∧
     (x.status = .failed → view.operations = some x.operations ∧ view.assignment = none ∧
       view.connection = some (none, .unknown) ∧ view.relays = List.replicate 320 .unknown ∧ view.queued = none) ∧
     (x.status = .ready → view.operations = some x.operations ∧ view.assignment = some (r.assignment c) ∧
       view.relays.length = 320 ∧ view.queued = some ((r.queue.find? fun q => q.card == c).map (·.stage))) ∧
     (x.status = .ready → x.inMotion = false →
       view.connection = some (if x.connection.motion = none then none else x.connection.engine,
         reading x.connection.motion) ∧
       ∀ n k, n < 64 → k < 5 → ∃ role, [Role.sh, .kh, .sl, .kl, .g][k]? = some role ∧
         view.relays[5 * n + k]? =
           some (reading ((x.relays.find? fun y => decide (y.1 = ⟨64 * c + n, role⟩)).map (·.2))))) ∧
  (∀ (r : Relay) (tick c : Nat),
     let x := r.card c
     let view := r.view tick c
     let reached := fun d => d ≤ tick ∧ d < x.lastDue
     let reading := fun m : Option Motion => match m with
       | none => RelayReading.openCircuit
       | some (.closing d) => if reached d then .closed else .closing
       | some .closed => .closed
       | some (.opening d) => if reached d then .openCircuit else .opening
     x.status = .ready →
       (∃ e, view.connection = some (e, reading x.connection.motion) ∧
         (reading x.connection.motion = .openCircuit → e = none) ∧
         (reading x.connection.motion ≠ .openCircuit → e = x.connection.engine)) ∧
       ((x.relays.map (·.1)).Nodup → ∀ n k, n < 64 → k < 5 →
         ∃ role, [Role.sh, .kh, .sl, .kl, .g][k]? = some role ∧ view.relays[5 * n + k]? =
           some (reading ((x.relays.find? fun y => decide (y.1 = ⟨64 * c + n, role⟩)).map (·.2)))))

/-! ### The Step Ring and the Template Store -/

/-- R24 to R26 and R29 checks 4 to 9: how a step record of a body is checked, with the first failing check and its
detail. -/
def Obligations.StepRecordsAreCheckedInOrder : Prop :=
  ∀ (p : Part) (b : List Byte) (o : Nat),
    (4 < byteAt b (o + 2) → p.checkedRecordAt b o = .error (.badValue, none)) ∧
    (byteAt b (o + 2) ≤ 4 → ∃ r, stepRecordAt b o = some r ∧
      let limit := fun raw : BitVec 32 => if r.kind = .cap then (raw.toNat : Int) else raw.toInt
      let inRange := (1 ≤ r.high ∧ r.high ≤ 2047) ∧ (1 ≤ r.low ∧ r.low ≤ 2047) ∧ r.current ≤ 4 ∧
        (r.kind ≠ .cap → r.gain ≤ 2 ∧ r.aperture ≤ 5) ∧
        (r.kind = .cap → (1000 ≤ r.threshold ∧ r.threshold ≤ 2000000) ∧ 1 ≤ r.rampLimit ∧ r.rampLimit ≤ 10000) ∧
        (r.kind = .scan → 1 ≤ r.threshold ∧ r.threshold ≤ 2147483647) ∧
        (r.kind ≠ .scan → r.template ≤ 31 ∨ r.template = 255) ∧
        (1 ≤ r.mask.toNat ∧ r.mask.toNat ≤ 15) ∧ r.flags.toNat ≤ 255 ∧
        (r.kind = .scan → r.presence = 0) ∧ (r.kind ≠ .scan → r.presence = 3)
      let is := fun x => p.checkedRecordAt b o = x
      (¬ inRange → is (.error (.badValue, none))) ∧
      (inRange → r.kind ≠ .scan → r.high = r.low → is (.error (.sameNet, none))) ∧
      (inRange → r.kind = .scan → r.low < r.high → is (.error (.badValue, none))) ∧
      (inRange → r.kind ≠ .scan → r.high ≠ r.low → limit r.highLimit < limit r.lowLimit →
        is (.error (.limitOrder, none))) ∧
      (inRange → (r.kind = .scan → r.high ≤ r.low) →
        (r.kind ≠ .scan → r.high ≠ r.low ∧ limit r.lowLimit ≤ limit r.highLimit) →
        is (if p.nailsOf r.high = [] then .error (.notMapped, some r.high)
          else if p.nailsOf r.low = [] then .error (.notMapped, some r.low) else .ok r)))

/-- R29 and R30: STEP_WRITE's checks in their order, and the record stored in a STAGED slot. -/
def Obligations.StepWriteChecksThenStages : Prop :=
  ∀ (s : State) (number : Byte) (body : List Byte), s.Serving number → body.length = 36 → s.part.ring.InRange →
    let slot := u16At body 0
    let ring := s.part.ring
    let live := (slot + 1024 - ring.head) % 1024 < (ring.commit + 1024 - ring.head) % 1024
    let refused := fun (st : Status) (detail : Option Nat) =>
      exec (.stepWrite number body) s = .next { s with part := s.part.refusedWith number 0x20 st detail }
    (1024 ≤ slot → refused .badValue none) ∧
    (slot < 1024 → s.part.map.state = .editable → refused .mapNotFrozen none) ∧
    (slot < 1024 → s.part.map.state = .frozen → live → refused .slotLive none) ∧
    (slot < 1024 → s.part.map.state = .frozen → ¬ live → ∀ st detail,
      s.part.checkedRecordAt body 2 = .error (st, detail) → refused st detail) ∧
    (slot < 1024 → s.part.map.state = .frozen → ¬ live → ∀ r, s.part.checkedRecordAt body 2 = .ok r →
      ∃ slots : List (Nat × Slot), tableWf Slot.unlisted slots = true ∧
        (∀ i, lookup .unlisted slots i = if i = slot then ⟨.staged, some r⟩ else s.part.slot i) ∧
        exec (.stepWrite number body) s = .next { s with
          part := (({ s.part with ring := { ring with slots := slots } }).repliedWith number 0x20
            (.slotWritten slot)) })

/-- R37, R38, R58, R70: STEP_COMMIT's checks in their order, the slots made PENDING as one change, and what the
Dispatcher does in each state: in DRAINED it runs again or, with a fixture check failing, enters PAUSED, and in every
state it evaluates: stated where that starts nothing, and where a waiting direct step is dispatched (when one is,
WaitingDirectStepsAreServedFailedOrEnded says). -/
def Obligations.StepCommitHandsARunToTheDispatcher : Prop :=
  ∀ (s : State) (number : Byte) (body : List Byte), s.Serving number → body.length = 2 → s.part.ring.InRange →
    let c := u16At body 0
    let ring := s.part.ring
    let k := (c + 1024 - ring.commit) % 1024
    let staged := fun j => (s.part.slot ((ring.commit + j) % 1024)).state = .staged
    let refused := fun (st : Status) (detail : Option Nat) =>
      exec (.stepCommit number body) s = .next { s with part := s.part.refusedWith number 0x22 st detail }
    let fits := c < 1024 ∧ c ≠ ring.commit ∧ ring.live + k ≤ 1023
    ((1024 ≤ c ∨ c = ring.commit) → refused .badValue none) ∧
    (c < 1024 → c ≠ ring.commit → 1023 < ring.live + k → refused .ringFull none) ∧
    (fits → ∀ j, j < k → ¬ staged j → (∀ m, m < j → staged m) → refused .notStaged (some ((ring.commit + j) % 1024))) ∧
    (fits → (∀ j, j < k → staged j) → ∃ slots : List (Nat × Slot), tableWf Slot.unlisted slots = true ∧
      (∀ i, lookup .unlisted slots i = if i < 1024 ∧ (i + 1024 - ring.commit) % 1024 < k
        then ⟨.pending, (s.part.slot i).record⟩ else s.part.slot i) ∧
      let after : Part := { s.part with ring := { ring with slots := slots, commit := c } }
      let entered := fun st : SeqState => ({ after with disp := { after.disp with seq := st } } : Part)
      let reply := OutFrame.reply number 0x22 (.committed ring.head ring.next c (ring.live + k))
      let gives := fun q : Part => exec (.stepCommit number body) s = .next { s with part := q }
      let waits := s.part.disp.seq = .stopped ∨ s.part.disp.seq = .pausing ∨ s.part.disp.seq = .paused ∨
        s.part.disp.seq = .halted
      let taken := after.onLink fun l => { l with inProgress := some ⟨number, 0x22, false⟩ }
      (waits → s.part.nothingToDispatch = true → gives (after.answered number 0x22 [reply])) ∧
      (waits → ∀ r e n, r.kind ≠ .scan → taken.resolve e r = some n →
        (Ev.start taken).judgeDirect = (Ev.start taken).dispatch e none r →
        gives (((Ev.start taken).dispatch e none r).p.hand [reply])) ∧
      (s.part.disp.seq = .running → s.part.recordFree = false → gives (after.answered number 0x22 [reply])) ∧
      (s.part.disp.seq = .drained → s.part.fixtureCheck = none → s.part.recordFree = false →
        gives ((entered .running).answered number 0x22 [reply])) ∧
      (s.part.disp.seq = .drained → s.part.fixtureCheck ≠ none → s.part.noRemainder = true →
        s.part.nothingToDispatch = true →
        gives ((entered .paused).answered number 0x22 [reply, after.seqNotice .paused])))

/-- R33: TEMPLATE_WRITE's checks in their order, and the template's list replaced whole. -/
def Obligations.TemplateWriteReplacesTheList : Prop :=
  ∀ (s : State) (number : Byte) (body : List Byte), s.Serving number → s.part.settings.Ok →
    let code := byteAt body 0
    let count := byteAt body 1
    let nets := (List.range count).map fun i => u16At body (2 + 2 * i)
    let allowed := s.part.disp.seq = .stopped ∨ s.part.disp.seq = .paused ∨ s.part.disp.seq = .drained ∨
      s.part.disp.seq = .halted
    let legal := code ≤ 31 ∧ count ≤ 12 ∧ (∀ n ∈ nets, 1 ≤ n ∧ n ≤ 2047) ∧ nets.Nodup
    let refused := fun (st : Status) =>
      exec (.templateWrite number body) s = .next { s with part := s.part.refusedWith number 0x24 st none }
    (¬ allowed → refused .badState) ∧
    (allowed → body.length ≠ 2 + 2 * count → refused .badLength) ∧
    (allowed → body.length = 2 + 2 * count → ¬ legal → refused .badValue) ∧
    (allowed → body.length = 2 + 2 * count → legal → ∃ templates : List (Nat × List Nat),
      tableWf [] templates = true ∧
      (∀ c, lookup [] templates c = if c = code then nets else s.part.template c) ∧
      exec (.templateWrite number body) s = .next { s with
        part := (({ s.part with templates := templates }).repliedWith number 0x24 .done) })

/-- R36, R38 to R43: what STEP_WRITE, STEP_COMMIT, dispatch, completion with retirement, and STOP do to the ring keeps
its slots and positions in order; after a STOP with no slot ACTIVE no slot is live. -/
def Obligations.RingOperationsKeepTheRingInOrder : Prop :=
  Ring.reset.Ok ∧ ∀ r : Ring, r.Ok →
    (∀ i record, i < 1024 → r.isLive i = false → (r.setSlot i ⟨.staged, some record⟩).Ok) ∧
    (∀ c, c < 1024 → c ≠ r.commit → r.live + r.commitCount c ≤ 1023 →
      (∀ i ∈ ringRun r.commit (r.commitCount c), r.stateOf i = .staged) → (r.commitTo c).Ok) ∧
    (∀ i ∈ r.pendingSlots, ((r.setState i .active).advanceNext).Ok) ∧
    (∀ i, i < 1024 → r.stateOf i = .active ∨ r.stateOf i = .pending →
      (((r.setState i .done).advanceNext).retire).Ok) ∧
    r.discardPending.Ok ∧ r.discardPending.next = r.commit ∧ r.discardPending.commit = r.commit ∧
    ((∀ i, i < 1024 → r.stateOf i ≠ .active) → r.discardPending.head = r.commit)

/-! ### The sequencer -/

/-- R21, R45, R47, R49: the fixture checks in their order, RUN and RESUME with their checks in order, and PAUSE in each
sequencer state. A run that finds nothing PENDING is DRAINED at once; the clauses for RUNNING are stated with no result
record free, so that the evaluation of the window starts nothing. -/
def Obligations.RunResumeAndPauseActByState : Prop :=
  ((∀ p : Part,
     (p.lock.docked = false → p.fixtureCheck = some .fixtureAbsent) ∧
     (p.lock.docked = true → (∀ v, p.lock.identity ≠ .known v) → p.fixtureCheck = some .fixtureUnknown) ∧
     ∀ v, p.lock.docked = true → p.lock.identity = .known v → p.fixtureCheck =
       if p.map.declared ≠ some v then some .identityMismatch else if p.lock.vacuum then none else some .vacuumLow) ∧
   ∀ (s : State) (number : Byte), s.Serving number →
     let p := s.part
     let entered := fun st : SeqState => ({ p with disp := { p.disp with seq := st } } : Part)
     let running := fun kind : Byte => (entered .running).repliedWith number kind .done
     let drained := fun kind : Byte =>
       (entered .drained).answered number kind [.reply number kind .done, p.seqNotice .drained]
     let run := fun q : Part => exec (.run number []) s = .next { s with part := q }
     let resume := fun q : Part => exec (.resume number []) s = .next { s with part := q }
     let halfPaused := p.disp.seq = .pausing ∨ p.disp.seq = .paused
     (p.disp.seq ≠ .stopped → run (p.refusedWith number 0x30 .badState none)) ∧
     (p.disp.seq = .stopped → p.disp.direct.isSome → run (p.refusedWith number 0x30 .busy none)) ∧
     (p.disp.seq = .stopped → p.disp.direct = none →
       (p.map.state = .editable → run (p.refusedWith number 0x30 .mapNotFrozen none)) ∧
       (p.map.state = .frozen →
         (∀ st, p.fixtureCheck = some st → run (p.refusedWith number 0x30 st none)) ∧
         (p.fixtureCheck = none → p.ring.pendingSlots = [] → p.noRemainder = true → run (drained 0x30)) ∧
         (p.fixtureCheck = none → p.ring.pendingSlots ≠ [] → p.recordFree = false → run (running 0x30)))) ∧
     (p.disp.seq = .halted → resume (p.refusedWith number 0x32 .logUnread none)) ∧
     ((p.disp.seq = .stopped ∨ p.disp.seq = .running ∨ p.disp.seq = .drained) →
       resume (p.refusedWith number 0x32 .badState none)) ∧
     (halfPaused → p.disp.direct.isSome → resume (p.refusedWith number 0x32 .busy none)) ∧
     (halfPaused → p.disp.direct = none →
       (∀ st, p.fixtureCheck = some st → resume (p.refusedWith number 0x32 st none)) ∧
       (p.fixtureCheck = none → p.ringInFlight = false → p.ring.pendingSlots = [] → p.noRemainder = true →
         resume (drained 0x32)) ∧
       (p.fixtureCheck = none → (p.ringInFlight = true ∨ p.ring.pendingSlots ≠ []) → p.recordFree = false →
         resume (running 0x32)))) ∧
  (∀ (s : State) (number : Byte), s.Serving number →
     let p := s.part
     let pause := fun q : Part => exec (.pause number []) s = .next { s with part := q }
     let entered := fun st : SeqState => ({ p with disp := { p.disp with seq := st } } : Part)
     let paused := (entered .paused).answered number 0x31 [.reply number 0x31 .done, p.seqNotice .paused]
     (p.disp.seq = .running → p.ringInFlight = true → pause ((entered .pausing).repliedWith number 0x31 .done)) ∧
     (p.disp.seq = .running → p.ringInFlight = false → p.noRemainder = true → pause paused) ∧
     (p.disp.seq = .drained → p.noRemainder = true → pause paused) ∧
     ((p.disp.seq = .pausing ∨ p.disp.seq = .paused ∨ p.disp.seq = .halted) →
       pause (p.repliedWith number 0x31 .done)) ∧
     (p.disp.seq = .stopped → pause (p.refusedWith number 0x31 .badState none)))

/-- R42, R50, R51, R92: STOP's checks; with no engine ACTIVE it discards every PENDING slot, releases every relay, and
the sequencer is STOPPED in the same event when no ring step is in flight and the matrix is open, and STOPPING
otherwise. -/
def Obligations.StopDiscardsReleasesAndStops : Prop :=
  ∀ (s : State) (number : Byte), s.Serving number →
    let p := s.part
    let stop := fun q : Part => exec (.stop number []) s = .next { s with part := q }
    let taken := p.disp.seq = .running ∨ p.disp.seq = .pausing ∨ p.disp.seq = .paused ∨ p.disp.seq = .drained
    let reply := OutFrame.reply number 0x33 .done
    (p.disp.seq = .stopped → stop (p.refusedWith number 0x33 .badState none)) ∧
    (p.disp.seq = .halted → stop (p.refusedWith number 0x33 .logUnread none)) ∧
    (taken → p.disp.direct.isSome → stop (p.refusedWith number 0x33 .busy none)) ∧
    (taken → p.disp.direct = none → p.noneActive = true →
      (∀ e, (p.engine e).phase ≠ some .abortDischarge) → ∃ relay : Relay,
        relay = (p.relay.releaseAll fun _ => false).look p.time.tick ∧
        (∀ e, (relay.plans.get e).state = .none ∧ (relay.plans.get e).wanted = [] ∧ (relay.plans.get e).held = [] ∧
          (relay.plans.get e).hold = none) ∧
        (∀ c, (p.card c).status = .ready → relay.target c = ⟨none, []⟩) ∧
        let after := fun st : SeqState =>
          ({ p with ring := p.ring.discardPending, relay := relay, disp := { p.disp with seq := st } } : Part)
        ((p.ringInFlight = true ∨ relay.matrixOpen = false) →
          stop ((after .stopping).answered number 0x33 [reply])) ∧
        (p.ringInFlight = false → relay.matrixOpen = true → p.noRemainder = true →
          stop ((after .stopped).answered number 0x33 [reply, (after .stopped).seqNotice .stopped])))

/-- R70, R71: DIRECT_STEP's checks in their order; the step taken sets the direct-step flag and waits while no result
record is free. -/
def Obligations.DirectStepIsCheckedThenWaits : Prop :=
  ∀ (s : State) (number : Byte) (body : List Byte), s.Serving number → body.length = 34 →
    let p := s.part
    let direct := fun q : Part => exec (.directStep number body) s = .next { s with part := q }
    let allowed := p.disp.seq = .stopped ∨ p.disp.seq = .paused ∨ p.disp.seq = .drained
    (¬ allowed → direct (p.refusedWith number 0x35 .badState none)) ∧
    (allowed → p.disp.direct.isSome → direct (p.refusedWith number 0x35 .busy none)) ∧
    (allowed → p.disp.direct = none →
      (p.map.state = .editable → direct (p.refusedWith number 0x35 .mapNotFrozen none)) ∧
      (p.map.state = .frozen →
        (∀ st detail, p.checkedRecordAt body 0 = .error (st, detail) → direct (p.refusedWith number 0x35 st detail)) ∧
        ∀ r, p.checkedRecordAt body 0 = .ok r →
          (∀ st, p.fixtureCheck = some st → direct (p.refusedWith number 0x35 st none)) ∧
          (p.fixtureCheck = none → p.recordFree = false →
            direct (({ p with disp := { p.disp with direct := some ⟨r, none⟩ } }).repliedWith number 0x35 .done))))

/-- R69, R127, R169, R170, R173, R179, R191: ENGINE_CLEAR returns a FAULTED engine to IDLE and keeps its sequence
number, ERRLOG_READ returns and empties the log and moves the sequencer out of HALTED, RESULTS_READ takes the oldest
records, and PACE sets the three settings together. -/
def Obligations.ClearReadAndPaceRequestsAct : Prop :=
  (∀ (s : State) (number : Byte), s.Serving number →
     let p := s.part
     (∀ code : Byte,
       let clear := fun q : Part => exec (.engineClear number [code]) s = .next { s with part := q }
       (4 ≤ code.toNat → clear (p.refusedWith number 0x41 .badValue none)) ∧
       ∀ e : EngineId, e.index = code.toNat →
         let g := p.engine e
         (g.state ≠ .faulted → clear (p.refusedWith number 0x41 .badState none)) ∧
         (g.state = .faulted → p.nothingToDispatch = true →
           let cleared : Engine := { g with
             state := .idle, nullSum := 0, nullCount := 0, sampleSum := 0, sampleCount := 0, clip := false,
             reuseMark := false, readyMark := false, request := none, stimulus := none, dischargePath := false,
             parted := true }
           clear ((p.setEngine e cleared).repliedWith number 0x41 .done))) ∧
     let read := fun q : Part => exec (.errlogRead number []) s = .next { s with part := q }
     (p.log.record = none → read (p.repliedWith number 0x51 (.errorLog none))) ∧
     ∀ r, p.log.record = some r → p.disp.seq = .halted →
       let after := fun st : SeqState => ({ p with log := ⟨none, 0⟩, disp := { p.disp with seq := st } } : Part)
       let reply := OutFrame.reply number 0x51 (.errorLog (some (r, p.log.further)))
       (p.ringInFlight = true → read ((after .pausing).answered number 0x51 [reply])) ∧
       (p.ringInFlight = false → p.noRemainder = true →
         read ((after .paused).answered number 0x51 [reply, p.seqNotice .paused]))) ∧
  (∀ (s : State) (number : Byte), s.Serving number →
     let p := s.part
     (∀ code : Byte,
       let n := code.toNat
       let rest := p.queue.records.drop n
       let read := fun q : Part => exec (.resultsRead number [code]) s = .next { s with part := q }
       let after : Part := { p with queue := { p.queue with records := rest } }
       ((n = 0 ∨ 32 < n) → read (p.refusedWith number 0x50 .badValue none)) ∧
       (1 ≤ n → n ≤ 32 → (p.queue.records = [] ∨ (after.nothingToDispatch = true ∧ p.scanner.state ≠ .waitingSpace)) →
         read (after.repliedWith number 0x50 (.results (p.queue.records.take n) rest.length p.queue.reserved)))) ∧
     ∀ body : List Byte, body.length = 6 →
       let window := byteAt body 0
       let hold := u32At body 1
       let block := byteAt body 5
       let legal := (1 ≤ window ∧ window ≤ 8) ∧ hold ≤ 100000 ∧ block ∈ [0, 1, 2, 4, 8, 16, 32]
       let pace := fun q : Part => exec (.pace number body) s = .next { s with part := q }
       let after : Part := { p with
         disp := { p.disp with window := window }
         relay := { p.relay with holdLimit := hold }
         queue := { p.queue with block := block }
         link := { p.link with blockCopy := block } }
       (¬ legal → pace (p.refusedWith number 0x61 .badValue none)) ∧
       (legal → p.nothingToDispatch = true → (block = 0 ∨ p.queue.records.length < block ∨ block = p.queue.block) →
         pace (after.repliedWith number 0x61 (.settings window hold block))))

/-! ### Dispatch -/

/-- R53 to R56, R58: the window holds PENDING slots in ring order from the oldest, at most W of them; a BARRIER step
stands in it only alone, and the window ends before a slot only because W is reached or a BARRIER step is involved.
The step chosen for dispatch is the oldest of the window that meets the conditions. -/
def Obligations.TheOldestEligibleStepOfTheWindowIsChosen : Prop :=
  ∀ p : Part,
    let barrier := fun i => ((p.slotRecord i).map StepRecord.barrier).getD false = true
    let w := p.windowSlots
    let nets := fun i => ((p.slotRecord i).map p.netSet).getD []
    let meets := fun (older : List Nat) (r : StepRecord) =>
      p.disp.seq = .running ∧
      (∀ x ∈ p.inFlight, ∀ n ∈ p.netSet r, n ∉ x.nets) ∧ (∀ j ∈ older, ∀ n ∈ p.netSet r, n ∉ nets j) ∧
      (r.barrier = true → older = [] ∧ p.inFlight = []) ∧
      (r.solo = true ∨ r.kind = .scan → p.inFlight = []) ∧
      (∀ x ∈ p.inFlight, x.record.solo = false ∧ x.record.kind ≠ .scan) ∧
      (∃ e, r.allows e = true ∧ (p.engine e).state = .idle) ∧
      (∀ n ∈ p.requiredNets r, p.candidates none n ≠ []) ∧
      p.queue.records.length + p.queue.reserved < 512
    (∃ rest, p.ring.pendingSlots = w ++ rest ∧
      ∀ i more, rest = i :: more → w.length = p.disp.window ∨ barrier i ∨ ∃ j ∈ w, barrier j) ∧
    w.length ≤ p.disp.window ∧
    (∀ i ∈ w, barrier i → w = [i]) ∧
    (1 ≤ p.disp.window → p.ring.pendingSlots ≠ [] → w ≠ []) ∧
    ∀ i r, p.firstEligible [] true w = some (i, r) ↔
      ∃ older younger, w = older ++ i :: younger ∧ p.slotRecord i = some r ∧ meets older r ∧
        ∀ older' j r' later, older = older' ++ j :: later → p.slotRecord j = some r' → ¬ meets older' r'

/-- R53, R54, R58, R59, R64: why a step cannot be served: NO_ENGINE first, then NO_NAIL with the first such net; the
oldest PENDING step that cannot be is failed at dispatch, with its record, its error and HALTED; an evaluation judges
the direct step, then failure, then dispatches the oldest eligible step until none is eligible; and a RUN that
dispatches its one step, and one whose oldest step fails at once. -/
def Obligations.EvaluationFailsAndDispatchesOldestFirst : Prop :=
  (∀ (p : Part) (r : StepRecord),
    let faulted := ∀ e, r.allows e = true → (p.engine e).state = .faulted
    let dry := fun net => ∀ m ∈ p.nailsOf net, (p.nail m).condition = .disabled ∨ (p.card (m / 64)).status ≠ .ready
    let needed := if r.kind = .scan then []
      else r.high :: r.low :: (p.templateNets r).filter fun n => decide (n ≠ r.high ∧ n ≠ r.low)
    (faulted → p.unservable r = some (.noEngine, none)) ∧
    (¬ faulted → ∀ before net after, needed = before ++ net :: after → (∀ n ∈ before, ¬ dry n) → dry net →
      p.unservable r = some (.noNail, some net)) ∧
    (¬ faulted → (∀ n ∈ needed, ¬ dry n) → p.unservable r = none)) ∧
  (∀ v : Ev,
    let p := v.p
    (p.disp.seq ≠ .running ∨ p.ring.pendingSlots = [] → v.judgeFailure = v) ∧
    ∀ i rest r, p.disp.seq = .running → p.ring.pendingSlots = i :: rest → p.slotRecord i = some r →
      let first := (∀ x ∈ p.inFlight, ∀ n ∈ p.netSet r, n ∉ x.nets) ∧
        (r.barrier = true ∨ r.solo = true ∨ r.kind = .scan → p.inFlight = []) ∧
        (∀ x ∈ p.inFlight, x.record.solo = false ∧ x.record.kind ≠ .scan) ∧ p.recordFree = true
      (¬ first ∨ p.unservable r = none → v.judgeFailure = v) ∧
      ∀ cause net, first → p.unservable r = some (cause, net) → p.queue.block = 0 →
        let t := p.failedAtDispatch i r cause net
        v.judgeFailure.p = t ∧
        v.judgeFailure.steps = v.steps ++ (if r.notify then [.notice (.step i r.tag .fault)] else []) ∧
        v.judgeFailure.entries = v.entries ++ [t.seqNotice .halted]) ∧
  (∀ v : Ev,
    v.evaluate = Ev.dispatchEligible 5 v.judgeDirect.judgeFailure ∧
    (∀ fuel i r e, v.p.firstEligible [] true v.p.windowSlots = some (i, r) → v.p.chooseEngine r = some e →
      Ev.dispatchEligible (fuel + 1) v = Ev.dispatchEligible fuel (v.dispatch e (some i) r)) ∧
    v.evaluate.p.firstEligible [] true v.evaluate.p.windowSlots = none) ∧
  ∀ (s : State) (number : Byte) (i : Nat) (rest : List Nat) (r : StepRecord), s.Serving number →
    let p := s.part
    let reply := OutFrame.reply number 0x30 .done
    let running := ({ p with disp := { p.disp with seq := .running } }).onLink fun l =>
      { l with inProgress := some ⟨number, 0x30, false⟩ }
    p.disp.seq = .stopped → p.disp.direct = none → p.map.state = .frozen → p.fixtureCheck = none → p.ring.InRange →
    p.ring.pendingSlots = i :: rest → p.slotRecord i = some r →
    (∀ e n, rest = [] → r.kind ≠ .scan → 1 ≤ p.disp.window → running.eligible [] true r = true →
      running.chooseEngine r = some e → running.resolve e r = some n →
      exec (.run number []) s = .next { s with part := ((Ev.start running).dispatch e (some i) r).p.hand [reply] }) ∧
    ∀ cause net, p.inFlight = [] → p.recordFree = true → p.queue.block = 0 → p.unservable r = some (cause, net) →
      let t := running.failedAtDispatch i r cause net
      exec (.run number []) s = .next { s with
        part := t.hand (reply :: (if r.notify then [.notice (.step i r.tag .fault)] else []) ++ [t.seqNotice .halted]) }

/-- R59, R61 to R63: a net's candidates are its usable nails on cards that carry no step in flight; SH and SL take the
best candidate of their net in the engine's held set, KH and KL of a RES4 step the best other one and otherwise, or
where there is none, the source's own nail, and each guard net of the trimmed template in list order its best for G; a
step resolves exactly when each of its nets has a candidate. -/
def Obligations.StepNailsAreResolvedRoleByRole : Prop :=
  ∀ (p : Part) (e : EngineId) (r : StepRecord),
    let guards := (p.templateNets r).filter fun n => decide (n ≠ r.high ∧ n ≠ r.low)
    let best := p.best e (p.plan e).held
    let sense := fun (role : Role) (source : Nat) (nails : List Nat) => if r.kind = .res4
      then (best role (nails.filter fun m => decide (m ≠ source))).getD source else source
    let high := p.candidates none r.high
    let low := p.candidates none r.low
    (∀ net m, m ∈ p.candidates none net ↔ m ∈ p.nailsOf net ∧ (p.nail m).condition ≠ .disabled ∧
      (p.card (m / 64)).status = .ready ∧ ∀ f x, p.disp.inFlight.get f = some x →
        ∃ ns, x.nails = some ns ∧ ∀ k ∈ ns.sh :: ns.kh :: ns.sl :: ns.kl :: ns.guards, k / 64 ≠ m / 64) ∧
    (∀ n, p.resolve e r = some n ↔
      best .sh high = some n.sh ∧ n.kh = sense .kh n.sh high ∧ best .sl low = some n.sl ∧ n.kl = sense .kl n.sl low ∧
      guards.map (fun net => best .g (p.candidates none net)) = n.guards.map some) ∧
    (p.resolve e r = none ↔ ∃ net ∈ r.high :: r.low :: guards, p.candidates none net = [])

/-- R39, R57, R61 to R64, R76, R110, R130: dispatch of a measurement step takes the reservation, fills the entry, makes
the slot ACTIVE and the engine ACTIVE with its effective parameters, and hands the plan to the Relay Sequencer; nothing
else of the Dispatcher, no other engine, and no result changes. -/
def Obligations.DispatchReservesClaimsAndStarts : Prop :=
  ∀ (v : Ev) (e : EngineId) (origin : Option Nat) (r : StepRecord) (n : Nails), r.kind ≠ .scan →
    v.p.resolve e r = some n →
    let p := v.p
    let t := (v.dispatch e origin r).p
    let nets := r.high :: r.low :: p.templateNets r
    let trimmed := (p.templateNets r).filter fun m => decide (m ≠ r.high ∧ m ≠ r.low)
    let tender := (r.high :: r.low :: trimmed).any fun m => (p.attrs m).tender
    let lowered := 2 < r.current ∧ tender = true
    let g := t.engine e
    t.queue = { p.queue with reserved := p.queue.reserved + 1 } ∧
    t.disp = { p.disp with inFlight := p.disp.inFlight.set e (some ⟨origin, r, nets, trimmed, some n,
      decide (r.kind = .res4 ∧ (n.kh = n.sh ∨ n.kl = n.sl)), decide (trimmed.length ≠ (p.templateNets r).length),
      false, [], some n⟩) } ∧
    (origin = none → t.ring = p.ring) ∧
    (∀ i, origin = some i → t.ring = (p.ring.setState i .active).advanceNext) ∧
    (g.state = .active ∧ g.effCurrent = (if lowered then 2 else r.current) ∧ g.clamped = decide lowered ∧
      g.n = (if r.count = 0 then 256 else r.count) ∧ g.settle = max r.settle 20 ∧ g.discharge = max r.discharge 100 ∧
      g.retry = false ∧ g.clip = false ∧
      g.work = some ⟨origin, r, some n, decide (r.kind = .res4 ∧ (n.kh = n.sh ∨ n.kl = n.sl)),
        decide (trimmed.length ≠ (p.templateNets r).length)⟩) ∧
    (∀ f, f ≠ e → t.engine f = p.engine f) ∧
    (t.plan e).wanted = n.pairs ∧ (t.plan e).held = (if (p.plan e).state = .none then [] else (p.plan e).held) ∧
    (∀ f, f ≠ e → (t.plan f).wanted = (p.plan f).wanted ∧ ∀ x ∈ (t.plan f).held, touches x.card n.pairs = false) ∧
    t.map = p.map ∧ t.lock = p.lock ∧ t.templates = p.templates ∧ t.log = p.log ∧ t.link = p.link ∧
    t.scanner = p.scanner ∧ t.time = p.time

/-- R19, R20, R58, R59, R68, R71, R92, R93, R122 to R125: a direct step that waits is ended as ABORTED once a removal or
a vacuum loss reached it, failed when it cannot be served, or dispatched on the lowest IDLE engine of its mask, each
with a free record alone, and outside HALTED but for the first; DIRECT_STEP that is dispatched or failed at once; and an
undock and a vacuum loss that find it waiting, in every sequencer state but STOPPING, with no engine ACTIVE or beside
one that runs a ring step, which is aborted as AbortsEndOrDischargeActiveEngines says: a run is halted first. The first
cause is kept (assumption log 17). The order of the halting error and the completion is assumption log 6, the SUSPECT
marking of a step that was being retried log 14, the parted mark log 16, the place of the vacuum's FIXTURE_NOTICE log 7,
that the releases of an undock are derived after its flush log 29, and the debounce given early log 4: the model's
choices. -/
def Obligations.WaitingDirectStepsAreServedFailedOrEnded : Prop :=
  (∀ (v : Ev) (r : StepRecord) (ended : Option Cause),
    let p := v.p
    let ends := fun (verdict : Verdict) (cause : Cause) => v.judgeDirect = { v with
      p := p.directEnded r verdict cause
      askRemainder := true
      askEvaluate := true
      entries := v.entries ++ [.notice (.direct r.tag r.kind none verdict (some cause))] }
    let fits := (∀ x ∈ p.inFlight, ∀ n ∈ p.netSet r, n ∉ x.nets) ∧
      (r.barrier = true ∨ r.solo = true ∨ r.kind = .scan → p.inFlight = []) ∧
      (∀ x ∈ p.inFlight, x.record.solo = false ∧ x.record.kind ≠ .scan) ∧
      ∀ n ∈ p.requiredNets r, p.candidates none n ≠ []
    let idle := fun e => r.allows e = true ∧ (p.engine e).state = .idle
    p.disp.direct = some ⟨r, ended⟩ → p.directEngine = none →
    (p.recordFree = false → v.judgeDirect = v) ∧
    (p.recordFree = true →
      (∀ cause, ended = some cause → p.queue.block = 0 → ends .aborted cause) ∧
      (ended = none → p.disp.seq = .halted → v.judgeDirect = v) ∧
      (ended = none → p.disp.seq ≠ .halted →
        (∀ cause net, p.unservable r = some (cause, net) → p.queue.block = 0 → ends .fault cause) ∧
        (p.unservable r = none →
          (¬ fits ∨ (∀ e, ¬ idle e) → v.judgeDirect = v) ∧
          ∀ e, fits → idle e → (∀ f, f.index < e.index → ¬ idle f) → v.judgeDirect = v.dispatch e none r)))) ∧
  (∀ (s : State) (number : Byte) (body : List Byte) (r : StepRecord), s.Serving number → body.length = 34 →
    let p := s.part
    let reply := OutFrame.reply number 0x35 .done
    let taken := ({ p with disp := { p.disp with direct := some ⟨r, none⟩ } }).onLink fun l =>
      { l with inProgress := some ⟨number, 0x35, false⟩ }
    p.disp.seq = .stopped ∨ p.disp.seq = .paused ∨ p.disp.seq = .drained → p.disp.direct = none → p.directEngine = none →
    p.map.state = .frozen → p.checkedRecordAt body 0 = .ok r → p.fixtureCheck = none → p.recordFree = true →
    (∀ cause net, p.unservable r = some (cause, net) → p.queue.block = 0 →
      exec (.directStep number body) s = .next { s with
        part := (taken.directEnded r .fault cause).hand [reply, .notice (.direct r.tag r.kind none .fault (some cause))] }) ∧
    ∀ e n, p.unservable r = none → r.kind ≠ .scan → p.inFlight = [] →
      (∀ m ∈ p.requiredNets r, p.candidates none m ≠ []) → r.allows e = true → (p.engine e).state = .idle →
      (∀ f, f.index < e.index → r.allows f = true → (p.engine f).state ≠ .idle) → taken.resolve e r = some n →
      exec (.directStep number body) s = .next { s with part := ((Ev.start taken).dispatch e none r).p.hand [reply] }) ∧
  ∀ (s : State) (due : Nat) (r : StepRecord) (ended : Option Cause),
    let p := s.part
    let k := p.lock
    let q := p.reach due
    let fallen : LineFilter := ⟨false, false, none⟩
    let error := fun (cause : Cause) =>
      some (⟨cause, none, none, none, none, none, max p.time.tick due % 2 ^ 48⟩ : ErrorRecord)
    let seqAfter := if p.disp.seq = .running ∨ p.disp.seq = .pausing then SeqState.halted else p.disp.seq
    let marked := fun (x : Part) (cause : Cause) =>
      ({ x with disp := { x.disp with direct := some ⟨r, some (ended.getD cause)⟩ } } : Part)
    let halted := fun (x : Part) (cause : Cause) => ({ x with
      log := p.log.afterError p.disp.seq (error cause), disp := { x.disp with seq := seqAfter } } : Part)
    let closed := fun (x : Part) (cause : Cause) =>
      if p.recordFree = true then x.directEnded r .aborted (ended.getD cause) else x
    let entries := fun (x : Part) (cause : Cause) => x.seqEntry p.disp.seq ++
      if p.recordFree = true then [OutFrame.notice (.direct r.tag r.kind none .aborted (some (ended.getD cause)))] else []
    let absent : Part := { q with
      lock := { k with
        presentLine := fallen, docked := false, identity := .absent, readStart := none, identityLimit := none }
      relay := p.relay.askAllOpen.look q.time.tick }
    let lowered := fun discharging => ({ q with
      lock := { k with vacuumLine := fallen, vacuum := false }
      relay := (p.relay.releaseAll discharging).look q.time.tick } : Part)
    let last := OutFrame.notice (.fixture ⟨false, k.vacuum, .absent⟩ .undock)
    let first := OutFrame.notice (.fixture ⟨true, false, k.identity⟩ .vacuumLost)
    let undocks := k.presentLine.wait = some due ∧ k.presentLine.raw = false
    let loses := k.vacuumLine.wait = some due ∧ k.vacuumLine.raw = false ∧ k.docked = true
    p.disp.direct = some ⟨r, ended⟩ → p.directEngine = none → p.disp.seq ≠ .stopping → p.queue.block = 0 →
    (p.noneActive = true → (∀ e, (p.engine e).phase ≠ some .abortDischarge) →
      (undocks →
        let out := halted (marked absent .fixtureRemoved) .fixtureRemoved
        exec (.debounceComplete .fixturePresent) s = .next { s with
          part := (closed out .fixtureRemoved).hand (entries out .fixtureRemoved ++ [last]) }) ∧
      (loses →
        let out := halted (marked (lowered fun _ => false) .vacuumLost) .vacuumLost
        exec (.debounceComplete .vacuumGood) s = .next { s with
          part := (closed out .vacuumLost).hand (first :: entries out .vacuumLost) })) ∧
    ∀ e w x, ({ p with disp := { p.disp with direct := none } } : Part).AloneActive e w x → w.origin ≠ none →
      let g := p.engine e
      let owes := w.record.kind = .cap ∧
        (g.phase = some .discharge ∨ g.phase = some .ramp ∨ (g.phase = some .postDischarge ∧ g.phaseWait ≠ none))
      let draining := g.phase = some .abortDischarge
      let aborted := fun (from_ mid : Part) (cause : Cause) =>
        (marked from_ cause).WorkEnded mid e w x ⟨.aborted, none⟩ (some cause) false ∧ mid.relay = from_.relay ∧
        mid.disp.seq = seqAfter ∧ mid.log = p.log.afterError p.disp.seq (error cause) ∧ mid.link = p.link
      let kept := halted (marked (lowered fun f => decide (f = e)) .vacuumLost) .vacuumLost
      (undocks → ∃ mid, aborted absent mid .fixtureRemoved ∧
        exec (.debounceComplete .fixturePresent) s = .next { s with
          part := (closed mid .fixtureRemoved).hand
            (w.stepNotice .aborted ++ entries mid .fixtureRemoved ++ [last]) }) ∧
      (loses →
        (owes → exec (.debounceComplete .vacuumGood) s = .next { s with
          part := (closed ((kept.disarm e).setEngine e (g.discharging q .vacuumLost)) .vacuumLost).hand
            (first :: entries kept .vacuumLost) }) ∧
        (draining → exec (.debounceComplete .vacuumGood) s = .next { s with
          part := (closed kept .vacuumLost).hand (first :: entries kept .vacuumLost) }) ∧
        (¬ owes → ¬ draining → ∃ mid, aborted (lowered fun _ => false) mid .vacuumLost ∧
          exec (.debounceComplete .vacuumGood) s = .next { s with
            part := (closed mid .vacuumLost).hand (first :: (w.stepNotice .aborted ++ entries mid .vacuumLost)) }))

/-! ### The fixture interlock -/

/-- R16 to R18, R20: a raw line that differs starts a debounce wait and one that returns cancels it; a completed wait
takes the raw level and the line's event: dock, which starts the identity read and its limit, and vacuum good. The read
ends KNOWN with the first eight bytes, least significant first, when nine bytes sum to 0 modulo 256, and UNREADABLE
otherwise and at the limit; a transfer of nine bytes ends 1,080 µs after the dock event at the earliest. Each end sends
one notice. The model's choices: completions given early raise the counter to their due time, a transfer to its least
time, and events without a wait or a read of their own do nothing (assumption log 4); the transfer comes as its outcome,
and one that is not acknowledged takes its first byte, 90 µs, at least (assumption log 26). -/
def Obligations.LinesAreDebouncedAndTheIdentityIsRead : Prop :=
  (∀ s : State,
     let p := s.part
     let k := p.lock
     let changed := fun (l : LineFilter) (asserted : Bool) =>
       if asserted = l.raw then l
       else (⟨asserted, l.level, if asserted = l.level then none else some (p.dueIn 500000)⟩ : LineFilter)
     let settled : LineFilter := ⟨true, true, none⟩
     (∀ asserted,
       exec (.rawLineChange .fixturePresent asserted) s = .next { s with
         part := { p with lock := { k with presentLine := changed k.presentLine asserted } } } ∧
       exec (.rawLineChange .vacuumGood asserted) s = .next { s with
         part := { p with lock := { k with vacuumLine := changed k.vacuumLine asserted } } }) ∧
     (∀ line, (k.line line).wait = none → exec (.debounceComplete line) s = .next s) ∧
     (∀ due, k.presentLine.wait = some due → k.presentLine.raw = true →
       let q := p.reach due
       exec (.debounceComplete .fixturePresent) s = .next { s with
         part := ({ q with lock := { k with
           presentLine := settled, docked := true, identity := .reading,
           readStart := some q.time.tick, identityLimit := some (q.dueIn 200000) } }).hand
             [.notice (.fixture ⟨true, k.vacuum, .reading⟩ .dock)] }) ∧
     ∀ due, k.vacuumLine.wait = some due → k.vacuumLine.raw = true →
       exec (.debounceComplete .vacuumGood) s = .next { s with
         part := ({ p.reach due with lock := { k with vacuumLine := settled, vacuum := true } }).hand
           [.notice (.fixture ⟨k.docked, true, k.identity⟩ .vacuumGood)] }) ∧
  (∀ s : State,
     let p := s.part
     let k := p.lock
     let ended := fun (q : Part) (outcome : IdentityRead) =>
       ({ q with lock := { k with identity := outcome, readStart := none, identityLimit := none } }).hand
         [.notice (.fixture ⟨k.docked, k.vacuum, outcome⟩ .identityRead)]
     let ends := fun (transfer : IdentityTransfer) (q : Part) => exec (.identityReadEnd transfer) s = .next { s with part := q }
     (∀ transfer, k.identity ≠ .reading → exec (.identityReadEnd transfer) s = .next s) ∧
     (∀ start limit, k.identity = .reading → k.readStart = some start → k.identityLimit = some limit →
       let at_ := fun least => p.reach (start + least)
       ends .notAcknowledged (ended (at_ 9000) .unreadable) ∧
       (∀ read : List Byte, (read.length ≠ 9 ∨ limit < (at_ 108000).time.tick) →
         ends (.bytes read) (ended (at_ 108000) .unreadable)) ∧
       ((at_ 108000).time.tick ≤ limit → ∀ b0 b1 b2 b3 b4 b5 b6 b7 check : Byte,
         let value := b7 ++ b6 ++ b5 ++ b4 ++ b3 ++ b2 ++ b1 ++ b0
         let sum := b0 + b1 + b2 + b3 + b4 + b5 + b6 + b7 + check
         ends (.bytes [b0, b1, b2, b3, b4, b5, b6, b7, check])
           (ended (at_ 108000) (if sum = 0 then .known value else .unreadable)))) ∧
     (k.identityLimit = none → exec .identityReadLimit s = .next s) ∧
     ∀ due, k.identityLimit = some due →
       exec .identityReadLimit s = .next { s with part := ended (p.reach due) .unreadable })

/-- R19, R20, R68, R93, R178: undock and vacuum lost with no engine ACTIVE and no direct step: the interlock, ALL_OPEN
or the release of every relay, the halting error in RUNNING and PAUSING and the count in HALTED, the end of STOPPING
once the matrix is open, and the notices. With the fixture absent a vacuum loss does nothing but its notice. The place
of a FIXTURE_NOTICE among the frames of the event is the model's choice (assumption log 7) but for undock, where R19
puts it last; so are the debounce given early and the time of its error, the later of the counter and the due time
(assumption log 4), and that the releases of an undock are derived after its flush (assumption log 29). Events that find
an engine ACTIVE are AbortsEndOrDischargeActiveEngines, those that find a direct step waiting
WaitingDirectStepsAreServedFailedOrEnded. -/
def Obligations.UndockAndVacuumLossHaltARun : Prop :=
  ∀ (s : State) (due : Nat),
    let p := s.part
    let k := p.lock
    let q := p.reach due
    let fallen : LineFilter := ⟨false, false, none⟩
    let quiet := p.noneActive = true ∧ p.disp.direct = none ∧ ∀ e, (p.engine e).phase ≠ some .abortDischarge
    let record := fun cause => (⟨cause, none, none, none, none, none, max p.time.tick due % 2 ^ 48⟩ : ErrorRecord)
    let halts := p.disp.seq = .running ∨ p.disp.seq = .pausing
    let calm := p.disp.seq = .stopped ∨ p.disp.seq = .paused ∨ p.disp.seq = .drained
    let counted := fun (r : ErrorRecord) => match p.log.record with
      | none => (⟨some r, 0⟩ : ErrorLog)
      | some old => ⟨some old, min 255 (p.log.further + 1)⟩
    let halted := fun (x : Part) (r : ErrorRecord) =>
      ({ x with log := counted r, disp := { x.disp with seq := .halted } } : Part)
    let undocked : Part := { q with
      lock := { k with
        presentLine := fallen, docked := false, identity := .absent, readStart := none, identityLimit := none }
      relay := p.relay.askAllOpen.look q.time.tick }
    let undockNotice := OutFrame.notice (.fixture ⟨false, k.vacuum, .absent⟩ .undock)
    let lowered : Part := { q with lock := { k with vacuumLine := fallen, vacuum := false } }
    let released : Part := { lowered with relay := (p.relay.releaseAll fun _ => false).look q.time.tick }
    let lostNotice := OutFrame.notice (.fixture ⟨k.docked, false, k.identity⟩ .vacuumLost)
    (k.presentLine.wait = some due → k.presentLine.raw = false → quiet →
      let undock := fun x : Part => exec (.debounceComplete .fixturePresent) s = .next { s with part := x }
      (halts → p.noRemainder = true → undock ((halted undocked (record .fixtureRemoved)).hand
        [p.seqNotice .halted, undockNotice])) ∧
      (p.disp.seq = .halted → undock (({ undocked with log := counted (record .fixtureRemoved) }).hand [undockNotice])) ∧
      (calm ∨ p.disp.seq = .stopping → undock (undocked.hand [undockNotice]))) ∧
    (k.vacuumLine.wait = some due → k.vacuumLine.raw = false →
      let lose := fun x : Part => exec (.debounceComplete .vacuumGood) s = .next { s with part := x }
      (k.docked = false → lose (lowered.hand [lostNotice])) ∧
      (k.docked = true → quiet →
        (halts → p.noRemainder = true → lose ((halted released (record .vacuumLost)).hand
          [lostNotice, p.seqNotice .halted])) ∧
        (p.disp.seq = .halted → lose (({ released with log := counted (record .vacuumLost) }).hand [lostNotice])) ∧
        (calm ∨ (p.disp.seq = .stopping ∧ (p.ringInFlight = true ∨ released.relay.matrixOpen = false)) →
          lose (released.hand [lostNotice])) ∧
        (p.disp.seq = .stopping → p.ringInFlight = false → released.relay.matrixOpen = true → p.noRemainder = true →
          lose (({ released with disp := { released.disp with seq := .stopped } }).hand
            [lostNotice, p.seqNotice .stopped]))))

/-- R19, R20, R50, R68, R92, R93, R122 to R125, R162, R178: an abort with discharge leads a CAP step that may hold a
charge to ABORT_DISCHARGE with its stimulus off and its discharge path on, and ends every other step as ABORTED at once;
an abort without discharge ends every step so. STOP, a vacuum loss and an undock that find one engine ACTIVE with a
measurement step: the step ends with its cause, or the engine discharges and its plan is RELEASE_AT_END, and the rest of
the matrix is released. Stated with no block streaming and the engine in no quiet phase. The order of the halting error
and the completions is assumption log 6, the SUSPECT marking of a step that was being retried log 14, the parted mark
log 16, the place of a FIXTURE_NOTICE but for undock log 7, that the releases of an undock are derived after its flush
log 29, and the debounce given early log 4: the model's choices. -/
def Obligations.AbortsEndOrDischargeActiveEngines : Prop :=
  (∀ (v : Ev) (e : EngineId) (cause : Cause),
    let p := v.p
    let g := p.engine e
    let owes := (∃ w, g.work = some w ∧ w.record.kind = .cap) ∧
      (g.phase = some .discharge ∨ g.phase = some .ramp ∨ (g.phase = some .postDischarge ∧ g.phaseWait ≠ none))
    (g.state ≠ .active → Ev.abortWithDischarge cause v e = v ∧ Ev.abortWithoutDischarge cause v e = v) ∧
    (g.phase = some .abortDischarge → Ev.abortWithDischarge cause v e = v) ∧
    (g.state = .active → g.phase ≠ some .abortDischarge → ¬ owes →
      Ev.abortWithDischarge cause v e = Ev.abortWithoutDischarge cause v e) ∧
    (g.state = .active → owes → (p.plan e).quiet = false →
      Ev.abortWithDischarge cause v e = { v with p := (p.disarm e).setEngine e (g.discharging p cause) }) ∧
    ∀ w, g.state = .active → g.work = some w → w.record.kind = .scan → (p.plan e).quiet = false →
      Ev.abortWithoutDischarge cause v e = Ev.endScan { v with p := (p.disarm e).setEngine e { g with
        stimulus := none, dischargePath := false, phaseWait := none, interval := none, timeout := none, request := none,
        stillWait := false, abort := some (cause, false) } } .aborted (some cause) none false) ∧
  ∀ (s : State) (e : EngineId) (w : Work) (x : Entry), s.part.AloneActive e w x →
    let p := s.part
    let g := p.engine e
    let k := p.lock
    let owes := w.record.kind = .cap ∧
      (g.phase = some .discharge ∨ g.phase = some .ramp ∨ (g.phase = some .postDischarge ∧ g.phaseWait ≠ none))
    let draining := g.phase = some .abortDischarge
    let mine := fun f => decide (f = e)
    let fallen : LineFilter := ⟨false, false, none⟩
    let aborted := fun (q t : Part) (cause : Cause) =>
      q.WorkEnded t e w x ⟨.aborted, none⟩ (some cause) false ∧ t.relay = q.relay
    let stops := fun t : Part => w.origin ≠ none ∧ p.othersInFlight e = false ∧ t.relay.matrixOpen = true
    let halts := p.disp.seq = .running ∨ p.disp.seq = .pausing
    let error := fun (cause : Cause) (due : Nat) =>
      some (⟨cause, none, none, none, none, none, max p.time.tick due % 2 ^ 48⟩ : ErrorRecord)
    let seqAfter := fun t : Part =>
      if halts then SeqState.halted else if p.disp.seq = .stopping ∧ stops t then .stopped else p.disp.seq
    (∀ number, s.Serving number → w.origin ≠ none →
      p.disp.seq = .running ∨ p.disp.seq = .pausing ∨ p.disp.seq = .paused ∨ p.disp.seq = .drained →
      let reply := OutFrame.reply number 0x33 .done
      let stopping := fun discharging => ({ p with
        ring := p.ring.discardPending
        disp := { p.disp with seq := .stopping }
        relay := (p.relay.releaseAll discharging).look p.time.tick } : Part)
      (owes → exec (.stop number []) s = .next { s with
        part := (((stopping mine).disarm e).setEngine e (g.discharging p .stopped)).answered number 0x33 [reply] }) ∧
      (draining → exec (.stop number []) s = .next { s with part := (stopping mine).answered number 0x33 [reply] }) ∧
      (¬ owes → ¬ draining → ∃ t, exec (.stop number []) s = .next t ∧ t.pending = s.pending ∧
        let q := stopping fun _ => false
        aborted q t.part .stopped ∧ t.part.log = p.log ∧
        t.part.disp.seq = (if stops t.part then .stopped else .stopping) ∧
        t.part.link = (q.answered number 0x33 (reply :: w.stepNotice .aborted ++ t.part.seqEntry .stopping)).link)) ∧
    (∀ due, k.presentLine.wait = some due → k.presentLine.raw = false →
      let q : Part := { p.reach due with
        lock := { k with
          presentLine := fallen, docked := false, identity := .absent, readStart := none, identityLimit := none }
        relay := p.relay.askAllOpen.look (max p.time.tick due) }
      ∃ t, exec (.debounceComplete .fixturePresent) s = .next t ∧ t.pending = s.pending ∧
        aborted q t.part .fixtureRemoved ∧ t.part.disp.seq = seqAfter t.part ∧
        t.part.log = p.log.afterError p.disp.seq (error .fixtureRemoved due) ∧
        t.part.link = (q.hand (w.stepNotice .aborted ++ w.directNotice e .aborted (some .fixtureRemoved) ++
          t.part.seqEntry p.disp.seq ++ [.notice (.fixture ⟨false, k.vacuum, .absent⟩ .undock)])).link) ∧
    ∀ due, k.vacuumLine.wait = some due → k.vacuumLine.raw = false → k.docked = true →
      (p.disp.seq = .stopping → w.origin ≠ none) →
      let lost := OutFrame.notice (.fixture ⟨true, false, k.identity⟩ .vacuumLost)
      let lowered := fun discharging => ({ p.reach due with
        lock := { k with vacuumLine := fallen, vacuum := false }
        relay := (p.relay.releaseAll discharging).look (max p.time.tick due) } : Part)
      let kept : Part := { lowered mine with
        log := p.log.afterError p.disp.seq (error .vacuumLost due)
        disp := { p.disp with seq := if halts then .halted else p.disp.seq } }
      let frames := lost :: kept.seqEntry p.disp.seq
      let lose := fun q : Part => exec (.debounceComplete .vacuumGood) s = .next { s with part := q }
      (owes → lose (((kept.disarm e).setEngine e (g.discharging (p.reach due) .vacuumLost)).hand frames)) ∧
      (draining → lose (kept.hand frames)) ∧
      (¬ owes → ¬ draining → ∃ t, exec (.debounceComplete .vacuumGood) s = .next t ∧ t.pending = s.pending ∧
        let q := lowered fun _ => false
        aborted q t.part .vacuumLost ∧ t.part.disp.seq = seqAfter t.part ∧
        t.part.log = p.log.afterError p.disp.seq (error .vacuumLost due) ∧
        t.part.link = (q.hand (lost :: w.stepNotice .aborted ++ w.directNotice e .aborted (some .vacuumLost) ++
          t.part.seqEntry p.disp.seq)).link)

/-! ### The Timebase -/

/-- R96 to R99, R104: what an edge, a loss and the completed verification do in each reference state, with the notice of
each entry to EXTERNAL and each leaving of it; an edge restarts the count of periods without one. The model's choices: a
loss given before 100 periods have passed lets the missing ones pass, on the counter where it counts the oscillator, and
one given in RECOVERY changes nothing (assumption log 11); a verification given early raises the counter to its due
time, and one without a wait does nothing (assumption log 4). -/
def Obligations.ReferenceFollowsItsTable : Prop :=
  ∀ s : State,
    let p := s.part
    let t := p.time
    let lost := fun (t : Timebase) =>
      let mark := fun c : Capture => if c.state = .armed then { c with degraded := true } else c
      ({ t with
        ref := .recovery, lossCount := min 65535 (t.lossCount + 1), verification := none, silent := 0,
        captures := ⟨mark t.captures.me0, mark t.captures.me1, mark t.captures.me2, mark t.captures.me3⟩ } : Timebase)
    let notified := fun (t : Timebase) =>
      ({ p with time := t } : Part).hand [.notice (.reference t.ref t.tick t.lossCount)]
    (t.ref = .external →
      exec .referenceEdge s = .next { s with part := { p with time := { t with tick := t.tick + 1, silent := 0 } } } ∧
      exec .referenceLoss s = .next { s with part := notified (lost { t with tick := t.tick + 100 }) }) ∧
    (t.ref = .recovery →
      exec .referenceEdge s = .next { s with
        part := { p with time := { t with
          ref := .verifying, verification := some (t.tick + 100000), silent := 0 } } } ∧
      exec .referenceLoss s = .next s) ∧
    (t.ref = .verifying →
      exec .referenceEdge s = .next { s with part := { p with time := { t with silent := 0 } } } ∧
      exec .referenceLoss s = .next { s with
        part := { p with time := lost { t with tick := t.tick + (100 - t.silent) } } }) ∧
    (t.verification = none → exec .verificationComplete s = .next s) ∧
    ∀ due, t.verification = some due → exec .verificationComplete s = .next { s with
      part := notified { t with tick := max t.tick due, ref := .external, verification := none } }

/-- R101, R102: a wait started in EXTERNAL takes its nominal length and any other is lengthened by 17/16, rounded up;
the lengths of the table; the two exempt waits take their nominal length in every state; and the due list has an entry
for every wait that runs, one for each moving relay, with the matter it serves. -/
def Obligations.WaitsAreLengthenedOutsideExternal : Prop :=
  (∀ (t : Timebase) (n : Nat), (t.ref = .external → t.waitLength n = n) ∧
    (t.ref ≠ .external → 17 * n ≤ 16 * t.waitLength n ∧ 16 * t.waitLength n < 17 * n + 16) ∧
    t.dueIn n = t.tick + t.waitLength n) ∧
  [Config.debounceTicks, Config.identityTicks, Config.interByteTicks, Config.closeTicks, Config.openTicks].map lengthen =
    [531250, 212500, 106250, 42500, 26563] ∧
  [Config.debounceTicks, Config.identityTicks, Config.interByteTicks, Config.ackTimeoutTicks, Config.closeTicks,
    Config.openTicks, Config.verifyTicks] = [500000, 200000, 100000, 4000, 40000, 25000, 100000] ∧
  [0, 1, 2, 3, 4, 5].map apertureMicros = [20, 50, 100, 500, 2000, 20000] ∧
  (∀ us, servedSettle us = max us 20 ∧ servedDischarge us = max us 100 ∧ micros us = 100 * us) ∧
  (∀ p : Part,
    let runs := fun (due : Nat) (c : Instr) => (due, c) ∈ p.dueList
    (∀ line due, (p.lock.line line).wait = some due → runs due (.debounceComplete line)) ∧
    (∀ due, p.lock.identityLimit = some due → runs due .identityReadLimit) ∧
    (∀ due, p.link.interByte = some due → runs due .interByteLimit) ∧
    (∀ due, p.time.verification = some due → runs due .verificationComplete) ∧
    (∀ card image start, p.relay.link = .update card image start → runs (start + 4000) .cardAckTimeout) ∧
    (∀ x ∈ p.relay.cards, ∀ due, (x.2.connection.motion = some (.closing due) ∨ x.2.connection.motion = some (.opening due) ∨
      ∃ y ∈ x.2.relays, y.2 = .closing due ∨ y.2 = .opening due) → runs due (.relayMotionEnd x.1)) ∧
    ∀ e,
      let g := p.engine e
      (∀ due, (p.plan e).hold = some due → runs due (.holdExpiry e)) ∧
      (∀ due, g.interval = some due → runs due (.sampleIntervalComplete e)) ∧
      (∀ due, g.timeout = some due → runs due (.sampleTimeout e)) ∧
      ∀ due, g.phaseWait = some due →
        (g.phase = some .settle → runs due (.settleComplete e)) ∧
        (g.phase = some .discharge → runs due (.dischargeComplete e false)) ∧
        (g.phase = some .ramp → runs due (.rampLimit e)) ∧
        (g.phase = some .postDischarge → runs due (.postDischargeComplete e)) ∧
        (g.phase = some .abortDischarge → runs due (.abortDischargeComplete e))) ∧
  (∀ s : State, s.part.time.ref = .recovery → ∃ t, exec .referenceEdge s = .next t ∧
    t.part.time.verification = some (s.part.time.tick + 100000))

/-! ### The relay matrix -/

/-- R51, R74, R75, R80, R92, R93, R193: the start-up pass query by query, with READY and the serving link at its end;
the asking of an ALL_OPEN, which flushes the queue, withdraws every plan, and has the releases of the READY cards that
were PLANNED or HELD derived, in ascending card order; and its end, which sends every relay of every READY card towards
OPEN and ends STOPPING once the matrix is open, where no engine waits for a still matrix and no plan stands ready. That
the releases are derived after the flush is assumption log 29, and the image of an update on the link counts as present
log 8. That relays whose start-up opening is over are OPEN at each query's end is assumption log 22; ends given early
raise the counter, and ends without their transaction do nothing (assumption log 4): the model's choices. -/
def Obligations.EnumerationAndAllOpenEnd : Prop :=
  (∀ (s : State) (start : Nat), s.part.relay.link = .startupAllOpen start →
    let q := s.part.reach (start + 1200)
    exec .allOpenEnd s = .next { s with
      part := { q with relay := { q.relay with link := .query 0 q.time.tick (q.time.tick + 26563) } } }) ∧
  (∀ (s : State) (position start openDue : Nat) (answered : Bool), s.part.relay.link = .query position start openDue →
    let q := s.part.reach (start + 1200)
    let found : Card :=
      if answered = false then ⟨.absent, ⟨none, none⟩, [], 0⟩
      else if q.time.tick < openDue then
        ⟨.ready, ⟨none, some (.opening openDue)⟩, (pairsOfCard position).map fun x => (x, .opening openDue), 0⟩
      else ⟨.ready, ⟨none, none⟩, [], 0⟩
    let relay := (q.relay.setCard position found).settleDue q.time.tick
    (position < 63 → exec (.enumerationQueryEnd answered) s = .next { s with
      part := { q with relay := { relay with link := .query (position + 1) q.time.tick openDue } } }) ∧
    (63 ≤ position → s.part.noStillWait = true →
      let after : Part := { q with
        relay := ({ relay with link := .idle }).look q.time.tick
        link := { q.link with mode := .serving } }
      exec (.enumerationQueryEnd answered) s = .next { s with
        part := after.hand [.notice (.ready q.link.resetCause 1 after.presentCards q.time.tick)] })) ∧
  (∀ (s : State) (start : Nat), s.part.relay.link = .allOpen start → s.part.noStillWait = true →
    let q := s.part.reach (start + 1200)
    let opened := q.relay.endAllOpen q.time
    let after : Part := { q with relay := opened.look q.time.tick }
    ((∀ e, opened.standsReady e = false) →
      (s.part.disp.seq ≠ .stopping ∨ s.part.ringInFlight = true ∨ after.relay.matrixOpen = false →
        exec .allOpenEnd s = .next { s with part := after }) ∧
      (s.part.disp.seq = .stopping → s.part.ringInFlight = false → after.relay.matrixOpen = true →
        s.part.noRemainder = true → exec .allOpenEnd s = .next { s with
          part := ({ after with disp := { after.disp with seq := .stopped } }).hand [s.part.seqNotice .stopped] })) ∧
    ∀ c, opened.card c =
      let x := (q.relay.card c).asOf q.time.tick
      let due := q.time.dueIn 25000
      if (q.relay.card c).status = .ready then
        { x with
          connection := ⟨x.connection.engine, x.connection.motion.map fun _ => .opening due⟩
          relays := x.relays.map fun y => (y.1, .opening due) }
      else q.relay.card c) ∧
  (∀ r : Relay,
    let asked := r.askAllOpen
    let present := fun c : Nat => (match r.link with
      | .update card image _ => if card = c then image else (r.card c).destination
      | _ => (r.card c).destination : Image)
    asked.allOpenPending = true ∧ asked.link = r.link ∧ asked.cards = r.cards ∧ asked.holdLimit = r.holdLimit ∧
    (∀ e, asked.plans.get e = ⟨.none, [], [], none, (r.plans.get e).quiet⟩) ∧
    (∀ c, asked.assignment c = .unassigned) ∧
    asked.queue = ((List.range 64).filter fun c => decide ((r.card c).status = .ready ∧ r.assignment c ≠ .unassigned ∧
      ((present c).connection ≠ none ∨ (present c).closed ≠ []))).map fun c => ⟨c, ⟨none, []⟩, .final⟩) ∧
  ∀ (s : State), (s.part.relay.link = .idle ∨ ∃ c image start, s.part.relay.link = .update c image start) →
    exec .allOpenEnd s = .next s ∧ ∀ answered, exec (.enumerationQueryEnd answered) s = .next s

/-- R51, R82, R83, R85, R86, R92: the link starts a pending ALL_OPEN first and otherwise, outside quiet deferral, the
oldest queued update whose card is not in motion; an acknowledgement up to 40 µs after the start sets the card's relays
moving, and a late one is discarded, past the 40 µs or in an update that an expiry began, before its own 12 µs are over;
40 µs without one fail the card. Stated where no engine waits for a still matrix, and for a failure where no step is
ended by it (AFailedCardFaultsTheStepThatUsesIt says what happens to one) and the evaluation finds nothing to do; in
STOPPING a failure that leaves the matrix open ends it. The engine of the CARD_NOTICE is the one to which the card is
PLANNED, and absent for a HELD card (assumption log 33). Which acknowledgement is late, and motion from 12 µs after the
start, is assumption log 20; that a failure judges connection ready of the engines its card alone held back, and of no
other, is logs 21 and 28; a timeout given early raises the counter, and events without their transaction do nothing
(assumption log 4): the model's choices. -/
def Obligations.CardLinkStartsAndEndsTransactions : Prop :=
  (∀ (r : Relay) (tick : Nat),
    (r.link ≠ .idle → r.look tick = r) ∧
    (r.link = .idle → r.allOpenPending = true → r.look tick = { r with link := .allOpen tick, allOpenPending := false }) ∧
    (r.link = .idle → r.allOpenPending = false → (∃ e, (r.plans.get e).quiet = true) → r.look tick = r) ∧
    (r.link = .idle → r.allOpenPending = false → (∀ e, (r.plans.get e).quiet = false) →
      ((∀ u ∈ r.queue, (r.card u.card).inMotion = true) → r.look tick = r) ∧
      ∀ older u younger, r.queue = older ++ u :: younger → (∀ x ∈ older, (r.card x.card).inMotion = true) →
        (r.card u.card).inMotion = false → r.look tick = { r with
          link := .update u.card u.image tick
          queue := (older ++ u :: younger).filter fun x => decide (x.card ≠ u.card) })) ∧
  (∀ (s : State) (card start : Nat) (image : Image), s.part.relay.link = .update card image start →
    let q := s.part.reach (start + 1200)
    let moved := q.relay.setCard card ((q.relay.card card).acknowledge image q.time)
    (s.part.time.tick ≤ start + 4000 → s.part.relay.expired ≠ some start ∨ start + 1200 ≤ s.part.time.tick →
      s.part.noStillWait = true → exec .cardAcknowledgement s = .next { s with
        part := { q with relay := ({ moved with link := .idle }).look q.time.tick } }) ∧
    (start + 4000 < s.part.time.tick → exec .cardAcknowledgement s = .next s) ∧
    (s.part.relay.expired = some start → s.part.time.tick < start + 1200 → exec .cardAcknowledgement s = .next s)) ∧
  (∀ (s : State) (card start : Nat) (image : Image), s.part.relay.link = .update card image start →
    (∀ e, s.part.relay.plannedTo card = some e → (s.part.engine e).state ≠ .active ∨
      (s.part.engine e).phase = some .abortDischarge ∨ (s.part.engine e).phase = some .resultWait) →
    let q := s.part.reach (start + 4000)
    let x := q.relay.card card
    let failed := (q.relay.setCard card { x with status := .failed, connection := ⟨none, none⟩, relays := [] }).unqueue
      card
    let after : Relay := { failed with
      link := .idle
      expired := some q.time.tick
      plans := failed.plans.mapIdx fun _ g => g.loseFailed card }
    let notice := OutFrame.notice (.card card q.time.tick x.operations (s.part.relay.plannedTo card))
    let failing : Ev := { Ev.start { q with relay := after } with first := [notice] }
    ∀ told : Part, (EngineId.all.filter (s.part.relay.holdsBack card image)).foldl Ev.judgeReady failing =
        { failing with p := told } → told.noStillWait = true → told.nothingToDispatch = true →
      let looked : Part := { told with relay := told.relay.look told.time.tick }
      (s.part.disp.seq ≠ .stopping ∨ s.part.ringInFlight = true ∨ looked.relay.matrixOpen = false →
        exec .cardAckTimeout s = .next { s with part := looked.hand [notice] }) ∧
      (s.part.disp.seq = .stopping → s.part.ringInFlight = false → looked.relay.matrixOpen = true →
        s.part.noRemainder = true → exec .cardAckTimeout s = .next { s with
          part := ({ looked with disp := { looked.disp with seq := .stopped } }).hand
            [notice, s.part.seqNotice .stopped] })) ∧
  ∀ s : State, (∀ c image start, s.part.relay.link ≠ .update c image start) →
    exec .cardAcknowledgement s = .next s ∧ exec .cardAckTimeout s = .next s

/-- R65, R68, R85, R86, R121 to R123, R168, R171, R175, R178: a card that does not acknowledge and that a plan uses ends
its engine's measurement step as FAULT with the cause CARD_FAULT: the step's record, the halting error with the card,
the CARD_NOTICE with the engine, and the relays of the card gone from every plan before the completion forms the held
set. A step in ABORT_DISCHARGE or RESULT_WAIT goes on (CardLinkStartsAndEndsTransactions), and a scan ends as
ScanEnginesReportToTheScanner says. Stated where no engine waits for a still matrix, the card holds no other engine back
(assumption log 28), and the end of the step does nothing beyond itself but for the block its record may fill. SUSPECT
marking by the entry's retrying mark is assumption log 14; the tick that State keeps of the expiry is log 20; the place
of the CARD_NOTICE is log 7, and that a timeout given early raises the counter log 4: the model's choices. -/
def Obligations.AFailedCardFaultsTheStepThatUsesIt : Prop :=
  ∀ (s : State) (card start : Nat) (image : Image) (e : EngineId) (w : Work) (x : Entry),
    let p := s.part
    let g := p.engine e
    p.relay.link = .update card image start → p.relay.plannedTo card = some e → p.EndsAlone e w x →
    (p.plan e).quiet = false → x.origin = w.origin →
    p.noStillWait = true → (∀ f, p.relay.holdsBack card image f = false) →
    g.phase ≠ some .abortDischarge → g.phase ≠ some .resultWait → (p.disp.seq = .stopping → w.origin ≠ none) →
    let q := p.reach (start + 4000)
    let failed : Part := { q with
      relay := ({ q.relay.failCard card with expired := some q.time.tick }).look q.time.tick }
    let error := w.origin.map fun slot =>
      (⟨.cardFault, some slot, some w.record.tag, some e, some card, none, q.time.tick % 2 ^ 48⟩ : ErrorRecord)
    (∀ f, failed.plan f = (p.plan f).loseFailed card) ∧ (failed.card card).status = .failed ∧
    (∀ f, ∀ y ∈ (failed.plan f).wanted ++ (failed.plan f).held, y.nail / 64 ≠ card) ∧
    ∃ t, exec .cardAckTimeout s = .next t ∧ t.pending = s.pending ∧
      failed.WorkEnded t.part e w x ⟨.fault, none⟩ (some .cardFault) false ∧
      t.part.relay = (failed.relay.complete failed.time e).look failed.time.tick ∧
      t.part.disp.seq = (match w.origin with
        | none => p.disp.seq
        | some _ => p.disp.seq.afterStep true w.record.pauseAfter (p.othersInFlight e)
            (decide (t.part.ring.pendingSlots ≠ [])) t.part.relay.matrixOpen) ∧
      t.part.log = p.log.afterError p.disp.seq error ∧
      t.part.link = (q.hand (.notice (.card card q.time.tick (p.card card).operations (some e)) ::
        failed.filledBlock (failed.workRecord e w ⟨.fault, none⟩ (some .cardFault)) ++ w.stepNotice .fault ++
        w.directNotice e .fault (some .cardFault) ++ t.part.seqEntry p.disp.seq)).link

/-- R73, R90, R51, R92: the end of a card's motion, where no engine waits for a still matrix and no plan stands ready;
in STOPPING the sequencer is STOPPED once the matrix is open and no ring step is in flight; and the expiry of a hold.
Ends given early raise the counter to their due time, and those without a motion or a hold do nothing: the model's
choice (assumption log 4). -/
def Obligations.MotionAndHoldEnd : Prop :=
  (∀ (s : State) (card : Nat),
    let x := s.part.relay.card card
    let q := s.part.reach x.lastDue
    let rested := (q.relay.setCard card x.settled).deriveAtRest card
    let relay := rested.look q.time.tick
    let after : Part := { q with relay := relay }
    (x.inMotion = false → exec (.relayMotionEnd card) s = .next s) ∧
    (x.inMotion = true → x.settled.inMotion = false) ∧
    (x.inMotion = true → s.part.noStillWait = true → (∀ e, rested.standsReady e = false) →
      ((s.part.disp.seq ≠ .stopping ∨ s.part.ringInFlight = true ∨ relay.matrixOpen = false) →
        exec (.relayMotionEnd card) s = .next { s with part := after }) ∧
      (s.part.disp.seq = .stopping → s.part.ringInFlight = false → relay.matrixOpen = true →
        s.part.noRemainder = true →
        exec (.relayMotionEnd card) s = .next { s with
          part := ({ after with disp := { after.disp with seq := .stopped } }).hand [s.part.seqNotice .stopped] }))) ∧
  ∀ (s : State) (e : EngineId),
    ((s.part.plan e).hold = none → exec (.holdExpiry e) s = .next s) ∧
    ∀ due, (s.part.plan e).hold = some due →
      let q := s.part.reach due
      let relay := (q.relay.releaseHeld e).look q.time.tick
      exec (.holdExpiry e) s = .next { s with part := { q with relay := relay } } ∧
      relay.plans = q.relay.plans.set e { q.plan e with held := [], hold := none } ∧ relay.cards = q.relay.cards

/-- R87, R88, R109, R110: a plan stands ready exactly when its pairs and the connections of its cards are CLOSED, no
other card is connected to the engine and no other relay of those cards is closed or moving, and no ALL_OPEN and no
update of them is under way: what the laws of R88 and R109 ask beyond R87's list is assumption log 28. It is then READY
and its engine is told, at the plan, at the end of a card's motion and at the end of an ALL_OPEN, here with the step's
first phase entered. Ends given early raise the counter (assumption log 4, the model's choice). -/
def Obligations.ConnectionReadyIsJudgedWhenTheMatrixSettles : Prop :=
  (∀ (r : Relay) (e : EngineId),
    let g := r.plans.get e
    r.standsReady e = true ↔ g.state = .connecting ∧
      (∀ x ∈ g.wanted, (r.card (x.nail / 64)).connection = ⟨some e, some .closed⟩ ∧
        (x, Motion.closed) ∈ (r.card (x.nail / 64)).relays) ∧
      (∀ y ∈ r.cards, y.2.status ≠ .failed → y.2.connection.engine = some e →
        (∃ x ∈ g.wanted, x.nail / 64 = y.1) ∧ ∀ z ∈ y.2.relays, z.1 ∈ g.wanted) ∧
      r.allOpenPending = false ∧
      (r.link = .idle ∨ ∃ c image start, r.link = .update c image start ∧ (∀ x ∈ g.wanted, x.nail / 64 ≠ c) ∧
        image.connection ≠ some e)) ∧
  (∀ (v : Ev) (e : EngineId),
    let r := v.p.relay
    let ready : Relay := { r with plans := r.plans.set e { r.plans.get e with state := .ready } }
    v.judgeReady e = if r.standsReady e then ({ v with p := { v.p with relay := ready } }).connectionReady e else v) ∧
  ∀ (s : State) (c : Instr) (q : Part) (r : Relay),
    ((∃ card, c = .relayMotionEnd card ∧ (s.part.relay.card card).inMotion = true ∧
        q = s.part.reach (s.part.relay.card card).lastDue ∧
        r = (q.relay.setCard card (s.part.relay.card card).settled).deriveAtRest card) ∨
      ∃ start, c = .allOpenEnd ∧ s.part.relay.link = .allOpen start ∧ q = s.part.reach (start + 1200) ∧
        r = q.relay.endAllOpen q.time) →
    s.part.noStillWait = true → s.part.disp.seq ≠ .stopping →
    ∀ e, r.standsReady e = true → (∀ f, f ≠ e → r.standsReady f = false) →
      let told : Part := { q with relay := { r with plans := r.plans.set e { r.plans.get e with state := .ready } } }
      ∀ after : Part, (Ev.start told).connectionReady e = { Ev.start told with p := after } → after.noStillWait = true →
        exec c s = .next { s with part := { after with relay := after.relay.look after.time.tick } }

/-- R79, R80, R83, R94: an update is given in two stages exactly when the connection changes engine or a nail is
regrouped; stage A only opens, and the target follows it; and the image acknowledged by a card at rest keeps the two
laws of R79: no role relay is closed or closing on a card whose connection is open or opening, and the relays of one
nail that are closed or closing are of one group. -/
def Obligations.UpdatesBreakBeforeTheyMake : Prop :=
  let oneGroup := fun closed : List Pair => ∀ a ∈ closed, ∀ b ∈ closed, a.nail = b.nail → a.role.group = b.role.group
  (∀ present target : Image, oneGroup target.closed →
    let twoStages := (∃ f e, present.connection = some f ∧ target.connection = some e ∧ f ≠ e) ∨
      ∃ a ∈ present.closed, ∃ b ∈ target.closed, a.nail = b.nail ∧ a.role.group ≠ b.role.group
    let image := (nextUpdate present target).1
    (¬ twoStages → nextUpdate present target = (target, .final)) ∧
    (twoStages → (nextUpdate present target).2 = .stageA ∧ (∀ a ∈ image.closed, a ∈ present.closed ∧ a ∈ target.closed) ∧
      (image.connection = none ∨ image.connection = present.connection) ∧ nextUpdate image target = (target, .final))) ∧
  ∀ (x : Card) (target : Image) (t : Timebase), x.inMotion = false → oneGroup target.closed →
    (target.connection = none → target.closed = []) → (x.connection.engine.isSome ↔ x.connection.motion.isSome) →
    let lawful := fun y : Card =>
      ((∀ m, y.connection.motion = some m → m.towardsClosed = false) →
        ∀ z ∈ y.relays, z.2.towardsClosed = false) ∧
      oneGroup ((y.relays.filter fun z => z.2.towardsClosed).map (·.1))
    lawful x →
    let image := (nextUpdate x.destination target).1
    let moved := x.acknowledge image t
    let arriving := image.closed.filter fun a => !x.relays.any fun y => decide (y.1 = a)
    let joins := if x.connection.motion = none ∧ image.connection.isSome then 1 else 0
    lawful moved ∧
    (∀ y ∈ moved.relays, y.1 ∈ image.closed → y.2 = .closed ∨ y.2 = .closing (t.dueIn 40000)) ∧
    (∀ y ∈ moved.relays, y.1 ∉ image.closed → y.2 = .opening (t.dueIn 25000)) ∧
    (∀ a ∈ image.closed, ∃ y ∈ moved.relays, y.1 = a) ∧ (∀ y ∈ x.relays, ∃ z ∈ moved.relays, z.1 = y.1) ∧
    moved.operations = min 4294967295 (x.operations + arriving.length + joins)

/-! ### The measurement engines -/

/-- R110, R111, R114, R116: what an engine in CONNECT does when it is told connection ready, by the kind of its step; in
any other phase (assumption log 19), and while it waits for a still report, the report changes nothing. A QUIET step in
a still matrix is QuietPhasesDeferUpdatesAndEnd. That the number is raised before the first request carries it is
assumption log 12, and that the parted mark is cleared log 16. -/
def Obligations.ConnectionReadyStartsTheFirstPhase : Prop :=
  ∀ (v : Ev) (e : EngineId),
    let g := v.p.engine e
    let becomes := fun h : Engine => v.connectionReady e = { v with p := v.p.setEngine e h }
    ((g.phase ≠ some .connect ∨ g.stillWait = true ∨ g.work = none) → v.connectionReady e = v) ∧
    ∀ w, g.phase = some .connect → g.work = some w → g.stillWait = false →
      let resistance := w.record.kind = .res2 ∨ w.record.kind = .res4
      let nulls := resistance ∧ w.record.flags.getLsbD 6 = false
      let next := (g.sequence + 1) % 256
      let aperture := apertureMicros w.record.aperture
      (w.record.kind = .cap → becomes { g with
        readyMark := true, phase := some .discharge, dischargePath := true, parted := false,
        phaseWait := some (v.p.dueIn (100 * g.discharge)) }) ∧
      (w.record.kind ≠ .cap → ¬ nulls → becomes { g with
        readyMark := true, phase := some .settle, stimulus := some g.effCurrent, parted := false,
        phaseWait := some (v.p.dueIn (100 * g.settle)) }) ∧
      (nulls → w.record.isQuiet = false → becomes { g with
        readyMark := true, phase := some .null, sequence := next, request := some next, parted := false,
        interval := some (v.p.dueIn (100 * aperture)),
        timeout := some (v.p.dueIn (100 * (2 * aperture + 100))) }) ∧
      (nulls → w.record.isQuiet = true → v.p.relay.still = false → becomes { g with
        readyMark := true, stillWait := true })

/-- R108, R111 to R114: samples are taken by number and accumulated, clip codes mark the step, the next request goes out
at the later of the interval's end and the arrival, the fourth null sample leads to SETTLE, and the settle's end to
INTEGRATE, or for a QUIET step to the wait for a still matrix; a still matrix and the leaving of a quiet NULL are
QuietPhasesDeferUpdatesAndEnd. The model's choices: the number is raised and then sent (assumption log 12), the parted
mark (log 16), a sample given before its aperture has passed is taken at once (log 30), and waits given early raise the
counter, and events without a wait do nothing (log 4). -/
def Obligations.SamplesAreRequestedAndAccumulated : Prop :=
  ∀ (s : State) (e : EngineId),
    let p := s.part
    let g := p.engine e
    let runs := fun (c : Instr) (q : Part) (h : Engine) => exec c s = .next { s with part := q.setEngine e h }
    let asks := fun (q : Part) (w : Work) (h : Engine) => ({ h with
      sequence := (h.sequence + 1) % 256, request := some ((h.sequence + 1) % 256), parted := false,
      interval := some (q.dueIn (100 * apertureMicros w.record.aperture)),
      timeout := some (q.dueIn (100 * (2 * apertureMicros w.record.aperture + 100))) } : Engine)
    (∀ (number : Byte) (code : AdcCode),
      let got : Engine := { g with
        request := none, timeout := none,
        clip := g.clip || decide (code.toInt = -8388608 ∨ code.toInt = 8388607) }
      let nulled : Engine := { got with nullSum := g.nullSum + code.toInt, nullCount := g.nullCount + 1 }
      let summed : Engine := { got with sampleSum := g.sampleSum + code.toInt, sampleCount := g.sampleCount + 1 }
      (g.request ≠ some number.toNat → exec (.sample e number code) s = .next s) ∧
      (g.request = some number.toNat → ∀ w, g.work = some w →
        (g.phase = some .null → g.nullCount ≠ 3 →
          runs (.sample e number code) p (if g.interval = none then asks p w nulled else nulled)) ∧
        (g.phase = some .null → g.nullCount = 3 → (p.plan e).quiet = false →
          runs (.sample e number code) p { nulled with
            interval := none, phase := some .settle, stimulus := some g.effCurrent, parted := false,
            phaseWait := some (p.dueIn (100 * g.settle)) }) ∧
        (g.phase = some .integrate → g.sampleCount + 1 ≠ g.n →
          runs (.sample e number code) p (if g.interval = none then asks p w summed else summed)))) ∧
    (g.interval = none → exec (.sampleIntervalComplete e) s = .next s) ∧
    (∀ due w, g.interval = some due → g.work = some w →
      runs (.sampleIntervalComplete e) (p.reach due)
        (if g.request = none then asks (p.reach due) w { g with interval := none } else { g with interval := none })) ∧
    (g.phase ≠ some .settle ∨ g.phaseWait = none → exec (.settleComplete e) s = .next s) ∧
    ∀ due w, g.phase = some .settle → g.phaseWait = some due → g.work = some w →
      (w.record.isQuiet = false → runs (.settleComplete e) (p.reach due)
        (asks (p.reach due) w { g with phaseWait := none, phase := some .integrate })) ∧
      (w.record.isQuiet = true → p.relay.still = false →
        runs (.settleComplete e) (p.reach due) { g with phaseWait := none, stillWait := true })

/-- R84, R108, R111: a QUIET engine asked for a still matrix waits until it is still, then enters NULL or INTEGRATE with
its quiet phase reported, which defers card updates; it leaves the phase at the fourth null sample, and the link starts
what was deferred. A still report and a start that fall together are taken in a free order (assumption log 3). Numbers
raised and then sent are assumption log 12, the parted mark log 16, a sample taken before its aperture has passed log
30, waits given early log 4: the model's choices. -/
def Obligations.QuietPhasesDeferUpdatesAndEnd : Prop :=
  let sampling := fun (p : Part) (e : EngineId) (w : Work) (ph : Phase) (g : Engine) =>
    (p.setPlan e { p.plan e with quiet := true }).setEngine e { g with
      phase := some ph, stillWait := false, sequence := (g.sequence + 1) % 256,
      request := some ((g.sequence + 1) % 256), parted := false,
      interval := some (p.dueIn (100 * apertureMicros w.record.aperture)),
      timeout := some (p.dueIn (100 * (2 * apertureMicros w.record.aperture + 100))) }
  (∀ (v : Ev) (e : EngineId) (w : Work),
    let g := v.p.engine e
    let atOnce := v.p.relay.still = true ∧ v.p.relay.wouldStart = false
    let calm := v.p.setPlan e { v.p.plan e with quiet := false }
    (g.stillWait = false → v.stillReport e = v) ∧
    (g.work = some w → w.record.isQuiet = true → g.stillWait = true →
      (g.phase = some .connect → v.stillReport e = { v with p := sampling v.p e w .null g }) ∧
      (g.phase = some .settle → v.stillReport e = { v with p := sampling v.p e w .integrate g })) ∧
    (g.work = some w → w.record.isQuiet = true → g.stillWait = false → g.phase = some .connect →
      w.record.kind = .res2 ∨ w.record.kind = .res4 → w.record.flags.getLsbD 6 = false →
      (atOnce → v.connectionReady e = { v with p := sampling v.p e w .null { g with readyMark := true } }) ∧
      (¬ atOnce → v.connectionReady e = { v with p := v.p.setEngine e { g with readyMark := true, stillWait := true } })) ∧
    ((v.p.plan e).quiet = false → v.leaveQuiet e = v) ∧
    ((v.p.plan e).quiet = true → v.p.noStillWait = true →
      v.leaveQuiet e = { v with p := { calm with relay := calm.relay.look v.p.time.tick } })) ∧
  ∀ (s : State) (e : EngineId) (w : Work),
    let p := s.part
    let g := p.engine e
    let runs := fun (c : Instr) (q : Part) => exec c s = .next { s with part := q }
    g.work = some w → w.record.isQuiet = true →
    (∀ due, g.phase = some .settle → g.phaseWait = some due →
      (p.relay.still = true → p.relay.wouldStart = false →
        runs (.settleComplete e) (sampling (p.reach due) e w .integrate { g with phaseWait := none })) ∧
      (p.relay.still = false ∨ p.relay.wouldStart = true →
        runs (.settleComplete e) ((p.reach due).setEngine e { g with phaseWait := none, stillWait := true }))) ∧
    (∀ (number : Byte) (code : AdcCode), g.phase = some .null → g.request = some number.toNat → g.nullCount = 3 →
      (p.plan e).quiet = true → p.noStillWait = true →
      let calm := p.setPlan e { p.plan e with quiet := false }
      runs (.sample e number code) (({ calm with relay := calm.relay.look p.time.tick }).setEngine e { g with
        request := none, timeout := none, clip := g.clip || decide (code.toInt = -8388608 ∨ code.toInt = 8388607),
        nullSum := g.nullSum + code.toInt, nullCount := 4, interval := none, phase := some .settle,
        stimulus := some g.effCurrent, parted := false, phaseWait := some (p.dueIn (100 * g.settle)) })) ∧
    ∀ card ph, (g.phase = some .connect ∧ ph = .null) ∨ (g.phase = some .settle ∧ ph = .integrate) →
      (∀ f, (p.engine f).stillWait = decide (f = e)) → p.disp.seq ≠ .stopping → (p.relay.card card).inMotion = true →
      let q := p.reach (p.relay.card card).lastDue
      let rested := (q.relay.setCard card (p.relay.card card).settled).deriveAtRest card
      let still : Part := { q with relay := rested }
      (∀ f, rested.standsReady f = false) → rested.allOpenPending = false →
      (rested.still = false → runs (.relayMotionEnd card) { q with relay := rested.look q.time.tick }) ∧
      (rested.still = true → rested.wouldStart = false → runs (.relayMotionEnd card) (sampling still e w ph g)) ∧
      (rested.still = true → rested.wouldStart = true → ∃ n,
        runs (.relayMotionEnd card) { sampling still e w ph g with free := n } ∨
        runs (.relayMotionEnd card) { q with relay := rested.look q.time.tick, free := n })

/-- R65, R68, R84, R89, R112, R114, R115, R118 to R120, R122 to R124, R134, R168, R171, R175 to R177: the commands that
end a measurement step on its engine, in a quiet phase too, each with the verdict, value and cause it gives, and all
that the end of a step does. For every state with fewer than B records it is the event before what it still owes, the
evaluation among it (`Part.StepEnding`), which then is finished. Where the evaluation finds nothing to do it is the
state left, a record that is the B-th of the queue leaving in the same event with the block it fills
(`Part.StepEnded`). No other engine waits for a still matrix when a quiet phase is left. What an evaluation does,
EvaluationFailsAndDispatchesOldestFirst and WaitingDirectStepsAreServedFailedOrEnded say. The model's choices:
completions given early raise the counter to their due time, and an event without a wait of its own is ignored
(assumption log 4); a sample given before its aperture has passed is taken at once (log 30); SUSPECT marking goes by
the entry's retrying mark (log 14); the evaluation closes the event (log 7). Ends by a card's failure and by an abort
have statements of their own. -/
def Obligations.StepsEndWithTheirRecord : Prop :=
  ∀ (s : State) (e : EngineId),
    let p := s.part
    let g := p.engine e
    let ends := fun (c : Instr) (q : Part) (w : Work) (x : Entry) (f : Formed) (cause : Option Cause) (faulted : Bool) =>
      (∃ v : Ev, q.StepEnding v e w x f cause faulted ∧
        exec c s = .next { s with part := v.finished (settleFuel - 1) }) ∧
      (p.EndsAlone e w x → ∃ t, exec c s = .next t ∧ t.pending = s.pending ∧ q.StepEnded t.part e w x f cause faulted)
    (g.timeout = none → exec (.sampleTimeout e) s = .next s) ∧
    (g.stimulus = none → exec (.compliance e) s = .next s) ∧
    (g.phaseWait = none → exec (.postDischargeComplete e) s = .next s ∧ exec (.abortDischargeComplete e) s = .next s) ∧
    ∀ w x, p.Measures e w x → p.AloneInQuiet e → p.queue.block = 0 ∨ p.queue.records.length < p.queue.block →
      (∀ (number : Byte) (code : AdcCode), g.phase = some .integrate → g.request = some number.toNat →
        g.sampleCount + 1 = g.n →
        ends (.sample e number code) p w x (formIntegrated w.record g.effCurrent g.nullSum g.nullCount
          (g.sampleSum + code.toInt) g.n (g.clip || decide (code.toInt = -8388608 ∨ code.toInt = 8388607))) none false) ∧
      (∀ due, g.timeout = some due →
        ends (.sampleTimeout e) (p.reach due) w x ⟨.fault, none⟩ (some .engineTimeout) true) ∧
      (g.stimulus ≠ none → g.phase ≠ some .ramp → (w.record.flags.getLsbD 5 = false ∨ g.retry = true) →
        ends (.compliance e) p w x ⟨.openCircuit, none⟩ none false) ∧
      (∀ due f, g.phase = some .postDischarge → g.phaseWait = some due → g.formed = some f →
        (f.verdict = .openCircuit → f.value = none ∧ (w.record.flags.getLsbD 5 = false ∨ g.retry = true)) →
        ends (.postDischargeComplete e) (p.reach due) w x f none false) ∧
      (∀ due cause owed, g.phase = some .abortDischarge → g.phaseWait = some due → g.abort = some (cause, owed) →
        ends (.abortDischargeComplete e) (p.reach due) w x ⟨.aborted, none⟩ (some cause) false) ∧
      (g.replan = .declined → ends (.replanAnswer e) p w x ⟨.openCircuit, none⟩ none false)

/-- R103, R104, R115 to R118, R137: the phases of a CAP step: the ramp starts with the stimulus on and the capture unit
armed, the first crossing is latched, and capture, ramp limit and compliance all lead to POST_DISCHARGE with the outcome
formed. The model's choices: the parted mark is cleared at a discharge and a ramp (assumption log 16); completions given
early raise the counter, and those outside their phase do nothing (assumption log 4). -/
def Obligations.CapRampsAreArmedCapturedAndDischarged : Prop :=
  ∀ (s : State) (e : EngineId) (w : Work),
    let p := s.part
    let g := p.engine e
    let c := p.time.captures.get e
    let runs := fun (k : Instr) (q : Part) (unit : Capture) (h : Engine) =>
      exec k s = .next { s with part := (q.setCapture e unit).setEngine e h }
    let off : Engine := { g with
      stimulus := none, dischargePath := false, phaseWait := none, interval := none, timeout := none, request := none,
      stillWait := false }
    let post := fun (q : Part) (h : Engine) (f : Formed) (degraded : Bool) => ({ h with
      stimulus := none, formed := some f, timeDegraded := degraded, phase := some .postDischarge,
      dischargePath := true, parted := false, phaseWait := some (q.dueIn (100 * g.discharge)) } : Engine)
    g.work = some w →
    (∀ due, g.phase = some .discharge → g.phaseWait = some due →
      let q := p.reach due
      let degraded := decide (q.time.ref ≠ .external)
      let ramping : Engine := { off with
        phase := some .ramp, stimulus := some g.effCurrent, parted := false, threshold := some w.record.threshold,
        phaseWait := some (q.dueIn (100000 * w.record.rampLimit)) }
      runs (.dischargeComplete e false) q ⟨.armed, some q.time.tick, none, degraded⟩ ramping ∧
      runs (.dischargeComplete e true) q ⟨.disarmed, some q.time.tick, some q.time.tick, degraded⟩
        (post q { off with threshold := some w.record.threshold } (formCapture w.record g.effCurrent 0) degraded)) ∧
    (g.phase ≠ some .discharge → ∀ crossed, exec (.dischargeComplete e crossed) s = .next s) ∧
    (c.state ≠ .armed → exec (.thresholdCrossing e) s = .next s) ∧
    (∀ armed, g.phase = some .ramp → c.state = .armed → c.armTick = some armed →
      runs (.thresholdCrossing e) p ⟨.disarmed, some armed, some p.time.tick, c.degraded⟩
        (post p off (formCapture w.record g.effCurrent (p.time.tick - armed)) c.degraded)) ∧
    (∀ due, g.phase = some .ramp → g.phaseWait = some due →
      runs (.rampLimit e) (p.reach due) { c with state := .disarmed } (post (p.reach due) off ⟨.overrange, none⟩ false)) ∧
    (g.phase ≠ some .ramp → exec (.rampLimit e) s = .next s) ∧
    (g.phase = some .ramp → g.stimulus ≠ none →
      runs (.compliance e) p { c with state := .disarmed } (post p off ⟨.openCircuit, none⟩ false)) ∧
    ∀ due f, g.phase = some .postDischarge → g.phaseWait = some due → g.formed = some f → f.verdict = .openCircuit →
      w.record.kind = .cap → w.record.flags.getLsbD 5 = true → g.retry = false →
      exec (.postDischargeComplete e) s = .next { s with
        part := (p.reach due).setEngine e { g with phaseWait := none, dischargePath := false, replan := .requested } }

/-- R66, R115, R119: an OPEN in the first attempt of a RETRY_ALT step asks for a re-plan; the Dispatcher declines it in
STOPPING and where no alternate exists, and otherwise puts the nails of each net that has alternates on the exclusion
list, resolves that net anew among its alternates with the engine's wanted set for class 1, and sends the new plan; the
engine takes the answer and connects again. That the clip mark is cleared with the sums at an OPEN (assumption log 31),
and that a request or answer that was not asked for does nothing (assumption log 4), are the model's choices. -/
def Obligations.ReplansTakeAlternatesOrDecline : Prop :=
  ∀ (s : State) (e : EngineId),
    let p := s.part
    let g := p.engine e
    (∀ w, g.work = some w → w.record.kind ≠ .scan → g.stimulus ≠ none → g.phase ≠ some .ramp →
      w.record.flags.getLsbD 5 = true → g.retry = false → (p.plan e).quiet = false →
      exec (.compliance e) s = .next { s with
        part := (p.disarm e).setEngine e { g with
          stimulus := none, dischargePath := false, phaseWait := none, interval := none, timeout := none,
          request := none, stillWait := false, nullSum := 0, nullCount := 0, sampleSum := 0, sampleCount := 0,
          clip := false, replan := .requested } }) ∧
    (g.replan ≠ .requested → exec (.replanRequest e) s = .next s) ∧
    (g.replan = .none ∨ g.replan = .requested → exec (.replanAnswer e) s = .next s) ∧
    (g.replan = .requested → ∀ x n, p.disp.inFlight.get e = some x → x.nails = some n → x.record.kind ≠ .scan →
      let alternates := fun (net : Nat) (used : List Nat) => (p.candidates (some e) net).filter fun m => decide (m ∉ used)
      let high := alternates x.record.high [n.sh, n.kh]
      let low := alternates x.record.low [n.sl, n.kl]
      (p.disp.seq = .stopping ∨ (high = [] ∧ low = []) →
        exec (.replanRequest e) s = .next { s with part := p.setEngine e { g with replan := .declined } }) ∧
      (p.disp.seq ≠ .stopping → high ≠ [] ∨ low ≠ [] → ∃ t y m, exec (.replanRequest e) s = .next t ∧
        t.part.disp = { p.disp with inFlight := p.disp.inFlight.set e (some y) } ∧
        (t.part.plan e).wanted = m.pairs ∧ (t.part.engine e).replan = .replanned ∧
        y = { x with
          nails := some m, retrying := true,
          excluded := (if high = [] then [] else if n.sh = n.kh then [n.sh] else [n.sh, n.kh]) ++
            (if low = [] then [] else if n.sl = n.kl then [n.sl] else [n.sl, n.kl])
          twoWire := decide (x.record.kind = .res4 ∧ (m.kh = m.sh ∨ m.kl = m.sl)) } ∧
        m.guards = n.guards ∧
        let best := p.best e (p.plan e).wanted
        let sense := fun (role : Role) (source : Nat) (nails : List Nat) => if x.record.kind = .res4
          then (best role (nails.filter fun m => decide (m ≠ source))).getD source else source
        (high = [] → m.sh = n.sh ∧ m.kh = n.kh) ∧
        (high ≠ [] → best .sh high = some m.sh ∧ m.kh = sense .kh m.sh high ∧ m.sh ∈ high ∧ m.kh ∈ high) ∧
        (low = [] → m.sl = n.sl ∧ m.kl = n.kl) ∧
        (low ≠ [] → best .sl low = some m.sl ∧ m.kl = sense .kl m.sl low ∧ m.sl ∈ low ∧ m.kl ∈ low))) ∧
    (g.replan = .replanned → ∀ x, p.disp.inFlight.get e = some x →
      exec (.replanAnswer e) s = .next { s with
        part := p.setEngine e { g with
          nullSum := 0, nullCount := 0, sampleSum := 0, sampleCount := 0, clip := false,
          phase := some .connect, retry := true, replan := .none, formed := none, timeDegraded := false,
          work := g.work.map fun w => { w with nails := x.nails, twoWire := x.twoWire } } })

/-! ### The arithmetic -/

/-- R129 to R136, R138, R139, R142: quotients are the nearest whole number, a signed tie away from zero and an unsigned
tie up; the effective parameters; and the outcome of a sampled step, of a capture and of a group test. -/
def Obligations.ValuesAndVerdictsFollowTheArithmetic : Prop :=
  let nearest := fun (a : Int) (b : Nat) (q : Int) =>
    (0 ≤ a → (2 * q - 1) * b ≤ 2 * a ∧ 2 * a < (2 * q + 1) * b) ∧
    (a < 0 → (2 * q - 1) * b < 2 * a ∧ 2 * a ≤ (2 * q + 1) * b)
  let judged := fun (r : StepRecord) (value : Int) =>
    let limit := fun raw : BitVec 32 => if r.kind = .cap then (raw.toNat : Int) else raw.toInt
    if value < limit r.lowLimit then Verdict.low else if limit r.highLimit < value then .high else .pass
  ([0, 1, 2, 3, 4].map currentNA = [1000, 10000, 100000, 1000000, 10000000] ∧
    [0, 1, 2].map lsbPV = [250000, 25000, 2500] ∧ ∀ n, sampleN n = if n = 0 then 256 else n) ∧
  (∀ (p : Part) (index : Nat) (nets : List Nat),
    let tender := ∃ n ∈ nets, (p.attrs n).tender = true
    (2 < index → tender → p.effectiveCurrent index nets = (2, true)) ∧
    (index ≤ 2 ∨ ¬ tender → p.effectiveCurrent index nets = (index, false))) ∧
  (∀ (r : StepRecord) (current : Nat) (nullSum : Int) (nullCount : Nat) (sum : Int) (n : Nat) (clip : Bool), 1 ≤ n →
    ∃ mean null : Int, nearest sum n mean ∧ (nullCount = 0 → null = 0) ∧ (nullCount ≠ 0 → nearest nullSum 4 null) ∧
      let d := mean - null
      let formed := formIntegrated r current nullSum nullCount sum n clip
      (clip = true ∨ d < -8388607 ∨ 8388607 < d → formed = ⟨.overrange, none⟩) ∧
      (clip = false → -8388607 ≤ d → d ≤ 8388607 → ∃ value : Int, formed = ⟨judged r value, some value⟩ ∧
        (r.kind = .diode → nearest (d * lsbPV r.gain) 1000000 value) ∧
        (r.kind ≠ .diode → nearest (d * lsbPV r.gain) (currentNA current) value))) ∧
  (∀ (r : StepRecord) (current t : Nat), 1 ≤ r.threshold → ∃ c : Nat,
    2 * c * r.threshold ≤ 2 * (currentNA current * t * 10) + r.threshold ∧
    2 * (currentNA current * t * 10) + r.threshold < 2 * c * r.threshold + 2 * r.threshold ∧
    formCapture r current t = if 4294967295 < c then ⟨.overrange, none⟩ else ⟨judged r c, some (c : Int)⟩) ∧
  ∀ (r : StepRecord) (current : Nat) (sum : Int) (n : Nat) (clip : Bool), 1 ≤ n → ∃ mean value : Int,
    nearest sum n mean ∧ nearest (mean * lsbPV r.gain) (currentNA current) value ∧
    formScanTest r current sum n clip =
      if clip = true ∨ mean < -8388607 ∨ 8388607 < mean then none else some value

/-! ### Engine and nail choice -/

/-- R60, R61, R146, R147: the nail chosen among candidates stands before every other by its class, then GOOD before
SUSPECT, then by number; the engine of a ring step has the most reclaimable needs, the lowest of equals; and a group
test takes the probe's best nail for SH and KH, each member's best nail for SL, and the lowest member's for KL. That the
probe's class goes by the role SH alone, and the lowest member's by SL, is the model's choice (assumption log 34). -/
def Obligations.NailsAndEnginesAreChosenByRank : Prop :=
  (∀ (p : Part) (e : EngineId) (mine : List Pair) (role : Role) (cands : List Nat),
    let kind := fun n : Nat =>
      if (⟨n, role⟩ : Pair) ∈ mine then 1
      else match (p.card (n / 64)).connection.engine with
        | none => 3
        | some f => if f = e then 2 else 4
    let suspect := fun n : Nat => if (p.nail n).condition = .suspect then 1 else 0
    let before := fun a b : Nat =>
      kind a < kind b ∨ (kind a = kind b ∧ (suspect a < suspect b ∨ (suspect a = suspect b ∧ a < b)))
    (p.best e mine role cands = none ↔ cands = []) ∧
    ∀ n, p.best e mine role cands = some n ↔ n ∈ cands ∧ ∀ m ∈ cands, m ≠ n → before n m) ∧
  (∀ (p : Part) (r : StepRecord) (e : EngineId), p.chooseEngine r = some e ↔
    r.allows e = true ∧ (p.engine e).state = .idle ∧
    ∀ f, f ≠ e → r.allows f = true → (p.engine f).state = .idle →
      p.reclaimable r f < p.reclaimable r e ∨ (p.reclaimable r f = p.reclaimable r e ∧ e.index < f.index)) ∧
  ∀ (p : Part) (e : EngineId) (isFirst : Bool) (probe net : Nat) (rest : List Nat) (plan : List Pair),
    let nail := fun (role : Role) (net : Nat) =>
      p.best e (if isFirst then (p.plan e).held else (p.plan e).wanted) role
        ((p.nailsOf net).filter fun n => decide ((p.nail n).condition ≠ .disabled ∧ (p.card (n / 64)).status = .ready))
    p.groupPlan e isFirst probe (net :: rest) = .ok plan ↔
      ∃ (s n : Nat) (ns : List Nat), nail .sh probe = some s ∧ nail .sl net = some n ∧ rest.map (nail .sl) = ns.map some ∧
        plan = ⟨s, .sh⟩ :: ⟨s, .kh⟩ :: ⟨n, .sl⟩ :: ⟨n, .kl⟩ :: ns.map fun m => ⟨m, .sl⟩

/-! ### The Shorts Scanner -/

/-- R143, R145, R157: dispatch of a SCAN step gives the Scanner its step, its engine and its scan list and has it look
for work; work popped from the stack is acted on by its evidence; and in WAITING_SPACE a removal that frees a record
reports the pending pair and takes the next work, here by a RESULTS_READ after which the scan goes on. -/
def Obligations.ScansStartPopAndResume : Prop :=
  (∀ (v : Ev) (e : EngineId) (origin : Option Nat) (r : StepRecord), r.kind = .scan →
    let p := v.p
    let g := p.engine e
    let started : Part := { p with
      queue := { p.queue with reserved := p.queue.reserved + 1 }
      disp := { p.disp with
        inFlight := p.disp.inFlight.set e
          (some ⟨origin, r, p.scanNets r.high r.low, [], none, false, false, false, [], none⟩) }
      ring := match origin with
        | some i => (p.ring.setState i .active).advanceNext
        | none => p.ring
      engines := p.engines.set e { Engine.reset with
        sequence := g.sequence, threshold := g.threshold, parted := g.parted, state := .active, phase := some .connect,
        work := some ⟨origin, r, none, false, false⟩, effCurrent := r.current,
        n := if r.count = 0 then 256 else r.count, settle := max r.settle 20, discharge := max r.discharge 100 }
      scanner := { Scanner.reset with state := .testing, scan := some ⟨origin, e, r⟩, members := p.scanList r } }
    v.dispatch e origin r = ({ v with p := started }).nextWork) ∧
  (∀ (v : Ev) (top : StackEntry) (rest : List StackEntry), v.p.scanner.stack = top :: rest →
    let s := v.p.scanner
    let popped : Ev := { v with p := { v.p with scanner := { s with stack := rest } } }
    (∀ x, top.evidence = some x →
      v.nextWork = if (popped.takeKnownShort top x).2 then (popped.takeKnownShort top x).1.nextWork
        else (popped.takeKnownShort top x).1) ∧
    (top.evidence = none → v.nextWork = if s.run top.first top.last = [] then popped.nextWork
      else popped.startTest (.unknownEntry top) top.first top.last)) ∧
  (∀ v : Ev,
    let s := v.p.scanner
    (s.state ≠ .waitingSpace ∨ s.pendingPair = none ∨ v.p.recordFree = false → v.scannerRemoval = v) ∧
    ∀ info partner x, s.state = .waitingSpace → s.pendingPair = some (partner, x) → s.scan = some info →
      v.p.recordFree = true → v.p.queue.block = 0 →
      let reported := v.pendingReported info partner x
      v.scannerRemoval = if s.pairs = 255 then reported.endScan .limit none none false else reported.nextWork) ∧
  ∀ (s : State) (number code : Byte) (info : ScanInfo) (partner : Nat) (x : Evidence), s.Serving number →
    let p := s.part
    let n := code.toNat
    let rest := p.queue.records.drop n
    let reply := OutFrame.reply number 0x50 (.results (p.queue.records.take n) rest.length p.queue.reserved)
    let taken := ({ p with queue := { p.queue with records := rest } }).onLink fun l =>
      { l with inProgress := some ⟨number, 0x50, false⟩ }
    let event : Ev := { Ev.start taken with replies := [reply], askEvaluate := true }
    let after := (event.pendingReported info partner x).nextWork
    1 ≤ n → n ≤ 32 → p.queue.records ≠ [] → p.scanner.scan = some info → p.scanner.state = .waitingSpace →
    p.scanner.pendingPair = some (partner, x) → p.scanner.pairs ≠ 255 → taken.recordFree = true → p.queue.block = 0 →
    p.disp.seq ≠ .running → p.disp.direct = none → after.completions = [] →
    exec (.resultsRead number [code]) s = .next { s with part := after.p.hand [reply] }

/-- R143 to R146, R149, R151, R153, R154: the scan list and the runs of its UNTESTED members; the halves of a run; a
test is short exactly when its resistance lies below the threshold; what each report leaves on the stack; and the next
probe once the stack is empty. -/
def Obligations.ScansProbeAndBisectTheirList : Prop :=
  (∀ (p : Part) (r : StepRecord), tableWf NetAttrs.unlisted p.map.attrs = true →
    let nets := (p.scanList r).map (·.net)
    (∀ n, n ∈ nets ↔ r.high ≤ n ∧ n ≤ r.low ∧ (p.attrs n).scan = true ∧
      ∃ m ∈ p.nailsOf n, (p.nail m).condition ≠ .disabled ∧ (p.card (m / 64)).status = .ready) ∧
    nets.Pairwise (· < ·) ∧ ∀ x ∈ p.scanList r, x.state = .untested) ∧
  (∀ (s : Scanner) (first last : Nat),
    let run := s.run first last
    let half := (run.length + 1) / 2
    (∀ i, i ∈ run ↔ first ≤ i ∧ i ≤ last ∧ s.untested i = true) ∧ run.Pairwise (· < ·) ∧
    ∀ cut, 2 ≤ run.length → run[half - 1]? = some cut →
      s.run first cut = run.take half ∧ s.run (cut + 1) last = run.drop half ∧
      ∀ (v : Ev) (x : Evidence) (old : Option Evidence), v.p.scanner = s →
        v.takeKnownShort ⟨first, last, old⟩ x = (v.startTest (.lower ⟨first, last, some x⟩) first cut, false)) ∧
  (∀ (v : Ev) (info : ScanInfo) (test : ScanTest) (report : TestReport),
    v.p.scanner.scan = some info → v.p.scanner.test = some test →
    let old := v.p.scanner.stack
    let left := fun stack : List StackEntry =>
      v.onScanner fun s => { s with test := none, tests := s.tests + 1, stack := stack }
    let ohms := match report with
      | .openCircuit => none
      | .sampled sum n clip => formScanTest info.record (v.p.engine info.engine).effCurrent sum n clip
    let short := ∃ x, ohms = some x ∧ x < (info.record.threshold : Int)
    (¬ short →
      (test.purpose = .probe → v.testReport report = (left old).nextWork) ∧
      (∀ entry, test.purpose = .lower entry →
        v.testReport report = (left (⟨test.last + 1, entry.last, entry.evidence⟩ :: old)).nextWork) ∧
      ∀ entry, test.purpose = .unknownEntry entry → v.testReport report = (left old).nextWork) ∧
    ∀ x, ohms = some x → x < (info.record.threshold : Int) →
      (test.purpose = .probe →
        v.testReport report = (left (⟨test.first, test.last, some ⟨x, test.lowered⟩⟩ :: old)).nextWork) ∧
      (∀ entry, test.purpose = .lower entry → v.testReport report =
        (left (⟨entry.first, test.last, some ⟨x, test.lowered⟩⟩ :: ⟨test.last + 1, entry.last, none⟩ :: old)).nextWork) ∧
      ∀ entry, test.purpose = .unknownEntry entry →
        let taken := (left old).takeKnownShort entry ⟨x, test.lowered⟩
        v.testReport report = if taken.2 then taken.1.nextWork else taken.1) ∧
  ∀ (v : Ev), v.p.scanner.stack = [] →
    let s := v.p.scanner
    ((∀ i, s.untested i = false) → v.nextWork = v.endScanNormally) ∧
    ∀ i, s.untested i = true → (∀ j, j < i → s.untested j = false) →
      let probing := v.onScanner fun s =>
        { s with members := s.members.modify i (fun m => { m with state := .probed }), probe := some i }
      ((∀ j, i < j → s.untested j = false) → v.nextWork = probing.endScanNormally) ∧
      ∀ j, i < j → s.untested j = true → v.nextWork = probing.startTest .probe (i + 1) (s.members.length - 1)

/-- R115, R120, R126, R148, R160, R161: on an engine that serves a scan the last sample and a compliance report give the
Scanner the test's report, and a sample timeout and a card fault end the scan as FAULT, the engine FAULTED after a
timeout; a test that finds a last plan card FAILED, or a net without a candidate, ends it with CARD_FAULT and the lowest
such card. Stated, but for the last sample, with the engine in no quiet phase. The model's choices: a timeout given
early raises the counter (assumption log 4); a sample given before its aperture has passed is taken at once (log 30);
the clip mark is cleared with the sums at an OPEN and a timeout (log 31); the CARD_NOTICE of a failure stands first in
its event (log 7), the tick of the expiry is kept (log 20), and connection ready is judged of the engines that the
failed card alone held back (logs 21 and 28); which net is meant when several have no candidate is log 18. -/
def Obligations.ScanEnginesReportToTheScanner : Prop :=
  (∀ (s : State) (e : EngineId) (w : Work),
    let p := s.part
    let g := p.engine e
    let off : Engine := { g with
      stimulus := none, dischargePath := false, phaseWait := none, interval := none, timeout := none, request := none,
      stillWait := false, nullSum := 0, nullCount := 0, sampleSum := 0, sampleCount := 0, clip := false }
    let does := fun (c : Instr) (q : Part) (f : Ev → Ev) => exec c s = event { s with part := q } f
    g.work = some w → w.record.kind = .scan →
    (∀ (number : Byte) (code : AdcCode), g.phase = some .integrate → g.request = some number.toNat →
      g.sampleCount + 1 = g.n →
      let sum := g.sampleSum + code.toInt
      let clip := g.clip || decide (code.toInt = -8388608 ∨ code.toInt = 8388607)
      does (.sample e number code)
        (p.setEngine e { g with
          request := none, timeout := none, interval := none, stimulus := none, clip := clip, sampleSum := sum,
          sampleCount := g.sampleCount + 1 })
        fun v => (v.leaveQuiet e).testReport (.sampled sum g.n clip)) ∧
    (g.stimulus ≠ none → g.phase ≠ some .ramp → (p.plan e).quiet = false →
      does (.compliance e) ((p.disarm e).setEngine e off) fun v => v.testReport .openCircuit) ∧
    (∀ due, g.timeout = some due → (p.plan e).quiet = false →
      does (.sampleTimeout e) (((p.reach due).disarm e).setEngine e off)
        fun v => v.endScan .fault (some .engineTimeout) none true) ∧
    ∀ card start image, p.relay.link = .update card image start → p.relay.plannedTo card = some e →
      g.state = .active → g.phase ≠ some .abortDischarge → g.phase ≠ some .resultWait → (p.plan e).quiet = false →
      let q := p.reach (start + 4000)
      let broken : Part := { q with relay := { q.relay.failCard card with expired := some q.time.tick } }
      does .cardAckTimeout ((broken.disarm e).setEngine e { g with
          stimulus := none, dischargePath := false, phaseWait := none, interval := none, timeout := none, request := none,
          stillWait := false }) fun v =>
        let told := { v with first := [.notice (.card card q.time.tick (p.relay.card card).operations (some e))] }
        let ended := told.endScan .fault (some .cardFault) (some card) false
        let judged := (EngineId.all.filter (p.relay.holdsBack card image)).foldl Ev.judgeReady ended
        { judged.settleLink.judgeStopped with askEvaluate := true }) ∧
  (∀ (v : Ev) (e : EngineId) (w : Work) (card : Nat),
    let g := v.p.engine e
    let takes := g.state = .active ∧ g.phase ≠ some .abortDischarge ∧ g.phase ≠ some .resultWait
    (¬ takes → v.cardFault e card = v) ∧
    (takes → g.work = some w → w.record.kind = .scan → (v.p.plan e).quiet = false →
      v.cardFault e card = Ev.endScan { v with p := (v.p.disarm e).setEngine e { g with
        stimulus := none, dischargePath := false, phaseWait := none, interval := none, timeout := none, request := none,
        stillWait := false } } .fault (some .cardFault) (some card) false)) ∧
  (∀ (p : Part) (cards : List Nat) (c : Nat), p.lowestFailed cards = some c ↔
    (c < 64 ∧ c ∈ cards ∧ (p.card c).status = .failed) ∧ ∀ d, d < c → d ∈ cards → (p.card d).status ≠ .failed) ∧
  ∀ (v : Ev) (info : ScanInfo) (i : Nat) (purpose : TestPurpose) (first last : Nat),
    let p := v.p
    let s := p.scanner
    let ends := fun card => v.startTest purpose first last = v.endScan .fault (some .cardFault) card false
    s.scan = some info → s.probe = some i →
    (∀ c, p.lowestFailed s.planCards = some c → ends (some c)) ∧
    ∀ net, p.lowestFailed s.planCards = none →
      p.groupPlan info.engine (decide (s.planCards = [])) (s.netAt i) ((s.run first last).map s.netAt) = .error net →
      ends (p.lowestFailed ((p.nailsOf net).map (· / 64)))

/-- R65, R67, R68, R71, R84, R89, R122, R148, R152, R155 to R159, R168, R171, R175 to R178: a group test is handed to the
engine with its current; a partner is reported at once with a free record and waits for space without one, the 256th
pair ends the scan with LIMIT; the end of a scan appends its summary, FAIL with a pair and PASS without, frees the
engine and is reported to the Dispatcher; and the Dispatcher takes that completion: the claims released, the slot DONE
and retired, the held set formed, the notice of the step or the direct step, and the halting error of a FAIL or LIMIT
with STOP_ON_FAIL or of a FAULT. Pairs and the end before the Dispatcher are stated with no block streaming and the
engine in no quiet phase; the end of the whole event where the evaluation that follows finds nothing to do, the summary
filling a block or none streaming; and the taking of a completion for every state. That the evaluation closes the event
is assumption log 7. That the Scanner goes back to its reset state whole at the end, its last plan cards with it, is the
model's choice (assumption log 27). -/
def Obligations.ScansReportPairsAndEndWithASummary : Prop :=
  (∀ (v : Ev) (info : ScanInfo), v.p.scanner.scan = some info →
    let p := v.p
    let s := p.scanner
    let e := info.engine
    let probe := s.netAt (s.probe.getD 0)
    (∀ (purpose : TestPurpose) (first last i : Nat) (plan : List Pair), s.probe = some i →
      p.lowestFailed s.planCards = none →
      let group := (s.run first last).map s.netAt
      p.groupPlan e (decide (s.planCards = [])) (s.netAt i) group = .ok plan →
      let t := (v.startTest purpose first last).p
      let given := p.effectiveCurrent info.record.current (s.netAt i :: group)
      t.scanner.state = .testing ∧ t.scanner.test = some ⟨purpose, i, first, last, given.2⟩ ∧
      (∀ c, c ∈ t.scanner.planCards ↔ c < 64 ∧ ∃ x ∈ plan, x.card = c) ∧
      t.scanner.clampMark = (s.clampMark || given.2) ∧ (t.engine e).effCurrent = given.1 ∧
      (t.engine e).sampleSum = 0 ∧ (t.engine e).sampleCount = 0 ∧ (t.engine e).clip = false ∧
      (t.plan e).wanted = plan ∧ t.queue = p.queue) ∧
    (p.queue.block = 0 → ∀ (partner : Nat) (x : Evidence),
      let pair : ResultRecord := ⟨.shortPair, info.origin, info.record.tag, info.record.kind, some e, .short, none,
        ⟨x.lowered, false, false, false, false, false⟩, .pair probe (s.netAt partner) x.ohms, p.time.tick % 2 ^ 48⟩
      let paired : Ev := { v with p := { p with
        queue := { p.queue with records := p.queue.records ++ [pair] }
        scanner := { s with
          members := s.members.modify partner fun m => { m with state := .joined probe }
          pairs := s.pairs + 1 } } }
      (p.recordFree = true → s.pairs ≠ 255 → v.reportPartner partner x = (paired, true)) ∧
      (p.recordFree = true → s.pairs = 255 → v.reportPartner partner x = (paired.endScan .limit none none false, false)) ∧
      (p.recordFree = false → v.reportPartner partner x = ({ v with p := { p with
        scanner := { s with state := .waitingSpace, pendingPair := some (partner, x) }
        engines := p.engines.set e { p.engine e with phase := some .resultWait } } }, false))) ∧
    v.endScanNormally = v.endScan (if 1 ≤ s.pairs then .fail else .pass) none none false ∧
    (p.queue.block = 0 → (p.plan e).quiet = false →
      ∀ (verdict : Verdict) (cause : Option Cause) (card : Option Nat) (faulted : Bool),
        let w := v.endScan verdict cause card faulted
        let t := w.p
        let g := t.engine e
        t.queue = { p.queue with
          reserved := p.queue.reserved - 1
          records := p.queue.records ++ [⟨if info.origin.isSome then .scanSummary else .direct, info.origin,
            info.record.tag, info.record.kind, some e, verdict, cause, ⟨s.clampMark, false, false, false, false, s.reuseMark⟩,
            .summary s.members.length s.tests s.pairs, p.time.tick % 2 ^ 48⟩] } ∧
        t.scanner = Scanner.reset ∧
        (g.state = (if faulted then .faulted else .idle) ∧ g.phase = none ∧ g.work = none ∧ g.stimulus = none ∧
          g.request = none ∧ g.phaseWait = none ∧ g.interval = none ∧ g.timeout = none) ∧
        (∀ f, f ≠ e → t.engine f = p.engine f) ∧
        t.ring = (match info.origin with
          | some slot => ((p.ring.setState slot .done).advanceNext).retire
          | none => p.ring) ∧
        w.completions = v.completions ++ [⟨e, info.origin, info.record, verdict, cause, card⟩] ∧
        t.disp = p.disp ∧ t.map = p.map ∧ t.log = p.log ∧ t.link = p.link ∧ t.relay = p.relay)) ∧
  (∀ (s : State) (f : Ev → Ev) (q : Part) (info : ScanInfo) (x : Entry) (verdict : Verdict) (cause : Option Cause)
    (card : Option Nat) (faulted : Bool), q.ScanEndsAlone info x →
    f (Ev.start s.part) = (Ev.start q).endScan verdict cause card faulted →
    ∃ t, event s f = .next t ∧ t.pending = s.pending ∧ q.ScanEnded t.part info x verdict cause card faulted) ∧
  (∀ (v : Ev) (c : Completion) (x : Entry), v.p.disp.inFlight.get c.engine = some x →
    v.CompletionTaken (v.takeCompletion c) c x) ∧
  ∀ (s : State) (f : Ev → Ev) (c : Completion), (f (Ev.start s.part)).completions = [c] →
    event s f = .next { s with
      part := (({ f (Ev.start s.part) with completions := [] } : Ev).takeCompletion c).finished (settleFuel - 1) }

/-! ### Blocks of results -/

/-- R171 to R173, R175: full blocks take the oldest B records each, in order, with consecutive numbers modulo 65,536,
until fewer than B stand; a PACE that changes B forms them at once; and a remainder block takes every record, before
the SEQ_NOTICE of the state entered and after the reply. -/
def Obligations.BlocksTakeTheOldestRecords : Prop :=
  (∀ (v : Ev) (fuel : Nat), v.p.queue.block ≠ 0 → v.p.queue.records.length ≤ fuel →
    let q := v.p.queue
    let t := v.formBlocks fuel
    ∃ (blocks : List ResultBlock) (rest : List ResultRecord),
      t.blocks = v.blocks ++ blocks.map (fun b => .notice (.block b)) ∧
      q.records = blocks.flatMap (·.records) ++ rest ∧ rest.length < q.block ∧
      (blocks ≠ [] → t.p.queue = { q with
        records := rest
        blockNumber := (q.blockNumber + blocks.length) % 65536 }) ∧
      (blocks = [] → t = v) ∧
      ∀ i b, blocks[i]? = some b → b.records.length = q.block ∧ b.reason = .full ∧
        (b.number = if i = 0 then q.blockNumber else (q.blockNumber + i) % 65536) ∧
        b.stored = q.records.length - (i + 1) * q.block ∧ b.reserved = q.reserved ∧ b.seq = v.p.disp.seq ∧
        b.time = v.p.time.tick % 2 ^ 48) ∧
  (∀ (s : State) (number : Byte) (body : List Byte), s.Serving number → body.length = 6 →
    let p := s.part
    let window := byteAt body 0
    let hold := u32At body 1
    let block := byteAt body 5
    let after : Part := { p with
      disp := { p.disp with window := window }
      relay := { p.relay with holdLimit := hold }
      queue := { p.queue with block := block }
      link := { p.link with blockCopy := block } }
    let formed := (Ev.start after).formBlocks (p.queue.records.length + 1)
    let left : Part := { after with queue := formed.p.queue }
    1 ≤ window → window ≤ 8 → hold ≤ 100000 → block ∈ [1, 2, 4, 8, 16, 32] → block ≠ p.queue.block →
    left.nothingToDispatch = true → p.scanner.state ≠ .waitingSpace →
    exec (.pace number body) s = .next { s with
      part := left.answered number 0x61 (.reply number 0x61 (.settings window hold block) :: formed.blocks) }) ∧
  ∀ (s : State) (number : Byte), s.Serving number →
    let p := s.part
    let q := p.queue
    let remainder : ResultBlock := ⟨q.blockNumber, .remainder, 0, q.reserved, p.time.tick % 2 ^ 48, .paused, q.records⟩
    p.disp.seq = .drained → p.disp.direct = none → p.scanner.state ≠ .waitingSpace → q.block ≠ 0 → q.records ≠ [] →
    exec (.pause number []) s = .next { s with
      part := ({ p with
        disp := { p.disp with seq := .paused }
        queue := { q with records := [], blockNumber := (q.blockNumber + 1) % 65536 } }).answered number 0x31
          [.reply number 0x31 .done, .notice (.block remainder), p.seqNotice .paused] }

/-! ### Invariants -/

/-- R2, R4, R5, R16 to R19, R32, R53, R91, R97, R98, R174, R184, R188, R191: every step keeps the settings in their
ranges, the interlock in agreement with its debounced lines, the receive buffer and the line in order, and the
verification wait and loss count in theirs. -/
def Obligations.EveryStepKeepsSettingsInterlockLinkAndClock : Prop :=
  ∀ s t : State, s.part.SteadyOk → step s = .next t → t.part.SteadyOk

/-- R44, R46, R69, R178, section 1.2: every step keeps the sequencer HALTED exactly while the Error Log holds a record,
an EDITABLE map with a STOPPED sequencer and no direct step, and no ring step in flight in STOPPED, PAUSED or
DRAINED. -/
def Obligations.EveryStepKeepsTheSequencerInOrder : Prop :=
  ∀ s t : State, s.part.HaltOk → s.part.QuietOk → step s = .next t → t.part.HaltOk ∧ t.part.QuietOk

/-- R55, R56: after every step no two steps in flight share a net, and a SOLO or SCAN step in flight is the only
one. -/
def Obligations.EveryStepKeepsTheClaimsApart : Prop :=
  ∀ s t : State, s.part.ClaimsOk → step s = .next t → t.part.ClaimsOk

/-- R1, R2, R36, R39, R40, R43, R64: every step keeps the nail table and the slot table in canonical form, every net to
8 nails at most, and the ring's positions in 0 to 1023; and it keeps the ring's slots and positions in order with the
steps the engines hold, given that the Result Queue and the sequencer are in order too. -/
def Obligations.EveryStepKeepsTheTables : Prop :=
  (∀ s t : State, s.part.NailsOk → s.part.ring.InRange → step s = .next t → t.part.NailsOk ∧ t.part.ring.InRange) ∧
  ∀ s t : State, s.part.RingOk → s.part.QueueOk → s.part.HaltOk → s.part.QuietOk → step s = .next t → t.part.RingOk

/-- R165, R167, R168, R171: every step keeps stored records and reservations together to 512 at most, the reservations
equal to the steps the engines hold, fewer than B records stored while B is not 0, and the engine of a scan under way
serving it. -/
def Obligations.EveryStepKeepsTheResultQueue : Prop :=
  ∀ s t : State, s.part.QueueOk → step s = .next t → t.part.QueueOk

/-- The reset state meets every invariant stated above, the count of periods without an edge at the 0 of assumption log
9 (the model's choice). -/
def Obligations.ResetMeetsEveryInvariant : Prop :=
  let p := State.reset.part
  p.SteadyOk ∧ p.HaltOk ∧ p.QuietOk ∧ p.ClaimsOk ∧ p.NailsOk ∧ p.ring.InRange ∧ p.RingOk ∧ p.QueueOk
end

