-- ==== Sys2Proof/Laws/State.lean ====
section
/-! SUPPORT. One lemma for each field and each update of the part, of an event and of the values held one for
each engine, true by unfolding one record. -/

namespace Sys2Proof

/-! ### One value for each engine -/

@[simp] theorem PerEngine.get_set_same {α : Type} (t : PerEngine α) (e : EngineId) (v : α) :
    (t.set e v).get e = v := by cases e <;> rfl

@[simp] theorem PerEngine.get_set_ne {α : Type} (t : PerEngine α) (e f : EngineId) (v : α) (h : f ≠ e) :
    (t.set e v).get f = t.get f := by cases e <;> cases f <;> simp_all [PerEngine.get, PerEngine.set]

@[simp] theorem PerEngine.set_get {α : Type} (t : PerEngine α) (e : EngineId) : t.set e (t.get e) = t := by
  cases e <;> rfl

@[simp] theorem PerEngine.set_set {α : Type} (t : PerEngine α) (e : EngineId) (v w : α) :
    (t.set e v).set e w = t.set e w := by cases e <;> rfl

@[simp] theorem PerEngine.get_const {α : Type} (v : α) (e : EngineId) : (PerEngine.const v).get e = v := by
  cases e <;> rfl

@[simp] theorem PerEngine.get_mapIdx {α β : Type} (g : EngineId → α → β) (t : PerEngine α) (e : EngineId) :
    (t.mapIdx g).get e = g e (t.get e) := by cases e <;> rfl

theorem PerEngine.ext_get {α : Type} {t u : PerEngine α} (h : ∀ e, t.get e = u.get e) : t = u := by
  cases t; cases u
  have h0 := h .me0; have h1 := h .me1; have h2 := h .me2; have h3 := h .me3
  simp_all [PerEngine.get]

theorem EngineId.mem_all (e : EngineId) : e ∈ EngineId.all := by cases e <;> decide

namespace Machine

/-! ### Updates of the part -/

@[simp] theorem Part.setNail_lock (p : Part) (n : Nat) (v : NailEntry) : (p.setNail n v).lock = p.lock := rfl
@[simp] theorem Part.setNail_templates (p : Part) (n : Nat) (v : NailEntry) : (p.setNail n v).templates = p.templates := rfl
@[simp] theorem Part.setNail_ring (p : Part) (n : Nat) (v : NailEntry) : (p.setNail n v).ring = p.ring := rfl
@[simp] theorem Part.setNail_disp (p : Part) (n : Nat) (v : NailEntry) : (p.setNail n v).disp = p.disp := rfl
@[simp] theorem Part.setNail_relay (p : Part) (n : Nat) (v : NailEntry) : (p.setNail n v).relay = p.relay := rfl
@[simp] theorem Part.setNail_engines (p : Part) (n : Nat) (v : NailEntry) : (p.setNail n v).engines = p.engines := rfl
@[simp] theorem Part.setNail_scanner (p : Part) (n : Nat) (v : NailEntry) : (p.setNail n v).scanner = p.scanner := rfl
@[simp] theorem Part.setNail_time (p : Part) (n : Nat) (v : NailEntry) : (p.setNail n v).time = p.time := rfl
@[simp] theorem Part.setNail_queue (p : Part) (n : Nat) (v : NailEntry) : (p.setNail n v).queue = p.queue := rfl
@[simp] theorem Part.setNail_log (p : Part) (n : Nat) (v : NailEntry) : (p.setNail n v).log = p.log := rfl
@[simp] theorem Part.setNail_link (p : Part) (n : Nat) (v : NailEntry) : (p.setNail n v).link = p.link := rfl
@[simp] theorem Part.setNail_free (p : Part) (n : Nat) (v : NailEntry) : (p.setNail n v).free = p.free := rfl

@[simp] theorem Part.setEngine_map (p : Part) (e : EngineId) (g : Engine) : (p.setEngine e g).map = p.map := rfl
@[simp] theorem Part.setEngine_lock (p : Part) (e : EngineId) (g : Engine) : (p.setEngine e g).lock = p.lock := rfl
@[simp] theorem Part.setEngine_templates (p : Part) (e : EngineId) (g : Engine) : (p.setEngine e g).templates = p.templates := rfl
@[simp] theorem Part.setEngine_ring (p : Part) (e : EngineId) (g : Engine) : (p.setEngine e g).ring = p.ring := rfl
@[simp] theorem Part.setEngine_disp (p : Part) (e : EngineId) (g : Engine) : (p.setEngine e g).disp = p.disp := rfl
@[simp] theorem Part.setEngine_relay (p : Part) (e : EngineId) (g : Engine) : (p.setEngine e g).relay = p.relay := rfl
@[simp] theorem Part.setEngine_scanner (p : Part) (e : EngineId) (g : Engine) : (p.setEngine e g).scanner = p.scanner := rfl
@[simp] theorem Part.setEngine_time (p : Part) (e : EngineId) (g : Engine) : (p.setEngine e g).time = p.time := rfl
@[simp] theorem Part.setEngine_queue (p : Part) (e : EngineId) (g : Engine) : (p.setEngine e g).queue = p.queue := rfl
@[simp] theorem Part.setEngine_log (p : Part) (e : EngineId) (g : Engine) : (p.setEngine e g).log = p.log := rfl
@[simp] theorem Part.setEngine_link (p : Part) (e : EngineId) (g : Engine) : (p.setEngine e g).link = p.link := rfl
@[simp] theorem Part.setEngine_free (p : Part) (e : EngineId) (g : Engine) : (p.setEngine e g).free = p.free := rfl

@[simp] theorem Part.setPlan_map (p : Part) (e : EngineId) (g : EnginePlan) : (p.setPlan e g).map = p.map := rfl
@[simp] theorem Part.setPlan_lock (p : Part) (e : EngineId) (g : EnginePlan) : (p.setPlan e g).lock = p.lock := rfl
@[simp] theorem Part.setPlan_templates (p : Part) (e : EngineId) (g : EnginePlan) : (p.setPlan e g).templates = p.templates := rfl
@[simp] theorem Part.setPlan_ring (p : Part) (e : EngineId) (g : EnginePlan) : (p.setPlan e g).ring = p.ring := rfl
@[simp] theorem Part.setPlan_disp (p : Part) (e : EngineId) (g : EnginePlan) : (p.setPlan e g).disp = p.disp := rfl
@[simp] theorem Part.setPlan_engines (p : Part) (e : EngineId) (g : EnginePlan) : (p.setPlan e g).engines = p.engines := rfl
@[simp] theorem Part.setPlan_scanner (p : Part) (e : EngineId) (g : EnginePlan) : (p.setPlan e g).scanner = p.scanner := rfl
@[simp] theorem Part.setPlan_time (p : Part) (e : EngineId) (g : EnginePlan) : (p.setPlan e g).time = p.time := rfl
@[simp] theorem Part.setPlan_queue (p : Part) (e : EngineId) (g : EnginePlan) : (p.setPlan e g).queue = p.queue := rfl
@[simp] theorem Part.setPlan_log (p : Part) (e : EngineId) (g : EnginePlan) : (p.setPlan e g).log = p.log := rfl
@[simp] theorem Part.setPlan_link (p : Part) (e : EngineId) (g : EnginePlan) : (p.setPlan e g).link = p.link := rfl
@[simp] theorem Part.setPlan_free (p : Part) (e : EngineId) (g : EnginePlan) : (p.setPlan e g).free = p.free := rfl

@[simp] theorem Part.setEntry_map (p : Part) (e : EngineId) (x : Option Entry) : (p.setEntry e x).map = p.map := rfl
@[simp] theorem Part.setEntry_lock (p : Part) (e : EngineId) (x : Option Entry) : (p.setEntry e x).lock = p.lock := rfl
@[simp] theorem Part.setEntry_templates (p : Part) (e : EngineId) (x : Option Entry) : (p.setEntry e x).templates = p.templates := rfl
@[simp] theorem Part.setEntry_ring (p : Part) (e : EngineId) (x : Option Entry) : (p.setEntry e x).ring = p.ring := rfl
@[simp] theorem Part.setEntry_relay (p : Part) (e : EngineId) (x : Option Entry) : (p.setEntry e x).relay = p.relay := rfl
@[simp] theorem Part.setEntry_engines (p : Part) (e : EngineId) (x : Option Entry) : (p.setEntry e x).engines = p.engines := rfl
@[simp] theorem Part.setEntry_scanner (p : Part) (e : EngineId) (x : Option Entry) : (p.setEntry e x).scanner = p.scanner := rfl
@[simp] theorem Part.setEntry_time (p : Part) (e : EngineId) (x : Option Entry) : (p.setEntry e x).time = p.time := rfl
@[simp] theorem Part.setEntry_queue (p : Part) (e : EngineId) (x : Option Entry) : (p.setEntry e x).queue = p.queue := rfl
@[simp] theorem Part.setEntry_log (p : Part) (e : EngineId) (x : Option Entry) : (p.setEntry e x).log = p.log := rfl
@[simp] theorem Part.setEntry_link (p : Part) (e : EngineId) (x : Option Entry) : (p.setEntry e x).link = p.link := rfl
@[simp] theorem Part.setEntry_free (p : Part) (e : EngineId) (x : Option Entry) : (p.setEntry e x).free = p.free := rfl

@[simp] theorem Part.setCapture_map (p : Part) (e : EngineId) (c : Capture) : (p.setCapture e c).map = p.map := rfl
@[simp] theorem Part.setCapture_lock (p : Part) (e : EngineId) (c : Capture) : (p.setCapture e c).lock = p.lock := rfl
@[simp] theorem Part.setCapture_templates (p : Part) (e : EngineId) (c : Capture) : (p.setCapture e c).templates = p.templates := rfl
@[simp] theorem Part.setCapture_ring (p : Part) (e : EngineId) (c : Capture) : (p.setCapture e c).ring = p.ring := rfl
@[simp] theorem Part.setCapture_disp (p : Part) (e : EngineId) (c : Capture) : (p.setCapture e c).disp = p.disp := rfl
@[simp] theorem Part.setCapture_relay (p : Part) (e : EngineId) (c : Capture) : (p.setCapture e c).relay = p.relay := rfl
@[simp] theorem Part.setCapture_engines (p : Part) (e : EngineId) (c : Capture) : (p.setCapture e c).engines = p.engines := rfl
@[simp] theorem Part.setCapture_scanner (p : Part) (e : EngineId) (c : Capture) : (p.setCapture e c).scanner = p.scanner := rfl
@[simp] theorem Part.setCapture_queue (p : Part) (e : EngineId) (c : Capture) : (p.setCapture e c).queue = p.queue := rfl
@[simp] theorem Part.setCapture_log (p : Part) (e : EngineId) (c : Capture) : (p.setCapture e c).log = p.log := rfl
@[simp] theorem Part.setCapture_link (p : Part) (e : EngineId) (c : Capture) : (p.setCapture e c).link = p.link := rfl
@[simp] theorem Part.setCapture_free (p : Part) (e : EngineId) (c : Capture) : (p.setCapture e c).free = p.free := rfl

@[simp] theorem Part.disarm_map (p : Part) (e : EngineId) : (p.disarm e).map = p.map := rfl
@[simp] theorem Part.disarm_lock (p : Part) (e : EngineId) : (p.disarm e).lock = p.lock := rfl
@[simp] theorem Part.disarm_templates (p : Part) (e : EngineId) : (p.disarm e).templates = p.templates := rfl
@[simp] theorem Part.disarm_ring (p : Part) (e : EngineId) : (p.disarm e).ring = p.ring := rfl
@[simp] theorem Part.disarm_disp (p : Part) (e : EngineId) : (p.disarm e).disp = p.disp := rfl
@[simp] theorem Part.disarm_relay (p : Part) (e : EngineId) : (p.disarm e).relay = p.relay := rfl
@[simp] theorem Part.disarm_engines (p : Part) (e : EngineId) : (p.disarm e).engines = p.engines := rfl
@[simp] theorem Part.disarm_scanner (p : Part) (e : EngineId) : (p.disarm e).scanner = p.scanner := rfl
@[simp] theorem Part.disarm_queue (p : Part) (e : EngineId) : (p.disarm e).queue = p.queue := rfl
@[simp] theorem Part.disarm_log (p : Part) (e : EngineId) : (p.disarm e).log = p.log := rfl
@[simp] theorem Part.disarm_link (p : Part) (e : EngineId) : (p.disarm e).link = p.link := rfl
@[simp] theorem Part.disarm_free (p : Part) (e : EngineId) : (p.disarm e).free = p.free := rfl

@[simp] theorem Part.reach_map (p : Part) (d : Nat) : (p.reach d).map = p.map := rfl
@[simp] theorem Part.reach_lock (p : Part) (d : Nat) : (p.reach d).lock = p.lock := rfl
@[simp] theorem Part.reach_templates (p : Part) (d : Nat) : (p.reach d).templates = p.templates := rfl
@[simp] theorem Part.reach_ring (p : Part) (d : Nat) : (p.reach d).ring = p.ring := rfl
@[simp] theorem Part.reach_disp (p : Part) (d : Nat) : (p.reach d).disp = p.disp := rfl
@[simp] theorem Part.reach_relay (p : Part) (d : Nat) : (p.reach d).relay = p.relay := rfl
@[simp] theorem Part.reach_engines (p : Part) (d : Nat) : (p.reach d).engines = p.engines := rfl
@[simp] theorem Part.reach_scanner (p : Part) (d : Nat) : (p.reach d).scanner = p.scanner := rfl
@[simp] theorem Part.reach_queue (p : Part) (d : Nat) : (p.reach d).queue = p.queue := rfl
@[simp] theorem Part.reach_log (p : Part) (d : Nat) : (p.reach d).log = p.log := rfl
@[simp] theorem Part.reach_link (p : Part) (d : Nat) : (p.reach d).link = p.link := rfl
@[simp] theorem Part.reach_free (p : Part) (d : Nat) : (p.reach d).free = p.free := rfl

@[simp] theorem Part.reserve_map (p : Part) : (p.reserve).map = p.map := rfl
@[simp] theorem Part.reserve_lock (p : Part) : (p.reserve).lock = p.lock := rfl
@[simp] theorem Part.reserve_templates (p : Part) : (p.reserve).templates = p.templates := rfl
@[simp] theorem Part.reserve_ring (p : Part) : (p.reserve).ring = p.ring := rfl
@[simp] theorem Part.reserve_disp (p : Part) : (p.reserve).disp = p.disp := rfl
@[simp] theorem Part.reserve_relay (p : Part) : (p.reserve).relay = p.relay := rfl
@[simp] theorem Part.reserve_engines (p : Part) : (p.reserve).engines = p.engines := rfl
@[simp] theorem Part.reserve_scanner (p : Part) : (p.reserve).scanner = p.scanner := rfl
@[simp] theorem Part.reserve_time (p : Part) : (p.reserve).time = p.time := rfl
@[simp] theorem Part.reserve_log (p : Part) : (p.reserve).log = p.log := rfl
@[simp] theorem Part.reserve_link (p : Part) : (p.reserve).link = p.link := rfl
@[simp] theorem Part.reserve_free (p : Part) : (p.reserve).free = p.free := rfl

@[simp] theorem Part.onMap_lock (p : Part) (f : FixtureMap → FixtureMap) : (p.onMap f).lock = p.lock := rfl
@[simp] theorem Part.onMap_templates (p : Part) (f : FixtureMap → FixtureMap) : (p.onMap f).templates = p.templates := rfl
@[simp] theorem Part.onMap_ring (p : Part) (f : FixtureMap → FixtureMap) : (p.onMap f).ring = p.ring := rfl
@[simp] theorem Part.onMap_disp (p : Part) (f : FixtureMap → FixtureMap) : (p.onMap f).disp = p.disp := rfl
@[simp] theorem Part.onMap_relay (p : Part) (f : FixtureMap → FixtureMap) : (p.onMap f).relay = p.relay := rfl
@[simp] theorem Part.onMap_engines (p : Part) (f : FixtureMap → FixtureMap) : (p.onMap f).engines = p.engines := rfl
@[simp] theorem Part.onMap_scanner (p : Part) (f : FixtureMap → FixtureMap) : (p.onMap f).scanner = p.scanner := rfl
@[simp] theorem Part.onMap_time (p : Part) (f : FixtureMap → FixtureMap) : (p.onMap f).time = p.time := rfl
@[simp] theorem Part.onMap_queue (p : Part) (f : FixtureMap → FixtureMap) : (p.onMap f).queue = p.queue := rfl
@[simp] theorem Part.onMap_log (p : Part) (f : FixtureMap → FixtureMap) : (p.onMap f).log = p.log := rfl
@[simp] theorem Part.onMap_link (p : Part) (f : FixtureMap → FixtureMap) : (p.onMap f).link = p.link := rfl
@[simp] theorem Part.onMap_free (p : Part) (f : FixtureMap → FixtureMap) : (p.onMap f).free = p.free := rfl

@[simp] theorem Part.onRing_map (p : Part) (f : Ring → Ring) : (p.onRing f).map = p.map := rfl
@[simp] theorem Part.onRing_lock (p : Part) (f : Ring → Ring) : (p.onRing f).lock = p.lock := rfl
@[simp] theorem Part.onRing_templates (p : Part) (f : Ring → Ring) : (p.onRing f).templates = p.templates := rfl
@[simp] theorem Part.onRing_disp (p : Part) (f : Ring → Ring) : (p.onRing f).disp = p.disp := rfl
@[simp] theorem Part.onRing_relay (p : Part) (f : Ring → Ring) : (p.onRing f).relay = p.relay := rfl
@[simp] theorem Part.onRing_engines (p : Part) (f : Ring → Ring) : (p.onRing f).engines = p.engines := rfl
@[simp] theorem Part.onRing_scanner (p : Part) (f : Ring → Ring) : (p.onRing f).scanner = p.scanner := rfl
@[simp] theorem Part.onRing_time (p : Part) (f : Ring → Ring) : (p.onRing f).time = p.time := rfl
@[simp] theorem Part.onRing_queue (p : Part) (f : Ring → Ring) : (p.onRing f).queue = p.queue := rfl
@[simp] theorem Part.onRing_log (p : Part) (f : Ring → Ring) : (p.onRing f).log = p.log := rfl
@[simp] theorem Part.onRing_link (p : Part) (f : Ring → Ring) : (p.onRing f).link = p.link := rfl
@[simp] theorem Part.onRing_free (p : Part) (f : Ring → Ring) : (p.onRing f).free = p.free := rfl

@[simp] theorem Part.onLink_map (p : Part) (f : LinkPort → LinkPort) : (p.onLink f).map = p.map := rfl
@[simp] theorem Part.onLink_lock (p : Part) (f : LinkPort → LinkPort) : (p.onLink f).lock = p.lock := rfl
@[simp] theorem Part.onLink_templates (p : Part) (f : LinkPort → LinkPort) : (p.onLink f).templates = p.templates := rfl
@[simp] theorem Part.onLink_ring (p : Part) (f : LinkPort → LinkPort) : (p.onLink f).ring = p.ring := rfl
@[simp] theorem Part.onLink_disp (p : Part) (f : LinkPort → LinkPort) : (p.onLink f).disp = p.disp := rfl
@[simp] theorem Part.onLink_relay (p : Part) (f : LinkPort → LinkPort) : (p.onLink f).relay = p.relay := rfl
@[simp] theorem Part.onLink_engines (p : Part) (f : LinkPort → LinkPort) : (p.onLink f).engines = p.engines := rfl
@[simp] theorem Part.onLink_scanner (p : Part) (f : LinkPort → LinkPort) : (p.onLink f).scanner = p.scanner := rfl
@[simp] theorem Part.onLink_time (p : Part) (f : LinkPort → LinkPort) : (p.onLink f).time = p.time := rfl
@[simp] theorem Part.onLink_queue (p : Part) (f : LinkPort → LinkPort) : (p.onLink f).queue = p.queue := rfl
@[simp] theorem Part.onLink_log (p : Part) (f : LinkPort → LinkPort) : (p.onLink f).log = p.log := rfl
@[simp] theorem Part.onLink_free (p : Part) (f : LinkPort → LinkPort) : (p.onLink f).free = p.free := rfl

@[simp] theorem Part.onLock_map (p : Part) (f : Interlock → Interlock) : (p.onLock f).map = p.map := rfl
@[simp] theorem Part.onLock_templates (p : Part) (f : Interlock → Interlock) : (p.onLock f).templates = p.templates := rfl
@[simp] theorem Part.onLock_ring (p : Part) (f : Interlock → Interlock) : (p.onLock f).ring = p.ring := rfl
@[simp] theorem Part.onLock_disp (p : Part) (f : Interlock → Interlock) : (p.onLock f).disp = p.disp := rfl
@[simp] theorem Part.onLock_relay (p : Part) (f : Interlock → Interlock) : (p.onLock f).relay = p.relay := rfl
@[simp] theorem Part.onLock_engines (p : Part) (f : Interlock → Interlock) : (p.onLock f).engines = p.engines := rfl
@[simp] theorem Part.onLock_scanner (p : Part) (f : Interlock → Interlock) : (p.onLock f).scanner = p.scanner := rfl
@[simp] theorem Part.onLock_time (p : Part) (f : Interlock → Interlock) : (p.onLock f).time = p.time := rfl
@[simp] theorem Part.onLock_queue (p : Part) (f : Interlock → Interlock) : (p.onLock f).queue = p.queue := rfl
@[simp] theorem Part.onLock_log (p : Part) (f : Interlock → Interlock) : (p.onLock f).log = p.log := rfl
@[simp] theorem Part.onLock_link (p : Part) (f : Interlock → Interlock) : (p.onLock f).link = p.link := rfl
@[simp] theorem Part.onLock_free (p : Part) (f : Interlock → Interlock) : (p.onLock f).free = p.free := rfl

@[simp] theorem Part.onTime_map (p : Part) (f : Timebase → Timebase) : (p.onTime f).map = p.map := rfl
@[simp] theorem Part.onTime_lock (p : Part) (f : Timebase → Timebase) : (p.onTime f).lock = p.lock := rfl
@[simp] theorem Part.onTime_templates (p : Part) (f : Timebase → Timebase) : (p.onTime f).templates = p.templates := rfl
@[simp] theorem Part.onTime_ring (p : Part) (f : Timebase → Timebase) : (p.onTime f).ring = p.ring := rfl
@[simp] theorem Part.onTime_disp (p : Part) (f : Timebase → Timebase) : (p.onTime f).disp = p.disp := rfl
@[simp] theorem Part.onTime_relay (p : Part) (f : Timebase → Timebase) : (p.onTime f).relay = p.relay := rfl
@[simp] theorem Part.onTime_engines (p : Part) (f : Timebase → Timebase) : (p.onTime f).engines = p.engines := rfl
@[simp] theorem Part.onTime_scanner (p : Part) (f : Timebase → Timebase) : (p.onTime f).scanner = p.scanner := rfl
@[simp] theorem Part.onTime_queue (p : Part) (f : Timebase → Timebase) : (p.onTime f).queue = p.queue := rfl
@[simp] theorem Part.onTime_log (p : Part) (f : Timebase → Timebase) : (p.onTime f).log = p.log := rfl
@[simp] theorem Part.onTime_link (p : Part) (f : Timebase → Timebase) : (p.onTime f).link = p.link := rfl
@[simp] theorem Part.onTime_free (p : Part) (f : Timebase → Timebase) : (p.onTime f).free = p.free := rfl

@[simp] theorem Part.slotDone_map (p : Part) (i : Nat) : (p.slotDone i).map = p.map := rfl
@[simp] theorem Part.slotDone_lock (p : Part) (i : Nat) : (p.slotDone i).lock = p.lock := rfl
@[simp] theorem Part.slotDone_templates (p : Part) (i : Nat) : (p.slotDone i).templates = p.templates := rfl
@[simp] theorem Part.slotDone_disp (p : Part) (i : Nat) : (p.slotDone i).disp = p.disp := rfl
@[simp] theorem Part.slotDone_relay (p : Part) (i : Nat) : (p.slotDone i).relay = p.relay := rfl
@[simp] theorem Part.slotDone_engines (p : Part) (i : Nat) : (p.slotDone i).engines = p.engines := rfl
@[simp] theorem Part.slotDone_scanner (p : Part) (i : Nat) : (p.slotDone i).scanner = p.scanner := rfl
@[simp] theorem Part.slotDone_time (p : Part) (i : Nat) : (p.slotDone i).time = p.time := rfl
@[simp] theorem Part.slotDone_queue (p : Part) (i : Nat) : (p.slotDone i).queue = p.queue := rfl
@[simp] theorem Part.slotDone_log (p : Part) (i : Nat) : (p.slotDone i).log = p.log := rfl
@[simp] theorem Part.slotDone_link (p : Part) (i : Nat) : (p.slotDone i).link = p.link := rfl
@[simp] theorem Part.slotDone_free (p : Part) (i : Nat) : (p.slotDone i).free = p.free := rfl

@[simp] theorem Part.setPace_map (p : Part) (w h b : Nat) : (p.setPace w h b).map = p.map := rfl
@[simp] theorem Part.setPace_lock (p : Part) (w h b : Nat) : (p.setPace w h b).lock = p.lock := rfl
@[simp] theorem Part.setPace_templates (p : Part) (w h b : Nat) : (p.setPace w h b).templates = p.templates := rfl
@[simp] theorem Part.setPace_ring (p : Part) (w h b : Nat) : (p.setPace w h b).ring = p.ring := rfl
@[simp] theorem Part.setPace_engines (p : Part) (w h b : Nat) : (p.setPace w h b).engines = p.engines := rfl
@[simp] theorem Part.setPace_scanner (p : Part) (w h b : Nat) : (p.setPace w h b).scanner = p.scanner := rfl
@[simp] theorem Part.setPace_time (p : Part) (w h b : Nat) : (p.setPace w h b).time = p.time := rfl
@[simp] theorem Part.setPace_log (p : Part) (w h b : Nat) : (p.setPace w h b).log = p.log := rfl
@[simp] theorem Part.setPace_free (p : Part) (w h b : Nat) : (p.setPace w h b).free = p.free := rfl

/-! ### What an update writes -/

@[simp] theorem Part.engine_setEngine_same (p : Part) (e : EngineId) (g : Engine) :
    (p.setEngine e g).engine e = g := PerEngine.get_set_same _ _ _

@[simp] theorem Part.engine_setEngine_ne (p : Part) (e f : EngineId) (g : Engine) (h : f ≠ e) :
    (p.setEngine e g).engine f = p.engine f := PerEngine.get_set_ne _ _ _ _ h

@[simp] theorem Part.plan_setPlan_same (p : Part) (e : EngineId) (g : EnginePlan) :
    (p.setPlan e g).plan e = g := PerEngine.get_set_same _ _ _

@[simp] theorem Part.plan_setPlan_ne (p : Part) (e f : EngineId) (g : EnginePlan) (h : f ≠ e) :
    (p.setPlan e g).plan f = p.plan f := PerEngine.get_set_ne _ _ _ _ h

@[simp] theorem Part.inFlight_setEntry_same (p : Part) (e : EngineId) (x : Option Entry) :
    (p.setEntry e x).disp.inFlight.get e = x := PerEngine.get_set_same _ _ _

@[simp] theorem Part.inFlight_setEntry_ne (p : Part) (e f : EngineId) (x : Option Entry) (h : f ≠ e) :
    (p.setEntry e x).disp.inFlight.get f = p.disp.inFlight.get f := PerEngine.get_set_ne _ _ _ _ h

@[simp] theorem Part.onMap_map (p : Part) (f : FixtureMap → FixtureMap) : (p.onMap f).map = f p.map := rfl
@[simp] theorem Part.onRing_ring (p : Part) (f : Ring → Ring) : (p.onRing f).ring = f p.ring := rfl
@[simp] theorem Part.onLink_link (p : Part) (f : LinkPort → LinkPort) : (p.onLink f).link = f p.link := rfl
@[simp] theorem Part.onLock_lock (p : Part) (f : Interlock → Interlock) : (p.onLock f).lock = f p.lock := rfl
@[simp] theorem Part.onTime_time (p : Part) (f : Timebase → Timebase) : (p.onTime f).time = f p.time := rfl
@[simp] theorem Part.reach_tick (p : Part) (d : Nat) : (p.reach d).time.tick = max p.time.tick d := rfl
@[simp] theorem Part.reach_ref (p : Part) (d : Nat) : (p.reach d).time.ref = p.time.ref := rfl
@[simp] theorem Part.reach_lossCount (p : Part) (d : Nat) : (p.reach d).time.lossCount = p.time.lossCount := rfl
@[simp] theorem Part.reach_verification (p : Part) (d : Nat) : (p.reach d).time.verification = p.time.verification := rfl
@[simp] theorem Part.reach_silent (p : Part) (d : Nat) : (p.reach d).time.silent = p.time.silent := rfl
@[simp] theorem Part.reach_captures (p : Part) (d : Nat) : (p.reach d).time.captures = p.time.captures := rfl

/-! ### The clock (R96, R97) -/

@[simp] theorem Timebase.advance_ref (t : Timebase) (n : Nat) : (t.advance n).ref = t.ref := rfl
@[simp] theorem Timebase.advance_tick (t : Timebase) (n : Nat) : (t.advance n).tick = t.tick + n := rfl
@[simp] theorem Timebase.advance_lossCount (t : Timebase) (n : Nat) : (t.advance n).lossCount = t.lossCount := rfl
@[simp] theorem Timebase.advance_verification (t : Timebase) (n : Nat) : (t.advance n).verification = t.verification := rfl
@[simp] theorem Timebase.advance_silent (t : Timebase) (n : Nat) : (t.advance n).silent = t.silent := rfl
@[simp] theorem Timebase.lose_ref (t : Timebase) : t.lose.ref = .recovery := rfl
@[simp] theorem Timebase.lose_tick (t : Timebase) : t.lose.tick = t.tick := rfl
@[simp] theorem Timebase.lose_lossCount (t : Timebase) : t.lose.lossCount = min 65535 (t.lossCount + 1) := rfl
@[simp] theorem Timebase.lose_verification (t : Timebase) : t.lose.verification = none := rfl
@[simp] theorem Timebase.lose_silent (t : Timebase) : t.lose.silent = 0 := rfl

/-- All that one period of the recovery oscillator does. -/
theorem Timebase.period_eq (t : Timebase) : t.period = { t with
    tick := if t.ref = .external then t.tick else t.tick + 1
    silent := if t.ref = .recovery then t.silent else t.silent + 1 } := by
  cases t with
  | mk tick ref lossCount verification silent captures => cases ref <;> rfl

/-! ### Handing frames (R188) -/

@[simp] theorem Part.hand_nil (p : Part) : p.hand [] = p := rfl

/-- What handing frames does: they join the transmit list, and a first frame begins now. -/
theorem Part.hand_eq (p : Part) (fs : List OutFrame) :
    p.hand fs = p.onLink fun l => { l with
      transmit := l.transmit ++ fs
      sendStart := if l.transmit = [] ∧ fs ≠ [] then some p.time.tick else l.sendStart } := by
  unfold Part.hand Part.onLink
  by_cases h : fs = []
  · subst h; simp
  · simp [h]

@[simp] theorem Part.hand_map (p : Part) (fs : List OutFrame) : (p.hand fs).map = p.map := by
  unfold Part.hand; split <;> rfl
@[simp] theorem Part.hand_lock (p : Part) (fs : List OutFrame) : (p.hand fs).lock = p.lock := by
  unfold Part.hand; split <;> rfl
@[simp] theorem Part.hand_templates (p : Part) (fs : List OutFrame) : (p.hand fs).templates = p.templates := by
  unfold Part.hand; split <;> rfl
@[simp] theorem Part.hand_ring (p : Part) (fs : List OutFrame) : (p.hand fs).ring = p.ring := by
  unfold Part.hand; split <;> rfl
@[simp] theorem Part.hand_disp (p : Part) (fs : List OutFrame) : (p.hand fs).disp = p.disp := by
  unfold Part.hand; split <;> rfl
@[simp] theorem Part.hand_relay (p : Part) (fs : List OutFrame) : (p.hand fs).relay = p.relay := by
  unfold Part.hand; split <;> rfl
@[simp] theorem Part.hand_engines (p : Part) (fs : List OutFrame) : (p.hand fs).engines = p.engines := by
  unfold Part.hand; split <;> rfl
@[simp] theorem Part.hand_scanner (p : Part) (fs : List OutFrame) : (p.hand fs).scanner = p.scanner := by
  unfold Part.hand; split <;> rfl
@[simp] theorem Part.hand_time (p : Part) (fs : List OutFrame) : (p.hand fs).time = p.time := by
  unfold Part.hand; split <;> rfl
@[simp] theorem Part.hand_queue (p : Part) (fs : List OutFrame) : (p.hand fs).queue = p.queue := by
  unfold Part.hand; split <;> rfl
@[simp] theorem Part.hand_log (p : Part) (fs : List OutFrame) : (p.hand fs).log = p.log := by
  unfold Part.hand; split <;> rfl
@[simp] theorem Part.hand_free (p : Part) (fs : List OutFrame) : (p.hand fs).free = p.free := by
  unfold Part.hand; split <;> rfl

@[simp] theorem Part.hand_transmit (p : Part) (fs : List OutFrame) :
    (p.hand fs).link.transmit = p.link.transmit ++ fs := by rw [Part.hand_eq]; rfl

/-! ### An event -/

@[simp] theorem Ev.map_p (f : Part → Part) (v : Ev) : (v.map f).p = f v.p := rfl
@[simp] theorem Ev.map_first (f : Part → Part) (v : Ev) : (v.map f).first = v.first := rfl
@[simp] theorem Ev.map_replies (f : Part → Part) (v : Ev) : (v.map f).replies = v.replies := rfl
@[simp] theorem Ev.map_blocks (f : Part → Part) (v : Ev) : (v.map f).blocks = v.blocks := rfl
@[simp] theorem Ev.map_steps (f : Part → Part) (v : Ev) : (v.map f).steps = v.steps := rfl
@[simp] theorem Ev.map_remainders (f : Part → Part) (v : Ev) : (v.map f).remainders = v.remainders := rfl
@[simp] theorem Ev.map_entries (f : Part → Part) (v : Ev) : (v.map f).entries = v.entries := rfl
@[simp] theorem Ev.map_last (f : Part → Part) (v : Ev) : (v.map f).last = v.last := rfl
@[simp] theorem Ev.map_completions (f : Part → Part) (v : Ev) : (v.map f).completions = v.completions := rfl
@[simp] theorem Ev.map_askEvaluate (f : Part → Part) (v : Ev) : (v.map f).askEvaluate = v.askEvaluate := rfl
@[simp] theorem Ev.map_askRemoval (f : Part → Part) (v : Ev) : (v.map f).askRemoval = v.askRemoval := rfl
@[simp] theorem Ev.map_askRemainder (f : Part → Part) (v : Ev) : (v.map f).askRemainder = v.askRemainder := rfl
@[simp] theorem Ev.start_p (p : Part) : (Ev.start p).p = p := rfl
@[simp] theorem Ev.start_first (p : Part) : (Ev.start p).first = [] := rfl
@[simp] theorem Ev.start_replies (p : Part) : (Ev.start p).replies = [] := rfl
@[simp] theorem Ev.start_blocks (p : Part) : (Ev.start p).blocks = [] := rfl
@[simp] theorem Ev.start_steps (p : Part) : (Ev.start p).steps = [] := rfl
@[simp] theorem Ev.start_remainders (p : Part) : (Ev.start p).remainders = [] := rfl
@[simp] theorem Ev.start_entries (p : Part) : (Ev.start p).entries = [] := rfl
@[simp] theorem Ev.start_last (p : Part) : (Ev.start p).last = [] := rfl
@[simp] theorem Ev.start_completions (p : Part) : (Ev.start p).completions = [] := rfl
@[simp] theorem Ev.start_askEvaluate (p : Part) : (Ev.start p).askEvaluate = false := rfl
@[simp] theorem Ev.start_askRemoval (p : Part) : (Ev.start p).askRemoval = false := rfl
@[simp] theorem Ev.start_askRemainder (p : Part) : (Ev.start p).askRemainder = false := rfl
theorem Ev.onEngine_p (v : Ev) (e : EngineId) (f : Engine → Engine) : (v.onEngine e f).p = v.p.setEngine e (f (v.p.engine e)) := rfl
@[simp] theorem Ev.onEngine_first (v : Ev) (e : EngineId) (f : Engine → Engine) : (v.onEngine e f).first = v.first := rfl
@[simp] theorem Ev.onEngine_replies (v : Ev) (e : EngineId) (f : Engine → Engine) : (v.onEngine e f).replies = v.replies := rfl
@[simp] theorem Ev.onEngine_blocks (v : Ev) (e : EngineId) (f : Engine → Engine) : (v.onEngine e f).blocks = v.blocks := rfl
@[simp] theorem Ev.onEngine_steps (v : Ev) (e : EngineId) (f : Engine → Engine) : (v.onEngine e f).steps = v.steps := rfl
@[simp] theorem Ev.onEngine_remainders (v : Ev) (e : EngineId) (f : Engine → Engine) : (v.onEngine e f).remainders = v.remainders := rfl
@[simp] theorem Ev.onEngine_entries (v : Ev) (e : EngineId) (f : Engine → Engine) : (v.onEngine e f).entries = v.entries := rfl
@[simp] theorem Ev.onEngine_last (v : Ev) (e : EngineId) (f : Engine → Engine) : (v.onEngine e f).last = v.last := rfl
@[simp] theorem Ev.onEngine_completions (v : Ev) (e : EngineId) (f : Engine → Engine) : (v.onEngine e f).completions = v.completions := rfl
@[simp] theorem Ev.onEngine_askEvaluate (v : Ev) (e : EngineId) (f : Engine → Engine) : (v.onEngine e f).askEvaluate = v.askEvaluate := rfl
@[simp] theorem Ev.onEngine_askRemoval (v : Ev) (e : EngineId) (f : Engine → Engine) : (v.onEngine e f).askRemoval = v.askRemoval := rfl
@[simp] theorem Ev.onEngine_askRemainder (v : Ev) (e : EngineId) (f : Engine → Engine) : (v.onEngine e f).askRemainder = v.askRemainder := rfl
theorem Ev.onScanner_p (v : Ev) (f : Scanner → Scanner) : (v.onScanner f).p = { v.p with scanner := f v.p.scanner } := rfl
@[simp] theorem Ev.onScanner_first (v : Ev) (f : Scanner → Scanner) : (v.onScanner f).first = v.first := rfl
@[simp] theorem Ev.onScanner_replies (v : Ev) (f : Scanner → Scanner) : (v.onScanner f).replies = v.replies := rfl
@[simp] theorem Ev.onScanner_blocks (v : Ev) (f : Scanner → Scanner) : (v.onScanner f).blocks = v.blocks := rfl
@[simp] theorem Ev.onScanner_steps (v : Ev) (f : Scanner → Scanner) : (v.onScanner f).steps = v.steps := rfl
@[simp] theorem Ev.onScanner_remainders (v : Ev) (f : Scanner → Scanner) : (v.onScanner f).remainders = v.remainders := rfl
@[simp] theorem Ev.onScanner_entries (v : Ev) (f : Scanner → Scanner) : (v.onScanner f).entries = v.entries := rfl
@[simp] theorem Ev.onScanner_last (v : Ev) (f : Scanner → Scanner) : (v.onScanner f).last = v.last := rfl
@[simp] theorem Ev.onScanner_completions (v : Ev) (f : Scanner → Scanner) : (v.onScanner f).completions = v.completions := rfl
@[simp] theorem Ev.onScanner_askEvaluate (v : Ev) (f : Scanner → Scanner) : (v.onScanner f).askEvaluate = v.askEvaluate := rfl
@[simp] theorem Ev.onScanner_askRemoval (v : Ev) (f : Scanner → Scanner) : (v.onScanner f).askRemoval = v.askRemoval := rfl
@[simp] theorem Ev.onScanner_askRemainder (v : Ev) (f : Scanner → Scanner) : (v.onScanner f).askRemainder = v.askRemainder := rfl
theorem Ev.look_p (v : Ev) : v.look.p = { v.p with relay := v.p.relay.look v.p.time.tick } := rfl
@[simp] theorem Ev.look_first (v : Ev) : v.look.first = v.first := rfl
@[simp] theorem Ev.look_replies (v : Ev) : v.look.replies = v.replies := rfl
@[simp] theorem Ev.look_blocks (v : Ev) : v.look.blocks = v.blocks := rfl
@[simp] theorem Ev.look_steps (v : Ev) : v.look.steps = v.steps := rfl
@[simp] theorem Ev.look_remainders (v : Ev) : v.look.remainders = v.remainders := rfl
@[simp] theorem Ev.look_entries (v : Ev) : v.look.entries = v.entries := rfl
@[simp] theorem Ev.look_last (v : Ev) : v.look.last = v.last := rfl
@[simp] theorem Ev.look_completions (v : Ev) : v.look.completions = v.completions := rfl
@[simp] theorem Ev.look_askEvaluate (v : Ev) : v.look.askEvaluate = v.askEvaluate := rfl
@[simp] theorem Ev.look_askRemoval (v : Ev) : v.look.askRemoval = v.askRemoval := rfl
@[simp] theorem Ev.look_askRemainder (v : Ev) : v.look.askRemainder = v.askRemainder := rfl
@[simp] theorem Ev.noteFirst_p (v : Ev) (n : Notice) : (v.noteFirst n).p = v.p := rfl
@[simp] theorem Ev.noteFirst_first (v : Ev) (n : Notice) : (v.noteFirst n).first = v.first ++ [.notice n] := rfl
@[simp] theorem Ev.noteFirst_replies (v : Ev) (n : Notice) : (v.noteFirst n).replies = v.replies := rfl
@[simp] theorem Ev.noteFirst_blocks (v : Ev) (n : Notice) : (v.noteFirst n).blocks = v.blocks := rfl
@[simp] theorem Ev.noteFirst_steps (v : Ev) (n : Notice) : (v.noteFirst n).steps = v.steps := rfl
@[simp] theorem Ev.noteFirst_remainders (v : Ev) (n : Notice) : (v.noteFirst n).remainders = v.remainders := rfl
@[simp] theorem Ev.noteFirst_entries (v : Ev) (n : Notice) : (v.noteFirst n).entries = v.entries := rfl
@[simp] theorem Ev.noteFirst_last (v : Ev) (n : Notice) : (v.noteFirst n).last = v.last := rfl
@[simp] theorem Ev.noteFirst_completions (v : Ev) (n : Notice) : (v.noteFirst n).completions = v.completions := rfl
@[simp] theorem Ev.noteFirst_askEvaluate (v : Ev) (n : Notice) : (v.noteFirst n).askEvaluate = v.askEvaluate := rfl
@[simp] theorem Ev.noteFirst_askRemoval (v : Ev) (n : Notice) : (v.noteFirst n).askRemoval = v.askRemoval := rfl
@[simp] theorem Ev.noteFirst_askRemainder (v : Ev) (n : Notice) : (v.noteFirst n).askRemainder = v.askRemainder := rfl
@[simp] theorem Ev.noteLast_p (v : Ev) (n : Notice) : (v.noteLast n).p = v.p := rfl
@[simp] theorem Ev.noteLast_first (v : Ev) (n : Notice) : (v.noteLast n).first = v.first := rfl
@[simp] theorem Ev.noteLast_replies (v : Ev) (n : Notice) : (v.noteLast n).replies = v.replies := rfl
@[simp] theorem Ev.noteLast_blocks (v : Ev) (n : Notice) : (v.noteLast n).blocks = v.blocks := rfl
@[simp] theorem Ev.noteLast_steps (v : Ev) (n : Notice) : (v.noteLast n).steps = v.steps := rfl
@[simp] theorem Ev.noteLast_remainders (v : Ev) (n : Notice) : (v.noteLast n).remainders = v.remainders := rfl
@[simp] theorem Ev.noteLast_entries (v : Ev) (n : Notice) : (v.noteLast n).entries = v.entries := rfl
@[simp] theorem Ev.noteLast_last (v : Ev) (n : Notice) : (v.noteLast n).last = v.last ++ [.notice n] := rfl
@[simp] theorem Ev.noteLast_completions (v : Ev) (n : Notice) : (v.noteLast n).completions = v.completions := rfl
@[simp] theorem Ev.noteLast_askEvaluate (v : Ev) (n : Notice) : (v.noteLast n).askEvaluate = v.askEvaluate := rfl
@[simp] theorem Ev.noteLast_askRemoval (v : Ev) (n : Notice) : (v.noteLast n).askRemoval = v.askRemoval := rfl
@[simp] theorem Ev.noteLast_askRemainder (v : Ev) (n : Notice) : (v.noteLast n).askRemainder = v.askRemainder := rfl
@[simp] theorem Ev.reply_p (v : Ev) (body : Reply) : (v.reply body).p = v.p := by
  unfold Ev.reply; split <;> rfl
@[simp] theorem Ev.reply_first (v : Ev) (body : Reply) : (v.reply body).first = v.first := by
  unfold Ev.reply; split <;> rfl
@[simp] theorem Ev.reply_blocks (v : Ev) (body : Reply) : (v.reply body).blocks = v.blocks := by
  unfold Ev.reply; split <;> rfl
@[simp] theorem Ev.reply_steps (v : Ev) (body : Reply) : (v.reply body).steps = v.steps := by
  unfold Ev.reply; split <;> rfl
@[simp] theorem Ev.reply_remainders (v : Ev) (body : Reply) : (v.reply body).remainders = v.remainders := by
  unfold Ev.reply; split <;> rfl
@[simp] theorem Ev.reply_entries (v : Ev) (body : Reply) : (v.reply body).entries = v.entries := by
  unfold Ev.reply; split <;> rfl
@[simp] theorem Ev.reply_last (v : Ev) (body : Reply) : (v.reply body).last = v.last := by
  unfold Ev.reply; split <;> rfl
@[simp] theorem Ev.reply_completions (v : Ev) (body : Reply) : (v.reply body).completions = v.completions := by
  unfold Ev.reply; split <;> rfl
@[simp] theorem Ev.reply_askEvaluate (v : Ev) (body : Reply) : (v.reply body).askEvaluate = v.askEvaluate := by
  unfold Ev.reply; split <;> rfl
@[simp] theorem Ev.reply_askRemoval (v : Ev) (body : Reply) : (v.reply body).askRemoval = v.askRemoval := by
  unfold Ev.reply; split <;> rfl
@[simp] theorem Ev.reply_askRemainder (v : Ev) (body : Reply) : (v.reply body).askRemainder = v.askRemainder := by
  unfold Ev.reply; split <;> rfl
@[simp] theorem Ev.refuse_p (v : Ev) (st : Status) (d : Option Nat) : (v.refuse st d).p = v.p := by
  unfold Ev.refuse; split <;> rfl
@[simp] theorem Ev.refuse_first (v : Ev) (st : Status) (d : Option Nat) : (v.refuse st d).first = v.first := by
  unfold Ev.refuse; split <;> rfl
@[simp] theorem Ev.refuse_blocks (v : Ev) (st : Status) (d : Option Nat) : (v.refuse st d).blocks = v.blocks := by
  unfold Ev.refuse; split <;> rfl
@[simp] theorem Ev.refuse_steps (v : Ev) (st : Status) (d : Option Nat) : (v.refuse st d).steps = v.steps := by
  unfold Ev.refuse; split <;> rfl
@[simp] theorem Ev.refuse_remainders (v : Ev) (st : Status) (d : Option Nat) : (v.refuse st d).remainders = v.remainders := by
  unfold Ev.refuse; split <;> rfl
@[simp] theorem Ev.refuse_entries (v : Ev) (st : Status) (d : Option Nat) : (v.refuse st d).entries = v.entries := by
  unfold Ev.refuse; split <;> rfl
@[simp] theorem Ev.refuse_last (v : Ev) (st : Status) (d : Option Nat) : (v.refuse st d).last = v.last := by
  unfold Ev.refuse; split <;> rfl
@[simp] theorem Ev.refuse_completions (v : Ev) (st : Status) (d : Option Nat) : (v.refuse st d).completions = v.completions := by
  unfold Ev.refuse; split <;> rfl
@[simp] theorem Ev.refuse_askEvaluate (v : Ev) (st : Status) (d : Option Nat) : (v.refuse st d).askEvaluate = v.askEvaluate := by
  unfold Ev.refuse; split <;> rfl
@[simp] theorem Ev.refuse_askRemoval (v : Ev) (st : Status) (d : Option Nat) : (v.refuse st d).askRemoval = v.askRemoval := by
  unfold Ev.refuse; split <;> rfl
@[simp] theorem Ev.refuse_askRemainder (v : Ev) (st : Status) (d : Option Nat) : (v.refuse st d).askRemainder = v.askRemainder := by
  unfold Ev.refuse; split <;> rfl

end Machine

end Sys2Proof
end

