-- ==== Sys2Proof/Laws/Tables.lean ====
section
/-! SUPPORT. Tables: a store keeps the canonical form, and a read after a store. -/

namespace Sys2Proof.Machine

variable {α : Type} [DecidableEq α]

theorem tableFrom_mono {d : α} {lo lo' : Nat} (h : lo' ≤ lo) {t : List (Nat × α)} (ht : tableFrom d lo t = true) :
    tableFrom d lo' t = true := by
  cases t with
  | nil => rfl
  | cons x rest =>
    simp only [tableFrom, Bool.and_eq_true, decide_eq_true_eq] at ht ⊢
    exact ⟨⟨by omega, ht.1.2⟩, ht.2⟩

theorem tableFrom_store {d : α} {k : Nat} {v : α} :
    ∀ {t : List (Nat × α)} {lo : Nat}, lo ≤ k → tableFrom d lo t = true → tableFrom d lo (store d t k v) = true := by
  intro t
  induction t with
  | nil =>
    intro lo h _
    by_cases hv : v = d <;> simp [store, hv, tableFrom, h]
  | cons x rest ih =>
    intro lo h ht
    obtain ⟨k', w⟩ := x
    simp only [tableFrom, Bool.and_eq_true, decide_eq_true_eq] at ht
    obtain ⟨⟨h1, h2⟩, h3⟩ := ht
    unfold store
    split
    · rename_i hlt
      split
      · simp [tableFrom, h1, h2, h3]
      · rename_i hv
        simp only [tableFrom, Bool.and_eq_true, decide_eq_true_eq]
        exact ⟨⟨h, hv⟩, ⟨⟨by omega, h2⟩, h3⟩⟩
    · split
      · rename_i he
        subst he
        split
        · exact tableFrom_mono (by omega) h3
        · rename_i hv
          simp only [tableFrom, Bool.and_eq_true, decide_eq_true_eq]
          exact ⟨⟨h, hv⟩, h3⟩
      · simp only [tableFrom, Bool.and_eq_true, decide_eq_true_eq]
        exact ⟨⟨h1, h2⟩, ih (by omega) h3⟩

/-- A store keeps the canonical form. -/
theorem tableWf_store {d : α} {t : List (Nat × α)} (h : tableWf d t = true) (k : Nat) (v : α) :
    tableWf d (store d t k v) = true := tableFrom_store (Nat.zero_le k) h

theorem mem_store {d : α} {k : Nat} {v : α} {y : Nat × α} :
    ∀ {t : List (Nat × α)}, y ∈ store d t k v → y = (k, v) ∨ y ∈ t := by
  intro t
  induction t with
  | nil =>
    unfold store
    split <;> simp_all
  | cons x rest ih =>
    obtain ⟨k', w⟩ := x
    unfold store
    split
    · split <;> simp_all
    · split
      · split
        · intro h; exact .inr (List.mem_cons_of_mem _ h)
        · intro h
          rcases List.mem_cons.mp h with h | h
          · exact .inl h
          · exact .inr (List.mem_cons_of_mem _ h)
      · intro h
        rcases List.mem_cons.mp h with h | h
        · exact .inr (by simp [h])
        · rcases ih h with h | h
          · exact .inl h
          · exact .inr (List.mem_cons_of_mem _ h)

theorem lookup_below {d : α} {k lo : Nat} :
    ∀ {t : List (Nat × α)}, tableFrom d lo t = true → k < lo → lookup d t k = d := by
  intro t
  induction t generalizing lo with
  | nil => intro _ _; rfl
  | cons x rest ih =>
    intro ht h
    obtain ⟨k', w⟩ := x
    simp only [tableFrom, Bool.and_eq_true, decide_eq_true_eq] at ht
    unfold lookup
    rw [if_neg (by omega)]
    exact ih ht.2 (by omega)

/-- A read after a store: the value stored at its key, and every other key as before. -/
theorem lookup_store {d : α} {k j : Nat} {v : α} :
    ∀ {t : List (Nat × α)} {lo : Nat}, tableFrom d lo t = true →
      lookup d (store d t k v) j = if j = k then v else lookup d t j := by
  intro t
  induction t with
  | nil =>
    intro lo _
    unfold store
    split
    · rename_i hv; simp [lookup, hv]
    · simp [lookup]
  | cons x rest ih =>
    intro lo ht
    obtain ⟨k', w⟩ := x
    have ht' := ht
    simp only [tableFrom, Bool.and_eq_true, decide_eq_true_eq] at ht
    obtain ⟨⟨h1, h2⟩, h3⟩ := ht
    unfold store
    split
    · rename_i hlt
      split
      · rename_i hv
        by_cases hj : j = k
        · subst hj
          rw [if_pos rfl, hv]
          have hh : tableFrom d k' ((k', w) :: rest) = true := by
            simp [tableFrom, h2, h3]
          exact lookup_below hh hlt
        · rw [if_neg hj]
      · by_cases hj : j = k <;> simp [lookup, hj]
    · split
      · rename_i he
        subst he
        split
        · rename_i hv
          by_cases hj : j = k
          · subst hj
            rw [if_pos rfl, hv]
            exact lookup_below h3 (by omega)
          · simp [lookup, hj]
        · by_cases hj : j = k <;> simp [lookup, hj]
      · rename_i hlt hne
        by_cases hk : j = k'
        · subst hk
          have : j ≠ k := fun h => hne h.symm
          simp [lookup, this]
        · have := ih h3
          by_cases hj : j = k
          · subst hj
            simp only [lookup, if_neg hk, this]
          · simp only [lookup, if_neg hk, this]

theorem lookup_store_same {d : α} {t : List (Nat × α)} (h : tableWf d t = true) (k : Nat) (v : α) :
    lookup d (store d t k v) k = v := by rw [lookup_store h, if_pos rfl]

theorem lookup_store_ne {d : α} {t : List (Nat × α)} (h : tableWf d t = true) {k j : Nat} (v : α) (hj : j ≠ k) :
    lookup d (store d t k v) j = lookup d t j := by rw [lookup_store h, if_neg hj]

/-- Storing what stands there changes nothing. -/
theorem store_lookup {d : α} {k : Nat} :
    ∀ {t : List (Nat × α)} {lo : Nat}, tableFrom d lo t = true → store d t k (lookup d t k) = t := by
  intro t
  induction t with
  | nil => intro _ _; simp [store, lookup]
  | cons x rest ih =>
    intro lo ht
    obtain ⟨k', w⟩ := x
    simp only [tableFrom, Bool.and_eq_true, decide_eq_true_eq] at ht
    obtain ⟨⟨h1, h2⟩, h3⟩ := ht
    unfold store lookup
    by_cases hk : k = k'
    · subst hk
      simp [h2]
    · by_cases hlt : k < k'
      · have : lookup d rest k = d := lookup_below h3 (by omega)
        simp [hlt, hk, this]
      · simp [hlt, hk, ih h3]

/-- A nail written keeps the canonical form of the nail table. -/
theorem Part.setNail_wf (p : Part) (h : tableWf NailEntry.unlisted p.map.nails = true) (n : Nat) (x : NailEntry) :
    tableWf NailEntry.unlisted (p.setNail n x).map.nails = true := tableWf_store h n x

/-- A nail read after a write of one. -/
theorem Part.nail_setNail (p : Part) (h : tableWf NailEntry.unlisted p.map.nails = true) (n m : Nat) (x : NailEntry) :
    (p.setNail n x).nail m = if m = n then x else p.nail m := lookup_store h

end Sys2Proof.Machine
end

