-- ==== Sys2Proof/Laws/Event.lean ====
section
/-! SUPPORT. The close of an event that owes nothing, the taking of a request that is taken at once, and the choice of
what the part does by itself. -/

namespace Sys2Proof.Machine

/-! ### The close of an event -/

/-- With the sequencer not RUNNING and no direct step, an evaluation changes nothing (R58). -/
theorem Ev.evaluate_quiet (v : Ev) (hs : v.p.disp.seq ≠ .running) (hd : v.p.disp.direct = none) :
    v.evaluate = v := by
  have h1 : v.judgeDirect = v := by simp [Ev.judgeDirect, hd]
  have h2 : v.judgeFailure = v := by
    unfold Ev.judgeFailure
    dsimp only
    split
    · rename_i h _; exact absurd h hs
    · rfl
  have h3 : ∀ slots older first, v.p.firstEligible older first slots = none := by
    intro slots
    induction slots with
    | nil => intro older first; rfl
    | cons i rest ih =>
      intro older first
      unfold Part.firstEligible
      split
      · exact ih _ _
      · rw [if_neg (by simp [Part.eligible, hs])]
        exact ih _ _
  unfold Ev.evaluate
  rw [h1, h2]
  simp [Ev.dispatchEligible, h3]

/-- A turn that evaluates. -/
theorem Ev.settle_evaluate (v : Ev) (n : Nat) (hc : v.completions = []) (hr : v.askRemoval = false)
    (he : v.askEvaluate = true) : v.settle (n + 1) = ({ v with askEvaluate := false } : Ev).evaluate.settle n := by
  conv => lhs; unfold Ev.settle
  split
  · rename_i h; rw [hc] at h; cases h
  · rw [if_neg (by simp [hr]), if_pos he]

/-- A turn that reports a removal to the Scanner. -/
theorem Ev.settle_removal (v : Ev) (n : Nat) (hc : v.completions = []) (hr : v.askRemoval = true) :
    v.settle (n + 1) = ({ v with askRemoval := false } : Ev).scannerRemoval.settle n := by
  conv => lhs; unfold Ev.settle
  split
  · rename_i h; rw [hc] at h; cases h
  · rw [if_pos hr]

/-- A turn that hands a remainder block. -/
theorem Ev.settle_remainder (v : Ev) (n : Nat) (hc : v.completions = []) (hr : v.askRemoval = false)
    (he : v.askEvaluate = false) (hm : v.askRemainder = true) : v.settle (n + 1) = v.handRemainder.settle n := by
  conv => lhs; unfold Ev.settle
  split
  · rename_i h; rw [hc] at h; cases h
  · rw [if_neg (by simp [hr]), if_neg (by simp [he]), if_pos hm]

/-- A turn that takes a completion (R65). -/
theorem Ev.settle_completion (v : Ev) (n : Nat) (c : Completion) (rest : List Completion)
    (hc : v.completions = c :: rest) :
    v.settle (n + 1) = (({ v with completions := rest } : Ev).takeCompletion c).settle n := by
  conv => lhs; unfold Ev.settle
  split
  · rename_i h; rw [hc] at h; cases h; rfl
  · rename_i h; rw [hc] at h; cases h

/-- An event that owes nothing settles as it stands. -/
theorem Ev.settle_plain (v : Ev) (n : Nat) (hc : v.completions = []) (hr : v.askRemoval = false)
    (he : v.askEvaluate = false) (hm : v.askRemainder = false) : v.settle n = v := by
  cases n with
  | zero => rfl
  | succ n => simp [Ev.settle, hc, hr, he, hm]

/-- An event that owes nothing hands its frames and is done. -/
theorem Ev.close_plain (v : Ev) (hc : v.completions = []) (hr : v.askRemoval = false)
    (he : v.askEvaluate = false) (hm : v.askRemainder = false) : v.close = v.p.hand v.frames := by
  unfold Ev.close
  rw [v.settle_plain settleFuel hc hr he hm]

/-- The Scanner does nothing with a removal outside WAITING_SPACE (R157). -/
theorem Ev.scannerRemoval_idle (v : Ev) (h : v.p.scanner.state ≠ .waitingSpace) : v.scannerRemoval = v := by
  unfold Ev.scannerRemoval
  dsimp only
  split
  · rename_i h' _; exact absurd h' h
  · rfl

/-- With no result record free, an evaluation changes nothing (R54, R57, R71). -/
theorem Ev.evaluate_noRecord (v : Ev) (h : v.p.recordFree = false) : v.evaluate = v := by
  have h1 : v.judgeDirect = v := by
    unfold Ev.judgeDirect; dsimp only
    split
    · split
      · simp [h]
      · split
        · rfl
        · split
          · simp [h]
          · rw [if_neg]; simp [Part.served, h]
    · rfl
  have h2 : v.judgeFailure = v := by
    unfold Ev.judgeFailure; dsimp only
    split
    · split
      · rfl
      · simp [h]
    · rfl
  have h3 : ∀ slots older first, v.p.firstEligible older first slots = none := by
    intro slots
    induction slots with
    | nil => intro older first; rfl
    | cons i rest ih =>
      intro older first
      unfold Part.firstEligible
      split
      · exact ih _ _
      · rw [if_neg (by simp [Part.eligible, Part.served, h])]
        exact ih _ _
  unfold Ev.evaluate
  rw [h1, h2]
  simp [Ev.dispatchEligible, h3]

/-- An event without completions hands its frames and is done when the removal it may ask finds the Scanner not
waiting, the evaluation it may ask finds nothing to dispatch, and no remainder is to be sent. -/
theorem Ev.close_quiet (v : Ev) (hc : v.completions = [])
    (hr : v.askRemoval = false ∨ v.p.scanner.state ≠ .waitingSpace)
    (he : v.askEvaluate = false ∨ v.p.nothingToDispatch = true)
    (hm : v.askRemainder = false ∨ v.p.noRemainder = true) :
    v.close = v.p.hand v.frames := by
  have hev : v.p.nothingToDispatch = true → ∀ w : Ev, w.p = v.p → w.evaluate = w := by
    intro h w hw
    simp only [Part.nothingToDispatch, Bool.or_eq_true, Bool.and_eq_true, decide_eq_true_eq, Option.isNone_iff_eq_none, Bool.not_eq_true'] at h
    rcases h with h | h
    · exact Ev.evaluate_quiet w (by rw [hw]; exact h.1) (by rw [hw]; exact h.2)
    · exact Ev.evaluate_noRecord w (by rw [hw]; exact h)
  have step1 : ∀ (w : Ev) (n : Nat), w.completions = [] → w.askRemoval = false → w.askEvaluate = false →
      (w.askRemainder = false ∨ w.p.noRemainder = true) →
      (w.settle (n + 1)).p = w.p ∧ (w.settle (n + 1)).frames = w.frames := by
    intro w n h1 h2 h3 h4
    by_cases hrem : w.askRemainder = false
    · rw [w.settle_plain _ h1 h2 h3 hrem]; exact ⟨rfl, rfl⟩
    · have hb : ¬ (w.p.queue.block ≠ 0 ∧ w.p.queue.records ≠ []) := by
        rcases h4 with h | h
        · exact absurd h hrem
        · simp [Part.noRemainder] at h; rcases h with h | h <;> simp [h]
      have e : w.settle (n + 1) = Ev.settle n { w with askRemainder := false } := by
        have ht : w.askRemainder = true := by simpa using hrem
        rw [w.settle_remainder n h1 h2 h3 ht]
        unfold Ev.handRemainder
        rw [if_neg hb]
      rw [e, Ev.settle_plain { w with askRemainder := false } n h1 h2 h3 rfl]
      exact ⟨rfl, rfl⟩
  have step2 : ∀ (w : Ev) (n : Nat), w.p = v.p → w.completions = [] → w.askRemoval = false →
      (w.askEvaluate = false ∨ v.p.nothingToDispatch = true) →
      (w.askRemainder = false ∨ w.p.noRemainder = true) →
      (w.settle (n + 2)).p = w.p ∧ (w.settle (n + 2)).frames = w.frames := by
    intro w n h0 h1 h2 h3 h4
    by_cases h : w.askEvaluate = false
    · exact step1 w (n+1) h1 h2 h h4
    · have ht : w.askEvaluate = true := by simpa using h
      have hn := h3.resolve_left h
      have := w.settle_evaluate (n+1) h1 h2 ht
      rw [this, hev hn _ (by exact h0)]
      exact step1 { w with askEvaluate := false } n h1 h2 rfl h4
  have step3 : (v.settle 6000).p = v.p ∧ (v.settle 6000).frames = v.frames := by
    by_cases h : v.askRemoval = false
    · exact step2 v 5998 rfl hc h he hm
    · have ht : v.askRemoval = true := by simpa using h
      have hw := hr.resolve_left h
      rw [v.settle_removal 5999 hc ht, Ev.scannerRemoval_idle _ (by exact hw)]
      exact step2 { v with askRemoval := false } 5997 rfl hc rfl he hm
  unfold Ev.close settleFuel
  dsimp only
  rw [step3.1, step3.2]

/-! ### A request taken at once -/

theorem requestKindOf_code (k : RequestKind) : requestKindOf k.code.toNat = some k := by cases k <;> decide

/-- The part with a request in progress. -/
def Part.taking (p : Part) (number kind : Byte) : Part :=
  p.onLink fun l => { l with inProgress := some ⟨number, kind, false⟩ }

/-- The event in which a request taken at once is judged. -/
theorem Ev.offer_serving (s : State) (number kind : Byte) (body : List Byte) (h1 : s.part.link.inProgress = none)
    (h2 : s.part.link.buffer = []) (h3 : number ≠ 0) :
    (Ev.start s.part).offer ⟨number, kind, body⟩
      = (Ev.start (s.part.taking number kind)).judgeRequest ⟨number, kind, body⟩ := by
  have key : ∀ p : Part, p.link.inProgress = none → p.link.buffer = [] →
      (Ev.start p).offer ⟨number, kind, body⟩
        = (Ev.start (p.taking number kind)).judgeRequest ⟨number, kind, body⟩ := by
    intro p hp1 hp2
    obtain ⟨map, lock, templates, ring, disp, relay, engines, scanner, time, queue, log, link, free⟩ := p
    obtain ⟨receiver, interByte, buffer, inProgress, transmit, sendStart, mode, blockCopy, resetCause⟩ := link
    simp only at hp1 hp2
    subst hp1 hp2
    have h3' : ¬ number = 0#8 := by simpa using h3
    simp [Ev.offer, Ev.start, Ev.map, Part.onLink, Config.bufferFrames, Ev.takeFrames, h3', Part.taking]
  exact key s.part h1 h2

/-- A request of the right length, taken at once, is its owner's act, closed. -/
theorem offerRequest_serving (s : State) (number : Byte) (k : RequestKind) (body : List Byte)
    (h : s.Serving number) (hl : k.bodyLength = some body.length ∨ k.bodyLength = none) :
    offerRequest k number body s
      = .next { s with part := (owner k body (Ev.start (s.part.taking number k.code))).close } := by
  have hg : ¬ ((!admits s.part.link.mode s.part.disp.seq k) = true) := by
    simp [admits, h.mode, h.going]
  unfold offerRequest event
  rw [Ev.offer_serving s number k.code body h.free h.empty h.numbered]
  unfold Ev.judgeRequest
  simp only [requestKindOf_code]
  have e1 : (Ev.start (s.part.taking number k.code)).p.link.mode = s.part.link.mode := rfl
  have e2 : (Ev.start (s.part.taking number k.code)).p.disp.seq = s.part.disp.seq := rfl
  rw [e1, e2, if_neg hg]
  rcases hl with hl | hl
  · simp [hl]
  · simp [hl]

/-- What a reply of the request in progress adds. -/
theorem Ev.reply_taking (p : Part) (number kind : Byte) (v : Ev) (body : Reply)
    (h : v.p.link.inProgress = (p.taking number kind).link.inProgress) :
    v.reply body = { v with replies := v.replies ++ [.reply number kind body] } := by
  simp [Ev.reply, h, Part.taking]

/-- What a refusal of the request in progress adds. -/
theorem Ev.refuse_taking (p : Part) (number kind : Byte) (v : Ev) (st : Status) (d : Option Nat)
    (h : v.p.link.inProgress = (p.taking number kind).link.inProgress) :
    v.refuse st d = { v with replies := v.replies ++ [.refused number kind st d] } := by
  simp [Ev.refuse, h, Part.taking]

/-! ### The part's own events -/

/-- All that a free choice of one item can do: it gives an item of the list, and counts the choice. -/
theorem Part.chooseOne_spec {α : Type} {p q : Part} {l : List α} {a : α} (h : p.chooseOne l = some (a, q)) :
    a ∈ l ∧ ∃ n, q = { p with free := n } := by
  match l, h with
  | [b], h => cases h; exact ⟨List.mem_singleton.mpr rfl, _, rfl⟩
  | b :: c :: rest, h =>
    have hlt : Config.freeChoice p.free % (rest.length + 2) < (b :: c :: rest).length := Nat.mod_lt _ (Nat.succ_pos _)
    cases h
    refine ⟨?_, _, rfl⟩
    rw [List.getD_eq_getElem _ _ hlt]
    exact List.getElem_mem hlt

/-- Nothing is chosen exactly from an empty list. -/
theorem Part.chooseOne_none {α : Type} {p : Part} {l : List α} : p.chooseOne l = none ↔ l = [] := by
  match l with
  | [] => simp [Part.chooseOne]
  | [_] => simp [Part.chooseOne]
  | _ :: _ :: _ => simp [Part.chooseOne]

/-- What is due: timed, reached, and of the earliest due time among what is reached. -/
theorem Part.mem_dueNow {p : Part} {x : Nat × Instr} :
    x ∈ p.dueNow ↔ x ∈ p.timed ∧ x.1 ≤ p.time.tick ∧ ∀ y ∈ p.timed, y.1 ≤ p.time.tick → x.1 ≤ y.1 := by
  simp only [Part.dueNow, List.mem_filter, List.all_eq_true, decide_eq_true_eq, and_assoc, and_imp]

/-- All that a taken STEP_COMMIT reports: an evaluation asked in every state, and in DRAINED the next state first (R38,
R58). -/
theorem Ev.commitReported_eq (v : Ev) :
    v.commitReported = { (if v.p.disp.seq = .drained then
      v.enterSeq (if v.p.fixtureCheck = none then .running else .paused) else v) with askEvaluate := true } := by
  cases h : v.p.disp.seq <;> simp [Ev.commitReported, h]

/-- Without streaming a record only joins the queue, and no block is filled (R171). -/
theorem ResultQueue.joined_unstreamed (q : ResultQueue) (r : ResultRecord) (h : q.block = 0) :
    q.joined r = { q with records := q.records ++ [r] } := if_neg (by omega)

theorem Part.filledBlock_unstreamed (p : Part) (r : ResultRecord) (h : p.queue.block = 0) : p.filledBlock r = [] :=
  if_neg (by omega)

/-- Outside a quiet phase the end of a step forms the held set and looks once. -/
theorem Part.stepRelay_of_not_quiet (p : Part) (e : EngineId) (h : (p.plan e).quiet = false) :
    p.stepRelay e = (p.relay.complete p.time e).look p.time.tick := by
  simp [Part.stepRelay, h]

end Sys2Proof.Machine
end

