-- ==== Sys2Proof/Laws/Outer.lean ====
section
/-! SUPPORT. What the engines, the Scanner and the Relay Sequencer never write: one lemma for each operation of
Machine/Relay.lean, Machine/Engine.lean and Machine/Scanner.lean says that the map, the interlock, the templates,
the Dispatcher, the Error Log, the link, the clock and the settings stand as before. -/

namespace Sys2Proof.Machine

/-- What those blocks never write. -/
structure Outer where
  map : FixtureMap
  lock : Interlock
  templates : List (Nat × List Nat)
  disp : Dispatcher
  log : ErrorLog
  link : LinkPort
  tick : Nat
  ref : RefState
  lossCount : Nat
  verification : Option Nat
  silent : Nat
  holdLimit : Nat
  block : Nat

/-- That of a part. -/
def Part.outer (p : Part) : Outer :=
  ⟨p.map, p.lock, p.templates, p.disp, p.log, p.link, p.time.tick, p.time.ref, p.time.lossCount,
   p.time.verification, p.time.silent, p.relay.holdLimit, p.queue.block⟩

theorem Part.steady_of_outer {p q : Part} (h : p.outer = q.outer) : p.steady = q.steady := by
  simp only [Part.outer, Outer.mk.injEq] at h
  obtain ⟨h1, h2, h3, h4, h5, h6, h7, h8, h9, h10, h11, h12, h13⟩ := h
  simp only [Part.steady, Part.settings, h1, h2, h3, h4, h6, h7, h8, h9, h10, h11, h12, h13]

theorem Part.disp_of_outer {p q : Part} (h : p.outer = q.outer) : p.disp = q.disp := congrArg Outer.disp h
theorem Part.log_of_outer {p q : Part} (h : p.outer = q.outer) : p.log = q.log := congrArg Outer.log h
theorem Part.map_of_outer {p q : Part} (h : p.outer = q.outer) : p.map = q.map := congrArg Outer.map h
theorem Part.tick_of_outer {p q : Part} (h : p.outer = q.outer) : p.time.tick = q.time.tick := congrArg Outer.tick h

/-! ### The Relay Sequencer keeps the hold limit -/

@[simp] theorem Relay.setCard_holdLimit (r : Relay) (c : Nat) (x : Card) : (r.setCard c x).holdLimit = r.holdLimit := rfl
@[simp] theorem Relay.unqueue_holdLimit (r : Relay) (c : Nat) : (r.unqueue c).holdLimit = r.holdLimit := rfl
@[simp] theorem Relay.markReady_holdLimit (r : Relay) (e : EngineId) : (r.markReady e).holdLimit = r.holdLimit := rfl
@[simp] theorem Relay.failCard_holdLimit (r : Relay) (c : Nat) : (r.failCard c).holdLimit = r.holdLimit := rfl
@[simp] theorem Relay.settleDue_holdLimit (r : Relay) (t : Nat) : (r.settleDue t).holdLimit = r.holdLimit := rfl

@[simp] theorem Relay.enqueue_holdLimit (r : Relay) (u : QueuedUpdate) : (r.enqueue u).holdLimit = r.holdLimit := by
  unfold Relay.enqueue; split <;> rfl

@[simp] theorem Relay.derive_holdLimit (r : Relay) (c : Nat) : (r.derive c).holdLimit = r.holdLimit := by
  unfold Relay.derive
  split
  · rfl
  · dsimp only
    split
    · rfl
    · simp

theorem Relay.foldl_derive_holdLimit (cs : List Nat) (r : Relay) :
    (cs.foldl Relay.derive r).holdLimit = r.holdLimit := by
  induction cs generalizing r with
  | nil => rfl
  | cons c cs ih => rw [List.foldl_cons, ih, Relay.derive_holdLimit]

@[simp] theorem Relay.deriveChanged_holdLimit (old r : Relay) :
    (Relay.deriveChanged old r).holdLimit = r.holdLimit := Relay.foldl_derive_holdLimit _ _

@[simp] theorem Relay.askAllOpen_holdLimit (r : Relay) : r.askAllOpen.holdLimit = r.holdLimit :=
  Relay.deriveChanged_holdLimit _ _

/-- Deriving an update writes the queue alone (R80). -/
theorem Relay.derive_queue_only (r : Relay) (c : Nat) : ∃ q, r.derive c = { r with queue := q } := by
  unfold Relay.derive
  split
  · exact ⟨r.queue, rfl⟩
  · dsimp only
    split
    · exact ⟨_, rfl⟩
    · unfold Relay.enqueue
      split <;> exact ⟨_, rfl⟩

theorem Relay.foldl_derive_queue_only (cs : List Nat) (r : Relay) : ∃ q, cs.foldl Relay.derive r = { r with queue := q } := by
  induction cs generalizing r with
  | nil => exact ⟨r.queue, rfl⟩
  | cons c cs ih =>
    obtain ⟨q, hq⟩ := r.derive_queue_only c
    obtain ⟨q', hq'⟩ := ih (r.derive c)
    exact ⟨q', by rw [List.foldl_cons, hq', hq]⟩

/-- All that ALL_OPEN's asking writes: the plans, the mark, and the queue (R93). -/
theorem Relay.askAllOpen_eq (r : Relay) : ∃ q, r.askAllOpen = { r with
    queue := q, allOpenPending := true, plans := r.plans.mapIdx (fun _ g =>
      { g with state := .none, wanted := [], held := [], hold := none }) } :=
  Relay.foldl_derive_queue_only _ _

@[simp] theorem Relay.deriveAtRest_holdLimit (r : Relay) (c : Nat) : (r.deriveAtRest c).holdLimit = r.holdLimit := by
  unfold Relay.deriveAtRest; split
  · rfl
  · simp

@[simp] theorem Relay.look_holdLimit (r : Relay) (t : Nat) : (r.look t).holdLimit = r.holdLimit := by
  unfold Relay.look
  split
  · rfl
  · split
    · rfl
    · split
      · rfl
      · split <;> rfl

@[simp] theorem Relay.plan_holdLimit (r : Relay) (e : EngineId) (ps : List Pair) :
    (r.plan e ps).1.holdLimit = r.holdLimit := by simp [Relay.plan]

@[simp] theorem Relay.releaseHeld_holdLimit (r : Relay) (e : EngineId) : (r.releaseHeld e).holdLimit = r.holdLimit := by
  simp [Relay.releaseHeld]

@[simp] theorem Relay.complete_holdLimit (r : Relay) (t : Timebase) (e : EngineId) :
    (r.complete t e).holdLimit = r.holdLimit := by
  unfold Relay.complete
  dsimp only
  split
  · split <;> simp
  · split <;> simp
  · simp
  · rfl

@[simp] theorem Relay.releaseAll_holdLimit (r : Relay) (f : EngineId → Bool) :
    (r.releaseAll f).holdLimit = r.holdLimit := by simp [Relay.releaseAll]

@[simp] theorem Relay.endAllOpen_holdLimit (r : Relay) (t : Timebase) : (r.endAllOpen t).holdLimit = r.holdLimit := by
  simp [Relay.endAllOpen, Relay.foldl_derive_holdLimit]

/-! ### Updates of the part -/

theorem Part.outer_relay (p : Part) (r : Relay) (h : r.holdLimit = p.relay.holdLimit) :
    ({ p with relay := r } : Part).outer = p.outer := by simp [Part.outer, h]

theorem Part.outer_queue (p : Part) (q : ResultQueue) (h : q.block = p.queue.block) :
    ({ p with queue := q } : Part).outer = p.outer := by simp [Part.outer, h]

@[simp] theorem Part.outer_setEngine (p : Part) (e : EngineId) (g : Engine) : (p.setEngine e g).outer = p.outer := rfl
@[simp] theorem Part.outer_setPlan (p : Part) (e : EngineId) (g : EnginePlan) : (p.setPlan e g).outer = p.outer := rfl
@[simp] theorem Part.outer_setCapture (p : Part) (e : EngineId) (c : Capture) : (p.setCapture e c).outer = p.outer := rfl
@[simp] theorem Part.outer_disarm (p : Part) (e : EngineId) : (p.disarm e).outer = p.outer := rfl
@[simp] theorem Part.outer_reserve (p : Part) : p.reserve.outer = p.outer := rfl
@[simp] theorem Part.outer_slotDone (p : Part) (i : Nat) : (p.slotDone i).outer = p.outer := rfl
@[simp] theorem Part.outer_onRing (p : Part) (f : Ring → Ring) : (p.onRing f).outer = p.outer := rfl
@[simp] theorem Part.outer_choose (p : Part) (n : Nat) : (p.choose n).2.outer = p.outer := rfl
@[simp] theorem Part.outer_takeBlock (p : Part) (n : Nat) (r : BlockReason) : (p.takeBlock n r).2.outer = p.outer := rfl

theorem Part.outer_freeOrderAux {α : Type} (n : Nat) (p : Part) (l : List α) :
    (freeOrderAux n p l).2.outer = p.outer := by
  induction n generalizing p l with
  | zero => rfl
  | succ n ih =>
    cases l with
    | nil => rfl
    | cons a l =>
      cases l with
      | nil => rfl
      | cons b l => exact (ih (p.choose 0).2 _).trans rfl

@[simp] theorem Part.outer_freeOrder {α : Type} (p : Part) (l : List α) : (freeOrder p l).2.outer = p.outer :=
  Part.outer_freeOrderAux _ _ _

/-! ### Events: results -/

@[simp] theorem Ev.outer_formBlocks (n : Nat) (v : Ev) : (v.formBlocks n).p.outer = v.p.outer := by
  induction n generalizing v with
  | zero => rfl
  | succ n ih =>
    unfold Ev.formBlocks
    split
    · rw [ih]; rfl
    · rfl

@[simp] theorem Ev.outer_append (v : Ev) (r : ResultRecord) : (v.append r).p.outer = v.p.outer := by
  unfold Ev.append
  dsimp only
  rw [Ev.outer_formBlocks]
  rfl

@[simp] theorem Ev.outer_appendFinal (v : Ev) (r : ResultRecord) : (v.appendFinal r).p.outer = v.p.outer := by
  unfold Ev.appendFinal
  rw [Ev.outer_append]
  rfl

@[simp] theorem Ev.outer_handRemainder (v : Ev) : v.handRemainder.p.outer = v.p.outer := by
  unfold Ev.handRemainder; split <;> rfl

/-! ### Events: the engines -/

@[simp] theorem Ev.outer_onEngine (v : Ev) (e : EngineId) (f : Engine → Engine) :
    (v.onEngine e f).p.outer = v.p.outer := rfl

@[simp] theorem Ev.outer_onScanner (v : Ev) (f : Scanner → Scanner) : (v.onScanner f).p.outer = v.p.outer := rfl

@[simp] theorem Ev.outer_look (v : Ev) : v.look.p.outer = v.p.outer := Part.outer_relay _ _ (by simp)

@[simp] theorem Ev.outer_enterSampling (v : Ev) (e : EngineId) (ph : Phase) :
    (v.enterSampling e ph).p.outer = v.p.outer := by
  unfold Ev.enterSampling
  dsimp only
  split <;> rfl

@[simp] theorem Ev.outer_stillReport (v : Ev) (e : EngineId) : (v.stillReport e).p.outer = v.p.outer := by
  unfold Ev.stillReport
  dsimp only
  split
  · split <;> simp
  · rfl

theorem Ev.outer_foldl {β : Type} (f : Ev → β → Ev) (hf : ∀ v b, (f v b).p.outer = v.p.outer) (l : List β) (v : Ev) :
    (l.foldl f v).p.outer = v.p.outer := by
  induction l generalizing v with
  | nil => rfl
  | cons b l ih => rw [List.foldl_cons, ih, hf]

@[simp] theorem Ev.outer_tellStill (v : Ev) : v.tellStill.p.outer = v.p.outer :=
  Ev.outer_foldl _ Ev.outer_stillReport _ _

@[simp] theorem Ev.outer_settleLink (v : Ev) : v.settleLink.p.outer = v.p.outer := by
  unfold Ev.settleLink
  split
  · dsimp only
    split
    · simp
    · simp
  · dsimp only
    split <;> simp

@[simp] theorem Ev.outer_askStill (v : Ev) (e : EngineId) : (v.askStill e).p.outer = v.p.outer := by
  unfold Ev.askStill
  dsimp only
  split <;> simp

@[simp] theorem Ev.outer_leaveQuiet (v : Ev) (e : EngineId) : (v.leaveQuiet e).p.outer = v.p.outer := by
  unfold Ev.leaveQuiet
  split <;> simp

@[simp] theorem Ev.outer_enterSettle (v : Ev) (e : EngineId) : (v.enterSettle e).p.outer = v.p.outer := rfl

@[simp] theorem Ev.outer_enterDischarge (v : Ev) (e : EngineId) (ph : Phase) :
    (v.enterDischarge e ph).p.outer = v.p.outer := rfl

@[simp] theorem Ev.outer_connectionReady (v : Ev) (e : EngineId) : (v.connectionReady e).p.outer = v.p.outer := by
  unfold Ev.connectionReady
  dsimp only
  split
  · split
    · rfl
    · split
      all_goals (repeat' split)
      all_goals simp
  · rfl

@[simp] theorem Ev.outer_judgeReady (v : Ev) (e : EngineId) : (v.judgeReady e).p.outer = v.p.outer := by
  unfold Ev.judgeReady
  split
  · rw [Ev.outer_connectionReady]; exact Part.outer_relay _ _ (by simp)
  · rfl

@[simp] theorem Ev.outer_judgeAllReady (v : Ev) : v.judgeAllReady.p.outer = v.p.outer :=
  Ev.outer_foldl _ Ev.outer_judgeReady _ _

@[simp] theorem Ev.outer_sendPlan (v : Ev) (e : EngineId) (ps : List Pair) :
    (v.sendPlan e ps).1.p.outer = v.p.outer := by
  unfold Ev.sendPlan
  dsimp only
  rw [Ev.outer_look]
  exact Part.outer_relay _ _ (by simp)

@[simp] theorem Ev.outer_turnOff (v : Ev) (e : EngineId) : (v.turnOff e).p.outer = v.p.outer := by
  unfold Ev.turnOff; simp

@[simp] theorem Ev.outer_completeStep (v : Ev) (e : EngineId) (f : Formed) (cause : Option Cause)
    (card : Option Nat) (faulted : Bool) : (v.completeStep e f cause card faulted).p.outer = v.p.outer := by
  unfold Ev.completeStep
  split
  · rfl
  · dsimp only
    split <;> simp

@[simp] theorem Ev.outer_afterOpen (v : Ev) (e : EngineId) : (v.afterOpen e).p.outer = v.p.outer := by
  unfold Ev.afterOpen
  dsimp only
  split
  · rfl
  · split <;> simp

@[simp] theorem Ev.outer_endRamp (v : Ev) (e : EngineId) (f : Formed) (d : Bool) :
    (v.endRamp e f d).p.outer = v.p.outer := rfl

@[simp] theorem Ev.outer_takeCapture (v : Ev) (e : EngineId) : (v.takeCapture e).p.outer = v.p.outer := by
  unfold Ev.takeCapture
  dsimp only
  split <;> simp

@[simp] theorem Ev.outer_enterRamp (v : Ev) (e : EngineId) (c : Bool) : (v.enterRamp e c).p.outer = v.p.outer := by
  unfold Ev.enterRamp
  split
  · rfl
  · dsimp only
    split <;> simp

/-! ### Events: the Scanner -/

@[simp] theorem Ev.outer_endScan (v : Ev) (verdict : Verdict) (cause : Option Cause) (card : Option Nat)
    (faulted : Bool) : (v.endScan verdict cause card faulted).p.outer = v.p.outer := by
  unfold Ev.endScan
  split
  · rfl
  · dsimp only
    split <;> simp

@[simp] theorem Ev.outer_endScanNormally (v : Ev) : v.endScanNormally.p.outer = v.p.outer := by
  unfold Ev.endScanNormally; simp

@[simp] theorem Ev.outer_startTest (v : Ev) (purpose : TestPurpose) (first last : Nat) :
    (v.startTest purpose first last).p.outer = v.p.outer := by
  unfold Ev.startTest
  dsimp only
  split
  · split
    · simp
    · split
      · simp
      · simp
  · rfl

@[simp] theorem Ev.outer_appendPair (v : Ev) (partner : Nat) (x : Evidence) :
    (v.appendPair partner x).1.p.outer = v.p.outer := by
  unfold Ev.appendPair
  dsimp only
  split
  · rfl
  · split <;> simp

@[simp] theorem Ev.outer_reportPartner (v : Ev) (partner : Nat) (x : Evidence) :
    (v.reportPartner partner x).1.p.outer = v.p.outer := by
  unfold Ev.reportPartner
  split
  · simp
  · dsimp only
    split <;> simp

@[simp] theorem Ev.outer_takeKnownShort (v : Ev) (entry : StackEntry) (x : Evidence) :
    (v.takeKnownShort entry x).1.p.outer = v.p.outer := by
  unfold Ev.takeKnownShort
  split
  · rfl
  · simp
  · simp

@[simp] theorem Ev.outer_nextWorkAux (n : Nat) (v : Ev) : (v.nextWorkAux n).p.outer = v.p.outer := by
  induction n generalizing v with
  | zero => rfl
  | succ n ih =>
    unfold Ev.nextWorkAux
    dsimp only
    split
    · split
      · split
        · rw [ih]; simp
        · simp
      · split
        · rw [ih]; simp
        · simp
    · split
      · simp
      · split <;> simp

@[simp] theorem Ev.outer_nextWork (v : Ev) : v.nextWork.p.outer = v.p.outer := by unfold Ev.nextWork; simp

@[simp] theorem Ev.outer_push (v : Ev) (x : StackEntry) : (v.push x).p.outer = v.p.outer := rfl

@[simp] theorem Ev.outer_testReport (v : Ev) (report : TestReport) : (v.testReport report).p.outer = v.p.outer := by
  unfold Ev.testReport
  dsimp only
  split
  · split
    all_goals (try simp)
    split <;> simp
  · rfl

@[simp] theorem Ev.outer_scannerRemoval (v : Ev) : v.scannerRemoval.p.outer = v.p.outer := by
  unfold Ev.scannerRemoval
  dsimp only
  split
  · split
    · split <;> simp
    · rfl
  · rfl

@[simp] theorem Ev.outer_startScan (v : Ev) (info : ScanInfo) : (v.startScan info).p.outer = v.p.outer := by
  unfold Ev.startScan; simp

/-! ### Arrivals and aborts -/

@[simp] theorem Ev.outer_cardFault (v : Ev) (e : EngineId) (c : Nat) : (v.cardFault e c).p.outer = v.p.outer := by
  unfold Ev.cardFault
  dsimp only
  split
  · split <;> simp
  · rfl

@[simp] theorem Ev.outer_nextRequest (v : Ev) (e : EngineId) : (v.nextRequest e).p.outer = v.p.outer := by
  unfold Ev.nextRequest
  split <;> simp

@[simp] theorem Ev.outer_endIntegrate (v : Ev) (e : EngineId) : (v.endIntegrate e).p.outer = v.p.outer := by
  unfold Ev.endIntegrate
  dsimp only
  split
  · rfl
  · split <;> simp

@[simp] theorem Ev.outer_sampleArrives (e : EngineId) (q : Nat) (code : Int) (v : Ev) :
    (v.sampleArrives e q code).p.outer = v.p.outer := by
  unfold Ev.sampleArrives
  dsimp only
  split
  · split
    · split <;> simp
    · split <;> simp
    · rfl
  · rfl

@[simp] theorem Ev.outer_complianceReported (e : EngineId) (v : Ev) :
    (v.complianceReported e).p.outer = v.p.outer := by
  unfold Ev.complianceReported
  dsimp only
  split
  · rfl
  · split
    · simp
    · split <;> simp

@[simp] theorem Ev.outer_crossed (e : EngineId) (v : Ev) : (v.crossed e).p.outer = v.p.outer := by
  unfold Ev.crossed
  dsimp only
  split
  · simp
  · rfl

@[simp] theorem Ev.outer_abortNow (v : Ev) (e : EngineId) (cause : Cause) :
    (v.abortNow e cause).p.outer = v.p.outer := by
  unfold Ev.abortNow
  dsimp only
  split <;> simp

@[simp] theorem Ev.outer_abortWithDischarge (cause : Cause) (v : Ev) (e : EngineId) :
    (v.abortWithDischarge cause e).p.outer = v.p.outer := by
  unfold Ev.abortWithDischarge
  dsimp only
  split
  · rfl
  · split <;> simp

@[simp] theorem Ev.outer_abortWithoutDischarge (cause : Cause) (v : Ev) (e : EngineId) :
    (v.abortWithoutDischarge cause e).p.outer = v.p.outer := by
  unfold Ev.abortWithoutDischarge
  split <;> simp

theorem Ev.outer_abortAll (v : Ev) (abort : Ev → EngineId → Ev) (h : ∀ v e, (abort v e).p.outer = v.p.outer) :
    (v.abortAll abort).p.outer = v.p.outer := by
  unfold Ev.abortAll Ev.activeEngines
  dsimp only
  rw [Ev.outer_foldl abort h]
  exact Part.outer_freeOrder _ _

@[simp] theorem Ev.outer_releaseAll (v : Ev) : v.releaseAll.p.outer = v.p.outer := by
  unfold Ev.releaseAll
  rw [Ev.outer_look]
  exact Part.outer_relay _ _ (by simp)

end Sys2Proof.Machine
end

