-- ==== Sys2Proof/Laws/Steady.lean ====
section
/-! SUPPORT. What the Dispatcher and the close of an event never write: the settings, the interlock, the link
but for the frames handed, and the clock (`Part.steady`). -/

namespace Sys2Proof.Machine

/-! ### Updates of the part -/

@[simp] theorem Part.steady_setNail (p : Part) (n : Nat) (x : NailEntry) : (p.setNail n x).steady = p.steady := rfl
@[simp] theorem Part.steady_setEntry (p : Part) (e : EngineId) (x : Option Entry) :
    (p.setEntry e x).steady = p.steady := rfl
@[simp] theorem Part.steady_setEngine (p : Part) (e : EngineId) (g : Engine) : (p.setEngine e g).steady = p.steady := rfl
@[simp] theorem Part.steady_reserve (p : Part) : p.reserve.steady = p.steady := rfl
@[simp] theorem Part.steady_slotDone (p : Part) (i : Nat) : (p.slotDone i).steady = p.steady := rfl

@[simp] theorem Part.steady_endWaitingDirect (p : Part) (cause : Cause) :
    (p.endWaitingDirect cause).steady = p.steady := by
  unfold Part.endWaitingDirect
  split
  · split <;> rfl
  · rfl

theorem Part.steady_foldl_setNail (f : Part → Nat → Part) (hf : ∀ p n, (f p n).steady = p.steady) (l : List Nat)
    (p : Part) : (l.foldl f p).steady = p.steady := by
  induction l generalizing p with
  | nil => rfl
  | cons n l ih => rw [List.foldl_cons, ih, hf]

@[simp] theorem Part.steady_markReplaced (p : Part) (x : Entry) (verdict : Verdict) :
    (p.markReplaced x verdict).steady = p.steady := by
  unfold Part.markReplaced
  split
  · apply Part.steady_foldl_setNail
    intro p n
    dsimp only
    split <;> rfl
  · rfl

@[simp] theorem Part.steady_beginStep (p : Part) (e : EngineId) (x : Entry) : (p.beginStep e x).steady = p.steady := by
  unfold Part.beginStep
  dsimp only
  split <;> rfl

/-! ### Operations of the event -/

@[simp] theorem Ev.steady_look (v : Ev) : v.look.p.steady = v.p.steady := Part.steady_of_outer v.outer_look
@[simp] theorem Ev.steady_onEngine (v : Ev) (e : EngineId) (f : Engine → Engine) :
    (v.onEngine e f).p.steady = v.p.steady := rfl
@[simp] theorem Ev.steady_judgeReady (v : Ev) (e : EngineId) : (v.judgeReady e).p.steady = v.p.steady :=
  Part.steady_of_outer (v.outer_judgeReady e)
@[simp] theorem Ev.steady_judgeAllReady (v : Ev) : v.judgeAllReady.p.steady = v.p.steady :=
  Part.steady_of_outer v.outer_judgeAllReady
@[simp] theorem Ev.steady_settleLink (v : Ev) : v.settleLink.p.steady = v.p.steady :=
  Part.steady_of_outer v.outer_settleLink
@[simp] theorem Ev.steady_sendPlan (v : Ev) (e : EngineId) (ps : List Pair) :
    (v.sendPlan e ps).1.p.steady = v.p.steady := Part.steady_of_outer (v.outer_sendPlan e ps)
@[simp] theorem Ev.steady_startScan (v : Ev) (info : ScanInfo) : (v.startScan info).p.steady = v.p.steady :=
  Part.steady_of_outer (v.outer_startScan info)
@[simp] theorem Ev.steady_formBlocks (v : Ev) (n : Nat) : (v.formBlocks n).p.steady = v.p.steady :=
  Part.steady_of_outer (Ev.outer_formBlocks n v)
@[simp] theorem Ev.steady_appendFinal (v : Ev) (r : ResultRecord) : (v.appendFinal r).p.steady = v.p.steady :=
  Part.steady_of_outer (v.outer_appendFinal r)
@[simp] theorem Ev.steady_handRemainder (v : Ev) : v.handRemainder.p.steady = v.p.steady :=
  Part.steady_of_outer v.outer_handRemainder
@[simp] theorem Ev.steady_scannerRemoval (v : Ev) : v.scannerRemoval.p.steady = v.p.steady :=
  Part.steady_of_outer v.outer_scannerRemoval
@[simp] theorem Ev.steady_releaseAll (v : Ev) : v.releaseAll.p.steady = v.p.steady :=
  Part.steady_of_outer v.outer_releaseAll
@[simp] theorem Ev.steady_cardFault (v : Ev) (e : EngineId) (c : Nat) : (v.cardFault e c).p.steady = v.p.steady :=
  Part.steady_of_outer (v.outer_cardFault e c)

@[simp] theorem Ev.steady_enterSeq (v : Ev) (st : SeqState) : (v.enterSeq st).p.steady = v.p.steady := by
  unfold Ev.enterSeq
  dsimp only
  split <;> rfl

@[simp] theorem Ev.steady_haltingError (v : Ev) (r : ErrorRecord) : (v.haltingError r).p.steady = v.p.steady := by
  unfold Ev.haltingError
  dsimp only
  split <;> rfl

@[simp] theorem Ev.steady_judgeStopped (v : Ev) : v.judgeStopped.p.steady = v.p.steady := by
  unfold Ev.judgeStopped
  split <;> simp

@[simp] theorem Ev.steady_judgeState (v : Ev) : v.judgeState.p.steady = v.p.steady := by
  unfold Ev.judgeState
  split
  all_goals (try split)
  all_goals simp

@[simp] theorem Ev.steady_pauseAfter (v : Ev) (c : Completion) : (v.pauseAfter c).p.steady = v.p.steady := by
  unfold Ev.pauseAfter
  split <;> simp

@[simp] theorem Ev.steady_judgeStep (v : Ev) (c : Completion) : (v.judgeStep c).p.steady = v.p.steady := by
  unfold Ev.judgeStep
  dsimp only
  split
  · rw [Ev.steady_judgeState, Ev.steady_pauseAfter]
    split <;> simp
  · rfl

theorem Part.steady_complete (p : Part) (e : EngineId) :
    ({ p with relay := p.relay.complete p.time e } : Part).steady = p.steady :=
  Part.steady_of_outer (Part.outer_relay p _ (by simp))

@[simp] theorem Ev.steady_releaseStep (v : Ev) (c : Completion) : (v.releaseStep c).p.steady = v.p.steady := by
  have h : ∀ w : Ev, (((w.map fun p => p.setEntry c.engine none).map fun p =>
      { p with relay := p.relay.complete p.time c.engine }).look).p.steady = w.p.steady := by
    intro w
    rw [Ev.steady_look, Ev.map_p, Part.steady_complete]
    rfl
  have hm : (match v.p.disp.inFlight.get c.engine with
      | some x => v.map fun p => p.markReplaced x c.verdict
      | none => v).p.steady = v.p.steady := by
    split <;> simp
  unfold Ev.releaseStep
  dsimp only
  split
  · split
    · exact (h _).trans hm
    · exact (h _).trans hm
  · exact (h _).trans hm

theorem Ev.steady_foldl {β : Type} (f : Ev → β → Ev) (hf : ∀ v b, (f v b).p.steady = v.p.steady) (l : List β)
    (v : Ev) : (l.foldl f v).p.steady = v.p.steady := by
  induction l generalizing v with
  | nil => rfl
  | cons b l ih => rw [List.foldl_cons, ih, hf]

@[simp] theorem Ev.steady_takeCompletion (v : Ev) (c : Completion) : (v.takeCompletion c).p.steady = v.p.steady := by
  unfold Ev.takeCompletion; simp

theorem Ev.steady_takeAll (v : Ev) (f : Ev → Ev) (hf : ∀ w, (f w).p.steady = w.p.steady) :
    (v.takeAll f).p.steady = v.p.steady := by
  unfold Ev.takeAll
  dsimp only
  rw [Ev.steady_foldl _ Ev.steady_judgeStep, hf, Ev.steady_foldl _ Ev.steady_releaseStep]

theorem Ev.steady_abortAll (v : Ev) (abort : Ev → EngineId → Ev) (h : ∀ v e, (abort v e).p.outer = v.p.outer) :
    (v.abortAll abort).p.steady = v.p.steady := Part.steady_of_outer (v.outer_abortAll abort h)

/-! ### Evaluation and the close -/

@[simp] theorem Ev.steady_dispatch (v : Ev) (e : EngineId) (origin : Option Nat) (r : StepRecord) :
    (v.dispatch e origin r).p.steady = v.p.steady := by
  unfold Ev.dispatch
  dsimp only
  split
  · simp
  · split
    · rfl
    · simp

@[simp] theorem Ev.steady_endDirect (v : Ev) (r : StepRecord) (verdict : Verdict) (cause : Cause) :
    (v.endDirect r verdict cause).p.steady = v.p.steady := by
  unfold Ev.endDirect
  dsimp only
  exact (Ev.steady_appendFinal _ _).trans rfl

@[simp] theorem Ev.steady_judgeDirect (v : Ev) : v.judgeDirect.p.steady = v.p.steady := by
  unfold Ev.judgeDirect
  dsimp only
  split
  · split
    · split <;> simp
    · split
      · rfl
      · split
        · split <;> simp
        · split
          · split <;> simp
          · rfl
  · rfl

@[simp] theorem Ev.steady_judgeFailure (v : Ev) : v.judgeFailure.p.steady = v.p.steady := by
  unfold Ev.judgeFailure
  dsimp only
  split
  · split
    · rfl
    · split
      · split
        · rfl
        · split <;> simp
      · rfl
  · rfl

@[simp] theorem Ev.steady_dispatchEligible (n : Nat) (v : Ev) : (v.dispatchEligible n).p.steady = v.p.steady := by
  induction n generalizing v with
  | zero => rfl
  | succ n ih =>
    unfold Ev.dispatchEligible
    split
    · rfl
    · split
      · rfl
      · rw [ih, Ev.steady_dispatch]

@[simp] theorem Ev.steady_evaluate (v : Ev) : v.evaluate.p.steady = v.p.steady := by
  unfold Ev.evaluate; simp

@[simp] theorem Ev.steady_settle (n : Nat) (v : Ev) : (v.settle n).p.steady = v.p.steady := by
  induction n generalizing v with
  | zero => rfl
  | succ n ih =>
    unfold Ev.settle
    split
    · rw [ih, Ev.steady_takeCompletion]
    · split
      · rw [ih, Ev.steady_scannerRemoval]
      · split
        · rw [ih, Ev.steady_evaluate]
        · split
          · rw [ih, Ev.steady_handRemainder]
          · rfl

/-- The close of an event adds frames to the link's transmit list and otherwise keeps what is steady. -/
theorem Ev.steady_close (v : Ev) :
    v.close.steady = { v.p.steady with link := ((v.settle settleFuel).p.hand (v.settle settleFuel).frames).link } ∧
      (v.settle settleFuel).p.link = v.p.link := by
  have h := Ev.steady_settle settleFuel v
  refine ⟨?_, congrArg Steady.link h⟩
  unfold Ev.close
  dsimp only
  rw [← h]
  unfold Part.hand
  split <;> rfl

theorem Ev.settings_close (v : Ev) : v.close.settings = v.p.settings := congrArg Steady.settings v.steady_close.1
theorem Ev.lock_close (v : Ev) : v.close.lock = v.p.lock := congrArg Steady.lock v.steady_close.1
theorem Ev.tick_close (v : Ev) : v.close.time.tick = v.p.time.tick := congrArg Steady.tick v.steady_close.1
theorem Ev.ref_close (v : Ev) : v.close.time.ref = v.p.time.ref := congrArg Steady.ref v.steady_close.1

end Sys2Proof.Machine
end

