-- ==== Sys2Proof/WellFormed.lean ====
section
/-! DEFINITION. Which commands are well formed: what the outside can in fact send. -/

namespace Sys2Proof

/-- A body fits a payload of 2 to 1,040 bytes that begins with number and kind (section 10.1). -/
def bodyFits (body : List Byte) : Bool := body.length ≤ 1038

/-- The check of each command's operands. -/
def Instr.wellFormed : Instr → Bool
  | .powerOn => true
  | .frameReceived _ => true
  | .interByteLimit => true
  | .frameSent => true
  | .badKindRequest _ kind body => bodyFits body && (requestKindOf kind.toNat).isNone
  | .mapCursor _ body => bodyFits body
  | .mapNails _ body => bodyFits body
  | .mapRead _ body => bodyFits body
  | .mapNetattr _ body => bodyFits body
  | .mapIdentity _ body => bodyFits body
  | .mapFreeze _ body => bodyFits body
  | .mapClear _ body => bodyFits body
  | .mapUnmark _ body => bodyFits body
  | .fixtureQuery _ body => bodyFits body
  | .stepWrite _ body => bodyFits body
  | .stepRead _ body => bodyFits body
  | .stepCommit _ body => bodyFits body
  | .ringReset _ body => bodyFits body
  | .templateWrite _ body => bodyFits body
  | .templateRead _ body => bodyFits body
  | .run _ body => bodyFits body
  | .pause _ body => bodyFits body
  | .resume _ body => bodyFits body
  | .stop _ body => bodyFits body
  | .status _ body => bodyFits body
  | .directStep _ body => bodyFits body
  | .relayQuery _ body => bodyFits body
  | .engineClear _ body => bodyFits body
  | .resultsRead _ body => bodyFits body
  | .errlogRead _ body => bodyFits body
  | .timeRead _ body => bodyFits body
  | .describe _ body => bodyFits body
  | .pace _ body => bodyFits body
  | .partReset _ body => bodyFits body
  | .rawLineChange _ _ => true
  | .debounceComplete _ => true
  | .identityReadEnd .notAcknowledged => true
  | .identityReadEnd (.bytes read) => read.length == 9
  | .identityReadLimit => true
  | .referenceEdge => true
  | .referenceLoss => true
  | .verificationComplete => true
  | .enumerationQueryEnd _ => true
  | .cardAcknowledgement => true
  | .cardAckTimeout => true
  | .relayMotionEnd card => card < Config.cards
  | .allOpenEnd => true
  | .holdExpiry _ => true
  | .sample _ _ _ => true
  | .sampleIntervalComplete _ => true
  | .sampleTimeout _ => true
  | .compliance _ => true
  | .thresholdCrossing _ => true
  | .settleComplete _ => true
  | .dischargeComplete _ _ => true
  | .rampLimit _ => true
  | .postDischargeComplete _ => true
  | .abortDischargeComplete _ => true
  | .replanRequest _ => true
  | .replanAnswer _ => true
  | .receivedByte _ => true

end Sys2Proof
end

