-- ==== Sys2Proof/Tests/Slice0.lean ====
section
/-! SUPPORT. The author's own checks: the smoke of WellFormed, worked figures of the spec, one command each on a small
state, and for each statement of Certificates/Slice0/Obligations.lean with hypotheses a state that meets them. -/

namespace Sys2Proof.Tests

open Sys2Proof Sys2Proof.Machine

-- One theorem at a time: as many threads as theorems, each with its own stack, would pass the memory limit.
set_option Elab.async false

/-! ### Small states -/

/-- The state that serves requests with a part. -/
def served (p : Part) : State := ⟨{ p with link := { p.link with mode := .serving } }, []⟩

/-- The part of the state after a command. -/
def after (c : Instr) (s : State) : Part :=
  match exec c s with
  | .next t => t.part
  | .fault _ => s.part
  | .refused _ => s.part

/-- The reset part in a sequencer state. -/
def inSeq (p : Part) (st : SeqState) : Part := { p with disp := { p.disp with seq := st } }

/-- A part with a FROZEN map that declares the identity 5. -/
def frozen (p : Part) : Part := { p with map := { p.map with state := .frozen, declared := some 5 } }

/-- A part with the fixture of identity 5 docked and its vacuum good. -/
def docked (p : Part) : Part :=
  { p with lock := ⟨true, true, .known 5, none, none, ⟨true, true, none⟩, ⟨true, true, none⟩⟩ }

/-- A part with every result record reserved, so that none is free. -/
def noRecord (p : Part) : Part := { p with queue := { p.queue with reserved := 512 } }

/-- A part with cards 0 to 3 READY and open. -/
def withCards (p : Part) : Part :=
  { p with relay := { p.relay with link := .idle, cards := [0, 1, 2, 3].map fun c => (c, ⟨.ready, ⟨none, none⟩, [], 0⟩) } }

/-- A measurement step on nets 1 and 2, engine 0. -/
def plainStep : StepRecord :=
  ⟨7, .res2, 255, 1, 2, 3, 0, 0, 2, 20, 100, 500000, 20, 3, 1, 0, 1000, 0x40⟩

/-- Nets 1 and 2 with a nail each on card 0. -/
def twoNets (p : Part) : Part := { p with map := { p.map with nails := [(5, ⟨1, .good⟩), (6, ⟨2, .good⟩)] } }

/-- The nails of that step. -/
def plainNails : Nails := ⟨5, 5, 6, 6, []⟩

/-- An engine that runs that step in a phase. -/
def running (r : StepRecord) (origin : Option Nat) (ph : Phase) : Engine :=
  { Engine.reset with state := .active, phase := some ph,
                      work := some ⟨origin, r, if r.kind = .scan then none else some plainNails, false, false⟩,
                      effCurrent := 3, n := 2, settle := 20, discharge := 100, parted := false }

/-- The in-flight entry of that step. -/
def flying (r : StepRecord) (origin : Option Nat) : Entry :=
  ⟨origin, r, [1, 2], [], if r.kind = .scan then none else some plainNails, false, false, false, [], none⟩

/-- A part whose engine 0 runs a step of slot 0 in a phase, changed as `f` says. -/
def measuring (r : StepRecord) (ph : Phase) (f : Engine → Engine) : Part :=
  let p := (inSeq (frozen (twoNets (withCards Part.fresh))) .running).setEngine .me0 (f (running r (some 0) ph))
  { p.setEntry .me0 (some (flying r (some 0))) with
    ring := ⟨[(0, ⟨.active, some r⟩)], 0, 1, 1⟩
    queue := { p.queue with reserved := 1 } }

theorem served_serving (p : Part) (n : Byte) (hn : n ≠ 0) (h1 : p.link.inProgress = none) (h2 : p.link.buffer = [])
    (h3 : p.disp.seq ≠ .stopping) : (served p).Serving n := ⟨rfl, h1, h2, h3, hn⟩

theorem served_idle (p : Part) (n : Byte) (hn : n ≠ 0) (h1 : p.link.inProgress = none) (h2 : p.link.buffer = []) :
    (served p).LinkIdle n := ⟨h1, h2, hn⟩

/-! ### WellFormed -/

theorem test_wellFormed_refuses :
    (Instr.mapCursor 1 (List.replicate 1039 0)).wellFormed = false ∧
    (Instr.mapCursor 1 (List.replicate 1038 0)).wellFormed = true ∧
    (Instr.badKindRequest 1 0x10 []).wellFormed = false ∧ (Instr.badKindRequest 1 0x19 []).wellFormed = true ∧
    (Instr.badKindRequest 1 0x19 (List.replicate 1039 0)).wellFormed = false ∧
    (Instr.identityReadEnd (.bytes [1, 2, 3])).wellFormed = false ∧
    (Instr.identityReadEnd (.bytes (List.replicate 9 0))).wellFormed = true ∧
    (Instr.relayMotionEnd 64).wellFormed = false ∧ (Instr.relayMotionEnd 63).wellFormed = true := by decide +kernel

theorem test_no_word_spells_a_command : decodeTableWord 8 0x10 = none ∧ decodeTableWord 0 0 = none := ⟨rfl, rfl⟩

theorem test_withFetchWord : State.reset.withFetchWord 8 0x10 = State.reset := rfl

/-! ### Figures of the spec -/

/-- R183. -/
theorem test_crc : crc16 [0x31, 0x32, 0x33, 0x34, 0x35, 0x36, 0x37, 0x38, 0x39] = 0x29B1#16 := by decide +kernel

/-- The table of section 5.3. -/
theorem test_lengthened :
    [2000, 5000, 14000, 25000, 6553500, 1000000000, 0].map lengthen =
      [2125, 5313, 14875, 26563, 6963094, 1062500000, 0] := by decide +kernel

/-- Case 1 of section 7.7. -/
theorem test_case1 :
    formIntegrated { plainStep with kind := .res4, gain := 1, lowLimit := 45000, highLimit := 49500 } 3 1248 4 30277005
      16 false = ⟨.pass, some 47300⟩ := by decide +kernel

/-- Cases 2, 5 and 6 of section 7.7. -/
theorem test_cases :
    divHalfAway (-5) 2 = -3 ∧ resistance (-3) 2 4 = 0 ∧ resistance 400000 0 2 = 1000000 ∧
    diodeVoltage (divHalfAway 20800013 8) 0 = 650001 ∧ capacitance 1 23512345 500000 = 4702469 ∧
    resistance (-300) 2 0 = -750 ∧ capacitance 0 3 20000 = 2 ∧
    formCapture { plainStep with kind := .cap, threshold := 1000 } 4 50000 = ⟨.overrange, none⟩ ∧
    formIntegrated plainStep 3 (-20000000) 4 4000000 1 false = ⟨.overrange, none⟩ := by decide +kernel

/-- Section 2.6: commits near the wrap. -/
theorem test_commits_near_the_wrap :
    let r : Ring := ⟨[], 10, 1020, 1020⟩
    r.live = 1010 ∧ r.commitCount 9 = 13 ∧ r.commitCount 10 = 14 ∧ r.commitCount 500 = 504 ∧
    r.isLive 9 = false ∧ r.isLive 10 = true ∧ r.isLive 1019 = true := by decide +kernel

/-- The example of section 1.3. -/
def mapExample : Part :=
  { withCards Part.fresh with
    map := ⟨(List.range 7).map (fun i => (10 + i, ⟨52, .good⟩)) ++ [(65, ⟨40, .good⟩), (129, ⟨41, .good⟩), (130, ⟨40, .suspect⟩)],
      [], .editable, 128, none⟩ }

theorem test_mapNails :
    let p := after (.mapNails 1 [4, 41, 0, 0, 40, 0, 0, 0, 0, 0, 41, 0, 2]) (served mapExample)
    p.nailsOf 40 = [65, 129] ∧ p.nailsOf 41 = [128, 131] ∧ p.nail 130 = ⟨0, .good⟩ ∧ p.nail 131 = ⟨41, .disabled⟩ ∧
    p.map.cursor = 132 := by decide +kernel

/-- Section 4.6: the two stages of a takeover. -/
theorem test_two_stages :
    let present : Image := ⟨some .me1, [⟨330, .sh⟩, ⟨330, .kh⟩, ⟨331, .sl⟩, ⟨331, .kl⟩]⟩
    let target : Image := ⟨some .me0, [⟨331, .sh⟩, ⟨331, .kh⟩]⟩
    nextUpdate present target = (⟨none, []⟩, .stageA) ∧ nextUpdate ⟨none, []⟩ target = (target, .final) := by
  decide +kernel

/-- Section 8.8: the evidence of tests 3 and 4, and a resistance at the threshold. -/
theorem test_scan_evidence :
    let r : StepRecord := { plainStep with kind := .scan, threshold := 5000 }
    TestReport.evidence r 3 false (.sampled 851 1 false) = some ⟨213, false⟩ ∧
    TestReport.evidence r 3 false (.sampled 834 1 false) = some ⟨209, false⟩ ∧
    TestReport.evidence r 3 false (.sampled 20000 1 false) = none ∧
    TestReport.evidence r 3 true (.sampled (-9) 1 false) = some ⟨-2, true⟩ := by decide +kernel

/-! ### One command each -/

theorem test_mapCursor :
    (after (.mapCursor 1 [0xFF, 0x0F]) (served Part.fresh)).map.cursor = 4095 ∧
    (after (.mapCursor 1 [0x00, 0x10]) (served Part.fresh)).link.transmit = [.refused 1 0x10 .badValue none] := by
  decide +kernel

theorem test_describe_while_starting :
    (after (.status 1 []) State.reset).link.transmit = [.refused 1 0x34 .busy none] ∧
    ((after (.describe 1 []) State.reset).link.transmit.map OutFrame.isReply) = [true] := by decide +kernel

theorem test_dock :
    let p : Part := { Part.fresh with lock := { Part.fresh.lock with presentLine := ⟨true, false, some 531250⟩ } }
    let q := after (.debounceComplete .fixturePresent) (served p)
    q.lock.docked = true ∧ q.lock.identity = .reading ∧ q.time.tick = 531250 ∧ q.lock.identityLimit = some 743750 := by
  decide +kernel

theorem test_reference :
    let q := after .referenceLoss (served { Part.fresh with time := { Part.fresh.time with tick := 1002000, ref := .external } })
    q.time.tick = 1002100 ∧ q.time.ref = .recovery ∧ q.time.lossCount = 1 := by decide +kernel

/-- R97: the hundredth period without an edge is a loss, which an idle step takes. -/
theorem test_loss_is_detected :
    let p := { Part.fresh with time := { Part.fresh.time with tick := 90, ref := .verifying, verification := some 100000, silent := 100 } }
    p.ownEvent = some ((90, .referenceLoss), p) ∧
    ({ p with time := { p.time with silent := 99 } } : Part).ownEvent = none := by decide +kernel

/-- R18: the transfer of nine bytes lasts 1,080 µs from the dock event. -/
theorem test_identity_lasts :
    let lock : Interlock := { Part.fresh.lock with docked := true, identity := .reading, readStart := some 10, identityLimit := some 212510 }
    let q := after (.identityReadEnd (.bytes [1, 0, 0, 0, 0, 0, 0, 0, 0xFF])) (served { Part.fresh with lock := lock })
    q.time.tick = 108010 ∧ q.lock.identity = .known 1 := by decide +kernel

/-- R83, R85: an acknowledgement after the 40 µs is discarded, and one that comes with the expiry that began the next
update. -/
theorem test_late_acknowledgement :
    let at_ := fun (t : Nat) (e : Option Nat) => { withCards Part.fresh with
      relay := { (withCards Part.fresh).relay with link := .update 1 ⟨some .me0, [⟨70, .sh⟩]⟩ 100, expired := e }
      time := { Part.fresh.time with tick := t } }
    (after .cardAcknowledgement (served (at_ 4101 none))).relay = (at_ 4101 none).relay ∧
    (after .cardAcknowledgement (served (at_ 100 (some 100)))).relay = (at_ 100 (some 100)).relay ∧
    ((after .cardAcknowledgement (served (at_ 1300 (some 100)))).card 1).inMotion = true ∧
    ((after .cardAcknowledgement (served (at_ 4100 none))).card 1).inMotion = true := by decide +kernel

theorem test_run_dispatches :
    let p := docked (frozen (twoNets (withCards Part.fresh)))
    let q := after (.run 1 []) (served { p with ring := ⟨[(0, ⟨.pending, some plainStep⟩)], 0, 0, 1⟩ })
    q.disp.seq = .running ∧ q.ring = ⟨[(0, ⟨.active, some plainStep⟩)], 0, 1, 1⟩ ∧ q.queue.reserved = 1 ∧
    (q.engine .me0).phase = some .connect ∧ (q.plan .me0).wanted = plainNails.pairs := by decide +kernel

theorem test_step_completes :
    let p := measuring plainStep .integrate fun g => { g with request := some 9, sampleCount := 1, sampleSum := 400, readyMark := true }
    let q := after (.sample .me0 9 400) (served p)
    q.disp.seq = .drained ∧ q.ring = ⟨[], 1, 1, 1⟩ ∧ q.queue.reserved = 0 ∧
    q.queue.records.map (fun r => (r.verdict, r.shape)) = [(.pass, .measurement (some 100) (some (5, 6)))] ∧
    q.link.transmit = [.notice (.seq .drained 1 1 1)] := by decide +kernel

theorem test_sample_timeout_halts :
    let p := measuring plainStep .integrate fun g => { g with request := some 9, timeout := some 100 }
    let q := after (.sampleTimeout .me0) (served p)
    q.disp.seq = .halted ∧ (q.engine .me0).state = .faulted ∧
    q.log.record = some ⟨.engineTimeout, some 0, some 7, some .me0, none, none, 100⟩ := by decide +kernel

theorem test_remainder_before_the_notice :
    let p := inSeq Part.fresh .drained
    let r := unservedRecord none plainStep .fault .noEngine
    let q := after (.pause 1 []) (served { p with queue := ⟨[r], 0, 4, 65535⟩ })
    q.queue = ⟨[], 0, 4, 0⟩ ∧
    q.link.transmit = [.reply 1 0x31 .done, .notice (.block ⟨65535, .remainder, 0, 0, 0, .paused, [r]⟩),
      .notice (.seq .paused 0 0 0)] := by decide +kernel

/-! ### Witnesses: the machine and the link -/

theorem witness_StepRunsTheFrontCommand : (⟨Part.fresh, [.powerOn]⟩ : State).pending = .powerOn :: [] := rfl

/-- The start-up ALL_OPEN is due at tick 1,200 and not before; a relay due before its card's last; a discharge; and a
re-plan event before them all. -/
theorem witness_IdleStepTakesADueEventOrOneTick :
    let at_ := fun t => { Part.fresh with time := { Part.fresh.time with tick := t } }
    let card : Card := ⟨.ready, ⟨none, none⟩, [(⟨5, .sh⟩, .opening 25000), (⟨6, .sl⟩, .closing 40000)], 1⟩
    let moving : Part := { at_ 30000 with relay := { Part.fresh.relay with link := .idle, cards := [(0, card)] } }
    let draining := (at_ 1200).setEngine .me2 { Engine.reset with phase := some .discharge, phaseWait := some 900 }
    let asking := draining.setEngine .me0 { Engine.reset with replan := .requested }
    State.reset.pending = [] ∧ (at_ 1199).ownEvent = none ∧ (at_ 1200).ownEvent = some ((1200, .allOpenEnd), at_ 1200) ∧
    moving.ownEvent = some ((25000, .relayMotionEnd 0), moving) ∧ 25000 < (moving.relay.card 0).lastDue ∧
    draining.ownEvent = some ((900, .dischargeComplete .me2 false), draining) ∧ draining.replanEvents = [] ∧
    asking.ownEvent = some ((1200, .replanRequest .me0), asking) ∧ asking.replanEvents ≠ [] := by
  decide +kernel

theorem witness_ResetsGiveTheStateTheTablesSay :
    let l : LinkPort := { Part.fresh.link with
      inProgress := some ⟨1, 0x62, true⟩, transmit := [.reply 1 0x62 .done], sendStart := some 0 }
    (l.inProgress = some ⟨1, 0x62, true⟩ ∧ l.transmit = .reply 1 0x62 .done :: [] ∧
      (OutFrame.reply 1 0x62 .done).isReply = true) ∧ (served Part.fresh).Serving 1 :=
  ⟨⟨rfl, rfl, rfl⟩, served_serving _ _ (by decide) rfl rfl (by decide)⟩

/-- Two streams, the frame DESCRIBE of request 1 with both CRC bytes 0, and the lengths 1 and 1,041. -/
theorem witness_GoodFramesAreReceivedWholeAndBadOnesDiscarded :
    (∀ x ∈ ([([0x00, 0x5A], ⟨1, 0x10, [0xA5, 0x00]⟩), ([], ⟨255, 0x60, List.replicate 1038 0⟩)] :
        List (List Byte × InFrame)), (∀ b ∈ x.1, b ≠ 0xA5) ∧ x.2.body.length ≤ 1038) ∧
    (2 ≤ ([0x01, 0x60] : List Byte).length ∧ ([0x01, 0x60] : List Byte).length ≤ 1040 ∧
      256 * (0 : Byte).toNat + (0 : Byte).toNat ≠ (crc16 (leBytes 2 2 ++ [0x01, 0x60])).toNat) ∧
    ((1 : Byte).toNat + 256 * (0 : Byte).toNat < 2) ∧ 1040 < (0x11 : Byte).toNat + 256 * (0x04 : Byte).toNat := by
  decide +kernel

/-- One receiver for each clause, the last with the two CRC bytes of DESCRIBE of request 1. -/
theorem witness_ReceivedByteFollowsTheReceiverTable :
    let in_ := fun r : Receiver => (⟨Part.fresh, []⟩ : State).withReceiver r (some 106250)
    let crc := (crc16 (leBytes 2 2 ++ [0x01, 0x60])).toNat
    Part.fresh.link.receiver = .hunt ∧ (0x00 : Byte) ≠ 0xA5 ∧
    (in_ (.length none)).part.link.receiver = .length none ∧
    (in_ (.length (some 2))).part.link.receiver = .length (some 2) ∧
    (in_ (.payload 2 [1])).part.link.receiver = .payload 2 [1] ∧
    (in_ (.check [1, 0x60] none)).part.link.receiver = .check [1, 0x60] none ∧
    (in_ (.check [1, 0x60] (some 0))).part.link.receiver = .check [1, 0x60] (some 0) ∧ crc ≠ 256 * 0 + 0 ∧
    crc = 256 * (BitVec.ofNat 8 (crc / 256)).toNat + (BitVec.ofNat 8 crc).toNat ∧
    (in_ .hunt).part.link.interByte = some 106250 ∧ Part.fresh.link.interByte = none := by decide +kernel

theorem witness_RequestsAreBufferedAndJudgedInOrder :
    let l : LinkPort := { Part.fresh.link with inProgress := some ⟨1, 0x34, false⟩ }
    (l.inProgress ≠ none ∧ l.buffer.length < 4 ∧
      ¬ ({ l with buffer := List.replicate 4 ⟨2, 0x34, []⟩ } : LinkPort).buffer.length < 4) ∧
    (Part.fresh.link.inProgress = none ∧ Part.fresh.link.buffer = []) ∧ requestKindOf (0x19 : Byte).toNat = none ∧
    (Part.fresh.link.mode = .starting ∧ RequestKind.status ≠ .describe) ∧
    (RequestKind.stepRead.bodyLength ≠ none ∧ RequestKind.stepRead.bodyLength ≠ some ([] : List Byte).length) := by
  decide +kernel

theorem witness_RequestsTakenWhileIdle :
    (⟨Part.fresh, []⟩ : State).LinkIdle 1 ∧ (served (inSeq Part.fresh .stopping)).LinkIdle 255 :=
  ⟨⟨rfl, rfl, by decide⟩, served_idle _ _ (by decide) rfl rfl⟩

/-- A reply with no frame behind it, with four of number 0, with one that is taken at once, and with one behind three of
number 0. -/
theorem witness_FrameSentEndsTheRequestOfAReply :
    let reply := OutFrame.reply 1 0x31 .done
    let l : LinkPort := { Part.fresh.link with
      inProgress := some ⟨1, 0x31, false⟩, transmit := [reply], sendStart := some 0 }
    let zeros := fun n => List.replicate n (⟨0, 0x34, []⟩ : InFrame)
    let waiting := fun n => ({ l with buffer := zeros n ++ ⟨2, 0x34, []⟩ :: [] } : LinkPort)
    Part.fresh.link.transmit = [] ∧
    [OutFrame.notice (.seq .paused 0 0 0), reply] = .notice (.seq .paused 0 0 0) :: [reply] ∧
    (l.transmit = reply :: [] ∧ reply.isReply = true ∧ l.inProgress = some ⟨1, 0x31, false⟩ ∧ l.buffer = []) ∧
    ((zeros 4).length = 4 ∧ ∀ x ∈ zeros 4, x.number = 0) ∧
    ((waiting 0).buffer = [] ++ ⟨2, 0x34, []⟩ :: [] ∧ (waiting 3).buffer = zeros 3 ++ ⟨2, 0x34, []⟩ :: [] ∧
      (waiting 3).buffer.length = 4 ∧ (2 : Byte) ≠ 0) := by decide +kernel

/-- R185: behind a reply that is sent, frames of number 0 are discarded and a STATUS after them is taken. -/
theorem test_frameSent_discards_zeros :
    let l : LinkPort := { Part.fresh.link with
      mode := .serving, inProgress := some ⟨1, 0x31, false⟩, transmit := [.reply 1 0x31 .done], sendStart := some 0 }
    let t := after .frameSent ⟨{ Part.fresh with link := { l with
      buffer := [⟨0, 0x34, []⟩, ⟨0, 0x31, []⟩, ⟨2, 0x34, []⟩, ⟨3, 0x34, []⟩] } }, []⟩
    t.link.inProgress = some ⟨2, 0x34, false⟩ ∧ t.link.buffer = [⟨3, 0x34, []⟩] := by decide +kernel

theorem witness_FramesAndRecordsHaveTheirSizesAndStepRecordsReadBack :
    (plainStep.tag < 65536 ∧ plainStep.template < 256 ∧ plainStep.high < 65536 ∧ plainStep.low < 65536 ∧
      plainStep.current < 256 ∧ plainStep.gain < 256 ∧ plainStep.aperture < 256 ∧ plainStep.count < 256 ∧
      plainStep.settle < 65536 ∧ plainStep.discharge < 65536 ∧ plainStep.threshold < 4294967296 ∧
      plainStep.rampLimit < 65536) ∧
    plainStep.bytes.length = 34 ∧ stepRecordAt plainStep.bytes 0 = some plainStep := by decide +kernel

/-! ### Witnesses: the map, the ring and the templates -/

theorem witness_NailListsFollowTheNailTable : tableWf NailEntry.unlisted mapExample.map.nails = true := by decide +kernel

/-- The bodies of MAP_CURSOR and MAP_READ have their lengths at the ends of the ranges too, and the cursor stands below 4096
and at 4096. -/
theorem witness_MapCursorAndMapReadMoveTheCursor :
    (served mapExample).Serving 1 ∧
      ([0xFF, 0x0F] : List Byte).length = 2 ∧ u16At [0xFF, 0x0F] 0 = 4095 ∧ u16At [0x00, 0x10] 0 = 4096 ∧
      ([64] : List Byte).length = 1 ∧ 1 ≤ byteAt [64] 0 ∧ byteAt [64] 0 ≤ 64 ∧
      (served mapExample).part.map.cursor < 4096 ∧
      (after (.mapCursor 1 [0xFF, 0x0F]) (served mapExample)).map.cursor = 4095 :=
  ⟨served_serving _ _ (by decide) rfl rfl (by decide), by decide⟩

/-- A map whose nail lists are as few as the reset state's meets the invariant. -/
theorem nailsOk_of_empty (p : Part) (h : p.map.nails = []) : p.NailsOk where
  table := by rw [h]; rfl
  nets := by rw [h]; intro x hx; cases hx
  eight net := by unfold Part.nailsOf; rw [h]; split <;> simp

/-- One body for each clause: FROZEN, a wrong length, a count of 0, the run past nail 4,095, SUSPECT, an ABSENT card,
and nine nails brought onto net 1. -/
theorem witness_MapNailsChecksTheWholeRunThenWritesIt :
    let p := { withCards Part.fresh with map := { Part.fresh.map with cursor := 128 } }
    (served p).Serving 1 ∧ (served (frozen p)).Serving 1 ∧ p.NailsOk ∧ (frozen p).NailsOk ∧
    (frozen p).map.state = .frozen ∧ p.map.state = .editable ∧
    (([1, 2, 0] : List Byte).length ≠ 1 + 3 * byteAt [1, 2, 0] 0) ∧
    (([0] : List Byte).length = 1 + 3 * byteAt [0] 0 ∧ ¬ 1 ≤ byteAt [0] 0) ∧
    (128 + byteAt [1, 2, 0, 0] 0 ≤ 4096 ∧ byteAt [1, 2, 0, 1] 3 = 1) ∧
    (p.card 2).status = .ready ∧ (p.card 4).status = .absent ∧
    (let body : List Byte := 9 :: (List.replicate 9 [1, 0, 0]).flatten
     body.length = 1 + 3 * 9 ∧ p.overfullNail (runOf 128 (List.replicate 9 ⟨1, .good⟩)) = some 136 ∧
     p.overfullNail (runOf 128 (List.replicate 8 ⟨1, .good⟩)) = none) :=
  ⟨served_serving _ _ (by decide) rfl rfl (by decide), served_serving _ _ (by decide) rfl rfl (by decide),
   nailsOk_of_empty _ rfl, nailsOk_of_empty _ rfl, by decide +kernel⟩

theorem witness_MapNetattrAndMapUnmarkWriteTheMap :
    (served mapExample).Serving 1 ∧ tableWf NailEntry.unlisted mapExample.map.nails = true ∧
    (served Part.fresh).Serving 1 ∧ (served (frozen Part.fresh)).Serving 1 ∧
    tableWf NetAttrs.unlisted Part.fresh.map.attrs = true ∧ Part.fresh.map.state = .editable ∧
    (frozen Part.fresh).map.state = .frozen ∧
    ([0xFF, 0x07, 3] : List Byte).length = 3 ∧ u16At [0xFF, 0x07, 3] 0 = 2047 ∧ byteAt [0xFF, 0x07, 3] 2 ≤ 3 ∧
    u16At [0, 0, 0] 0 = 0 ∧ 2047 < u16At [0, 8, 0] 0 ∧ 3 < byteAt [1, 0, 4] 2 :=
  ⟨served_serving _ _ (by decide) rfl rfl (by decide), by decide +kernel,
   served_serving _ _ (by decide) rfl rfl (by decide), served_serving _ _ (by decide) rfl rfl (by decide), by decide⟩

/-- An EDITABLE and a FROZEN map, and STOPPED without and with a direct step, and PAUSED. -/
theorem witness_MapIdentityFreezeClearAndRingResetAct :
    let direct : Part := { Part.fresh with disp := { Part.fresh.disp with direct := some ⟨plainStep, none⟩ } }
    (served Part.fresh).Serving 1 ∧ (served (frozen Part.fresh)).Serving 1 ∧ (served direct).Serving 1 ∧
    (served (inSeq Part.fresh .paused)).Serving 1 ∧ Part.fresh.NailsOk ∧ (frozen Part.fresh).NailsOk ∧
    ([1, 0, 0, 0, 0, 0, 0, 0x80] : List Byte).length = 8 ∧ direct.disp.direct.isSome = true :=
  ⟨served_serving _ _ (by decide) rfl rfl (by decide), served_serving _ _ (by decide) rfl rfl (by decide),
   served_serving _ _ (by decide) rfl rfl (by decide), served_serving _ _ (by decide) rfl rfl (by decide),
   nailsOk_of_empty _ rfl, nailsOk_of_empty _ rfl, by decide⟩

/-- The ends of the ranges, and an ABSENT, a FAILED, a still and a moving card. -/
theorem witness_QueriesReportAndChangeNothing :
    let still : Card := ⟨.ready, ⟨some .me0, some .closed⟩, [(⟨5, .sh⟩, .closed)], 3⟩
    let moving : Card := ⟨.ready, ⟨some .me0, some (.closing 40000)⟩, [(⟨133, .sh⟩, .closing 40000), (⟨134, .sl⟩, .opening 25000)], 3⟩
    let r : Relay := { Part.fresh.relay with cards := [(0, still), (1, ⟨.failed, ⟨none, none⟩, [], 4⟩), (2, moving)] }
    (served Part.fresh).LinkIdle 1 ∧ (served Part.fresh).part.link.mode = .serving ∧
    Part.fresh.disp.seq ≠ .stopping ∧ u16At [0x00, 0x04] 0 = 1024 ∧ u16At [0xFF, 0x03] 0 < 1024 ∧
    32 ≤ (32 : Byte).toNat ∧ (31 : Byte).toNat < 32 ∧ 64 ≤ (64 : Byte).toNat ∧ (63 : Byte).toNat < 64 ∧
    (r.card 3).status = .absent ∧ (r.card 1).status = .failed ∧ (r.card 0).status = .ready ∧
    (r.card 0).inMotion = false ∧ (r.card 2).status = .ready ∧ (r.card 2).inMotion = true ∧
    ((r.card 2).relays.map (·.1)).Nodup ∧ 25000 < (r.card 2).lastDue :=
  ⟨served_idle _ _ (by decide) rfl rfl, by decide +kernel⟩

/-- A record of each clause: a kind above 4, a gain above 2, equal nets, a scan whose first net is above its last,
limits out of order, and nets without and with nails. -/
theorem witness_StepRecordsAreCheckedInOrder :
    let p := twoNets Part.fresh
    let check := fun r : StepRecord => (p.checkedRecordAt r.bytes 0).toOption.isSome
    4 < byteAt [0, 0, 5] 2 ∧ byteAt plainStep.bytes 2 ≤ 4 ∧ check plainStep = true ∧
    p.checkRecord { plainStep with gain := 3 } = some (.badValue, none) ∧
    p.checkRecord { plainStep with low := 1 } = some (.sameNet, none) ∧
    p.checkRecord { plainStep with kind := .scan, high := 2, low := 1, presence := 0 } = some (.badValue, none) ∧
    p.checkRecord { plainStep with lowLimit := 1001 } = some (.limitOrder, none) ∧
    p.checkRecord { plainStep with low := 2047 } = some (.notMapped, some 2047) := by
  decide +kernel

theorem witness_StepWriteChecksThenStages :
    let p := frozen (twoNets Part.fresh)
    let live : Part := { p with ring := ⟨[(0, ⟨.pending, some plainStep⟩)], 0, 0, 1⟩ }
    let body := fun slot : List Byte => slot ++ plainStep.bytes
    (served p).Serving 1 ∧ (served live).Serving 1 ∧ (served (twoNets Part.fresh)).Serving 1 ∧
    (body [0xFF, 0x03]).length = 36 ∧ p.ring.InRange ∧ live.ring.InRange ∧
    1024 ≤ u16At (body [0x00, 0x04]) 0 ∧ u16At (body [0xFF, 0x03]) 0 < 1024 ∧ (twoNets Part.fresh).map.state = .editable ∧
    live.ring.isLive 0 = true ∧ live.ring.isLive 1023 = false ∧
    live.checkedRecordAt (body [0xFF, 0x03]) 2 = .ok plainStep ∧
    live.checkedRecordAt ([0xFF, 0x03] ++ ({ plainStep with low := 3 } : StepRecord).bytes) 2 =
      .error (.notMapped, some 3) := by
  refine ⟨served_serving _ _ (by decide) rfl rfl (by decide), served_serving _ _ (by decide) rfl rfl (by decide),
    served_serving _ _ (by decide) rfl rfl (by decide), by decide +kernel, ⟨rfl, by decide⟩, ⟨rfl, by decide⟩,
    by decide +kernel, by decide +kernel, rfl, by decide +kernel, by decide +kernel, rfl, rfl⟩

/-- A ring whose slots 0 and 1 are STAGED, committed from each sequencer state; and a direct step that waits for an engine
in PAUSED, and is dispatched once that engine is IDLE. -/
theorem witness_StepCommitHandsARunToTheDispatcher :
    let p := frozen { twoNets Part.fresh with ring := ⟨[(0, ⟨.staged, some plainStep⟩), (1, ⟨.staged, some plainStep⟩)], 0, 0, 0⟩ }
    let q := docked (noRecord (inSeq p .drained))
    let undocked := inSeq p .drained
    let waiting := docked (inSeq (withCards { p with disp := { p.disp with direct := some ⟨plainStep, none⟩ } }) .paused)
    let taken := waiting.onLink fun l => { l with inProgress := some ⟨1, 0x22, false⟩ }
    (served p).Serving 1 ∧ (served q).Serving 1 ∧ (served undocked).Serving 1 ∧ p.ring.InRange ∧
    (1024 ≤ u16At [0x00, 0x04] 0 ∧ u16At [0, 0] 0 = p.ring.commit) ∧
    (let near : Ring := ⟨[], 10, 1020, 1020⟩; 1023 < near.live + near.commitCount 10 ∧ near.live + near.commitCount 9 ≤ 1023) ∧
    (p.slot 0).state = .staged ∧ (p.slot 1).state = .staged ∧ (p.slot 2).state ≠ .staged ∧
    p.disp.seq = .stopped ∧ (noRecord (inSeq p .running)).recordFree = false ∧
    q.disp.seq = .drained ∧ q.fixtureCheck = none ∧ q.recordFree = false ∧
    undocked.fixtureCheck ≠ none ∧ undocked.noRemainder = true ∧
    (∀ x ∈ [inSeq p .stopped, inSeq p .pausing, inSeq p .paused, inSeq p .halted, noRecord waiting, undocked],
      x.nothingToDispatch = true) ∧
    (waiting.disp.seq = .paused ∧ waiting.nothingToDispatch = false ∧ plainStep.kind ≠ .scan ∧
      taken.resolve .me0 plainStep = some plainNails ∧
      (Ev.start taken).judgeDirect = (Ev.start taken).dispatch .me0 none plainStep) :=
  ⟨served_serving _ _ (by decide) rfl rfl (by decide), served_serving _ _ (by decide) rfl rfl (by decide),
   served_serving _ _ (by decide) rfl rfl (by decide), ⟨rfl, by decide⟩, by decide +kernel⟩

/-- R58, R70: a STEP_COMMIT in PAUSED is an evaluation, which dispatches a direct step that waited for its engine. -/
theorem test_stepCommit_dispatches_direct :
    let p := docked (withCards (frozen { twoNets Part.fresh with ring := ⟨[(0, ⟨.staged, some plainStep⟩)], 0, 0, 0⟩ }))
    let q := inSeq { p with disp := { p.disp with direct := some ⟨plainStep, none⟩ } } .paused
    let t := after (.stepCommit 1 [1, 0]) (served q)
    t.directEngine = some .me0 ∧ t.disp.seq = .paused ∧ t.ring.commit = 1 := by decide +kernel

/-- The settings after reset keep their ranges. -/
theorem settings_reset_ok : Part.fresh.settings.Ok where
  cursor := by decide
  declared := by decide
  attrs := rfl
  nets := by intro y hy; cases hy
  templates := rfl
  lists := by intro y hy; cases hy
  window := by decide
  holdLimit := by decide
  block := by decide
  copy := rfl

/-- RUNNING, a wrong length, code 32, and twelve nets in template 31. -/
theorem witness_TemplateWriteReplacesTheList :
    let nets : List Byte := ((List.range 12).map fun i => [BitVec.ofNat 8 (i + 1), 0]).flatten
    (served (inSeq Part.fresh .running)).Serving 1 ∧ (served Part.fresh).Serving 1 ∧ Part.fresh.settings.Ok ∧
    ([0, 1] : List Byte).length ≠ 2 + 2 * byteAt [0, 1] 1 ∧ ¬ byteAt [32, 0] 0 ≤ 31 ∧
    (31 :: 12 :: nets).length = 2 + 2 * 12 ∧ byteAt (31 :: 12 :: nets) 0 = 31 ∧ byteAt (31 :: 12 :: nets) 1 = 12 ∧
    ((List.range 12).map fun i => u16At (31 :: 12 :: nets) (2 + 2 * i)).Nodup :=
  ⟨served_serving _ _ (by decide) rfl rfl (by decide), served_serving _ _ (by decide) rfl rfl (by decide),
   settings_reset_ok, by decide +kernel⟩

/-- A ring with slot 0 PENDING and slot 1 STAGED, as reset and a commit leave it. -/
theorem witness_RingOperationsKeepTheRingInOrder :
    let r : Ring := ⟨[(0, ⟨.pending, some plainStep⟩), (1, ⟨.staged, some plainStep⟩)], 0, 0, 1⟩
    r.isLive 1023 = false ∧ r.live + r.commitCount 2 ≤ 1023 ∧ (∀ i ∈ ringRun r.commit (r.commitCount 2), r.stateOf i = .staged) ∧
    0 ∈ r.pendingSlots ∧ (r.stateOf 0 = .active ∨ r.stateOf 0 = .pending) ∧
    (∀ i, i < 1024 → r.stateOf i ≠ .active) := by decide +kernel

/-! ### Witnesses: the sequencer -/

/-- The four fixture checks, one part for each clause of RUN and RESUME, and each state of PAUSE. -/
theorem witness_RunResumeAndPauseActByState :
    let p := docked (frozen (twoNets (withCards Part.fresh)))
    let loaded : Part := noRecord { p with ring := ⟨[(0, ⟨.pending, some plainStep⟩)], 0, 0, 1⟩ }
    let direct := fun q : Part => ({ q with disp := { q.disp with direct := some ⟨plainStep, none⟩ } } : Part)
    let unread := fun i : IdentityRead => ({ p with lock := { p.lock with identity := i } } : Part)
    let half := noRecord (inSeq (measuring plainStep .integrate id) .pausing)
    (∀ q ∈ [p, loaded, direct p, inSeq p .running, inSeq p .halted, inSeq p .paused, direct (inSeq p .paused)],
      q.link.inProgress = none ∧ q.link.buffer = [] ∧ q.disp.seq ≠ .stopping) ∧
    p.fixtureCheck = none ∧ p.disp.seq = .stopped ∧ p.disp.direct = none ∧ p.map.state = .frozen ∧
    p.ring.pendingSlots = [] ∧ p.noRemainder = true ∧ p.ringInFlight = false ∧
    loaded.ring.pendingSlots ≠ [] ∧ loaded.recordFree = false ∧ loaded.fixtureCheck = none ∧
    (direct p).disp.direct.isSome = true ∧ (frozen Part.fresh).fixtureCheck = some .fixtureAbsent ∧
    (unread .reading).fixtureCheck = some .fixtureUnknown ∧ (unread .unreadable).fixtureCheck = some .fixtureUnknown ∧
    (unread (.known 6)).fixtureCheck = some .identityMismatch ∧
    ({ p with lock := { p.lock with vacuum := false } } : Part).fixtureCheck = some .vacuumLow ∧
    half.ringInFlight = true ∧ (docked half).fixtureCheck = none ∧ half.recordFree = false ∧
    (∀ q ∈ measuring plainStep .integrate id ::
        [SeqState.running, .drained, .pausing, .paused, .halted, .stopped].map (inSeq Part.fresh),
      q.link.inProgress = none ∧ q.link.buffer = [] ∧ q.disp.seq ≠ .stopping ∧ q.noRemainder = true) ∧
    (measuring plainStep .integrate id).disp.seq = .running ∧ (measuring plainStep .integrate id).ringInFlight = true ∧
    (inSeq Part.fresh .running).ringInFlight = false := by decide +kernel

/-- RUNNING with the matrix open, and with a role relay of card 0 still closed. -/
theorem witness_StopDiscardsReleasesAndStops :
    let p := inSeq (withCards Part.fresh) .running
    let closed : Card := ⟨.ready, ⟨some .me0, some .closed⟩, [(⟨5, .sh⟩, .closed)], 2⟩
    let q : Part := { p with relay := { p.relay with cards := [(0, closed)] } }
    let released := fun x : Part => (x.relay.releaseAll fun _ => false).look x.time.tick
    (∀ x ∈ [p, q], x.link.inProgress = none ∧ x.link.buffer = [] ∧ x.disp.seq = .running ∧ x.disp.direct = none ∧
      x.noneActive = true ∧ EngineId.all.all (fun e => decide ((x.engine e).phase ≠ some .abortDischarge)) = true ∧
      x.ringInFlight = false ∧ x.noRemainder = true) ∧
    (released p).matrixOpen = true ∧ (released q).matrixOpen = false := by decide +kernel

/-- DRAINED and docked with no record free, a record of equal nets, an EDITABLE map, and an undocked fixture. -/
theorem witness_DirectStepIsCheckedThenWaits :
    let p := noRecord (docked (frozen (twoNets (withCards (inSeq Part.fresh .drained)))))
    (served p).Serving 1 ∧ plainStep.bytes.length = 34 ∧ p.disp.direct = none ∧ p.map.state = .frozen ∧
    p.checkedRecordAt plainStep.bytes 0 = .ok plainStep ∧ p.fixtureCheck = none ∧ p.recordFree = false ∧
    p.checkedRecordAt ({ plainStep with low := 1 } : StepRecord).bytes 0 = .error (.sameNet, none) ∧
    Part.fresh.map.state = .editable ∧ (frozen (twoNets Part.fresh)).fixtureCheck = some .fixtureAbsent :=
  ⟨served_serving _ _ (by decide) rfl rfl (by decide), by decide +kernel, rfl, rfl, rfl, by decide +kernel,
   by decide +kernel, rfl, rfl, by decide +kernel⟩

/-- Engine 3 FAULTED, code 4, a HALTED sequencer without and with a ring step in flight, and the ends of the ranges of
RESULTS_READ and PACE. -/
theorem witness_ClearReadAndPaceRequestsAct :
    let p := Part.fresh.setEngine .me3 { Engine.reset with state := .faulted, sequence := 9 }
    let r : ErrorRecord := ⟨.vacuumLost, none, none, none, none, none, 7⟩
    let halted := fun q : Part => ({ inSeq q .halted with log := ⟨some r, 255⟩ } : Part)
    let stored : Part := { Part.fresh with queue := ⟨[unservedRecord none plainStep .fault .noEngine], 0, 0, 0⟩ }
    let body : List Byte := [8, 0xA0, 0x86, 0x01, 0x00, 32]
    (served p).Serving 1 ∧ (served (halted Part.fresh)).Serving 1 ∧
    (served (halted (measuring plainStep .integrate id))).Serving 1 ∧ (served stored).Serving 1 ∧
    EngineId.me3.index = (3 : Byte).toNat ∧ 4 ≤ (4 : Byte).toNat ∧ (p.engine .me3).state = .faulted ∧
    p.nothingToDispatch = true ∧ (p.engine .me0).state ≠ .faulted ∧
    (halted Part.fresh).ringInFlight = false ∧ (halted Part.fresh).noRemainder = true ∧
    (halted (measuring plainStep .integrate id)).ringInFlight = true ∧
    stored.nothingToDispatch = true ∧ stored.scanner.state ≠ .waitingSpace ∧
    1 ≤ (1 : Byte).toNat ∧ (32 : Byte).toNat ≤ 32 ∧ (0 : Byte).toNat = 0 ∧ 32 < (33 : Byte).toNat ∧
    body.length = 6 ∧ byteAt body 0 = 8 ∧ u32At body 1 = 100000 ∧ byteAt body 5 = 32 ∧ stored.queue.records.length < 32 ∧
    u32At [8, 0xA1, 0x86, 0x01, 0x00, 32] 1 = 100001 ∧ byteAt [0, 0, 0, 0, 0, 0] 0 = 0 :=
  ⟨served_serving _ _ (by decide) rfl rfl (by decide), served_serving _ _ (by decide) rfl rfl (by decide),
   served_serving _ _ (by decide) rfl rfl (by decide), served_serving _ _ (by decide) rfl rfl (by decide),
   by decide +kernel⟩

/-! ### Witnesses: dispatch and the interlock -/

/-- A window of two steps, the older blocked because another step holds its nets, the younger chosen; and a window
that a BARRIER step ends. -/
theorem witness_TheOldestEligibleStepOfTheWindowIsChosen :
    let p : Part := measuring plainStep .integrate id
    let nails := p.map.nails ++ [(70, ⟨3, .good⟩), (71, ⟨4, .good⟩)]
    let other : StepRecord := { plainStep with high := 3, low := 4, mask := 0xF }
    let q : Part := { p with
      map := { p.map with nails := nails }
      ring := ⟨[(0, ⟨.active, some plainStep⟩), (1, ⟨.pending, some plainStep⟩), (2, ⟨.pending, some other⟩)], 0, 1, 3⟩ }
    let walled : Part := { q with
      ring := ⟨[(0, ⟨.pending, some plainStep⟩), (1, ⟨.pending, some { plainStep with flags := 0x44 }⟩)], 0, 0, 2⟩ }
    q.windowSlots = [1, 2] ∧ q.firstEligible [] true q.windowSlots = some (2, other) ∧ 1 ≤ q.disp.window ∧
    ({ plainStep with flags := 0x44 } : StepRecord).barrier = true ∧
    walled.ring.pendingSlots = [0, 1] ∧ walled.windowSlots = [0] := by decide +kernel

/-- RUN with one PENDING step that a docked part serves, one without a card for net 1, and one with every engine
FAULTED; a sequencer that is not RUNNING, and one whose older step stops the failure. -/
theorem witness_EvaluationFailsAndDispatchesOldestFirst :
    let loaded := fun q : Part => ({ q with ring := ⟨[(0, ⟨.pending, some plainStep⟩)], 0, 0, 1⟩ } : Part)
    let good := loaded (docked (frozen (twoNets (withCards Part.fresh))))
    let dry := loaded (docked (frozen (twoNets Part.fresh)))
    let faulted := EngineId.all.foldl (fun q e => q.setEngine e { Engine.reset with state := .faulted }) good
    let run := fun q : Part => (inSeq q .running).onLink fun l => { l with inProgress := some ⟨1, 0x30, false⟩ }
    (∀ q ∈ [good, dry, faulted], q.link.inProgress = none ∧ q.link.buffer = [] ∧ q.disp.seq = .stopped ∧
      q.disp.direct = none ∧ q.map.state = .frozen ∧ q.fixtureCheck = none ∧ tableWf Slot.unlisted q.ring.slots = true ∧
      q.ring.pendingSlots = [0] ∧ q.slotRecord 0 = some plainStep ∧ q.inFlight = [] ∧ q.recordFree = true ∧
      q.queue.block = 0) ∧
    1 ≤ good.disp.window ∧ (run good).eligible [] true plainStep = true ∧
    (run good).chooseEngine plainStep = some .me0 ∧ (run good).resolve .me0 plainStep = some plainNails ∧
    good.unservable plainStep = none ∧ dry.unservable plainStep = some (.noNail, some 1) ∧
    faulted.unservable plainStep = some (.noEngine, none) ∧ good.disp.seq ≠ .running ∧
    (inSeq (noRecord good) .running).recordFree = false ∧
    (inSeq good .running).firstEligible [] true (inSeq good .running).windowSlots = some (0, plainStep) := by
  decide +kernel

/-- Both sides of each equivalence: a step of two wires and a RES4 step with a nail to spare, and a net without one. -/
theorem witness_StepNailsAreResolvedRoleByRole :
    let p := twoNets (withCards Part.fresh)
    let more : Part := { p with map := { p.map with nails := p.map.nails ++ [(70, ⟨1, .good⟩)] } }
    p.resolve .me0 plainStep = some plainNails ∧
    more.resolve .me0 { plainStep with kind := .res4 } = some ⟨5, 70, 6, 6, []⟩ ∧
    p.resolve .me0 { plainStep with low := 3 } = none ∧ p.candidates none 3 = [] := by decide +kernel

/-- A step of slot 0 and a direct step. -/
theorem witness_DispatchReservesClaimsAndStarts :
    let p := docked (frozen (twoNets (withCards Part.fresh)))
    let v := Ev.start { p with ring := ⟨[(0, ⟨.pending, some plainStep⟩)], 0, 0, 1⟩ }
    plainStep.kind ≠ .scan ∧ v.p.resolve .me0 plainStep = some plainNails ∧
    EngineId.me1 ≠ EngineId.me0 ∧ v.p.effectiveCurrent plainStep.current [1, 2] = (3, false) := by decide +kernel

/-- A step of slot 0 alone on engine 0. -/
theorem measuring_alone (r : StepRecord) (ph : Phase) (f : Engine → Engine) (hr : r.kind ≠ .scan)
    (hs : (f (running r (some 0) ph)).state = .active)
    (hw : (f (running r (some 0) ph)).work = some ⟨some 0, r, some plainNails, false, false⟩) :
    (measuring r ph f).AloneActive .me0 ⟨some 0, r, some plainNails, false, false⟩ (flying r (some 0)) where
  measures := ⟨hs, hw, hr, rfl⟩
  origin := rfl
  quiet := rfl
  block := rfl
  reserved := Nat.le_refl 1
  others := by
    intro e he
    cases e
    · exact absurd rfl he
    all_goals exact ⟨by show EngineState.idle ≠ .active; decide, by show (none : Option Phase) ≠ _; decide⟩
  direct := fun _ => rfl

/-- The same beside a waiting direct step, the lines falling. -/
theorem beside_alone (r : StepRecord) (ph : Phase) (f : Engine → Engine) (hr : r.kind ≠ .scan)
    (hs : (f (running r (some 0) ph)).state = .active)
    (hw : (f (running r (some 0) ph)).work = some ⟨some 0, r, some plainNails, false, false⟩) (k : Interlock) :
    ({ measuring r ph f with
      lock := k, disp := { (measuring r ph f).disp with direct := none } } : Part).AloneActive .me0
      ⟨some 0, r, some plainNails, false, false⟩ (flying r (some 0)) :=
  have h := measuring_alone r ph f hr hs hw
  ⟨⟨h.measures.active, h.measures.work, h.measures.notScan, h.measures.entry⟩, h.origin, h.quiet, h.block, h.reserved,
    h.others, fun _ => rfl⟩

/-- A waiting direct step that is served, that has no nail, that has ended, and that waits on in HALTED, without a free
record, or for its engine; lines that fall while it waits in each sequencer state with no engine ACTIVE; and beside a ring
step in INTEGRATE, a CAP step in DISCHARGE, and one in ABORT_DISCHARGE. -/
theorem witness_WaitingDirectStepsAreServedFailedOrEnded :
    let waiting := fun (q : Part) (ended : Option Cause) =>
      ({ q with disp := { q.disp with direct := some ⟨plainStep, ended⟩ } } : Part)
    let idle := docked (frozen (twoNets (withCards Part.fresh)))
    let dry := docked (frozen (twoNets Part.fresh))
    let busy := idle.setEngine .me0 { Engine.reset with state := .faulted }
    let taken := ({ waiting idle none with link := { idle.link with inProgress := some ⟨1, 0x35, false⟩ } } : Part)
    let line : LineFilter := ⟨false, true, some 900⟩
    let fallen := fun q : Part => { q with lock := { (docked q).lock with presentLine := line, vacuumLine := line } }
    let falling := fallen (waiting idle none)
    let cap : StepRecord := { plainStep with kind := .cap }
    let waits := fun g : Engine => { g with phaseWait := some 10000 }
    let beside := fun q => fallen (waiting q none)
    let alone := fun q r => ({ beside q with disp := { (beside q).disp with direct := none } } : Part).AloneActive .me0
      ⟨some 0, r, some plainNails, false, false⟩ (flying r (some 0))
    alone (measuring plainStep .integrate id) plainStep ∧ alone (measuring cap .discharge waits) cap ∧
    alone (measuring cap .abortDischarge waits) cap ∧
    (∀ q ∈ [measuring plainStep .integrate id, measuring cap .discharge waits, measuring cap .abortDischarge waits].map beside,
      q.disp.direct = some ⟨plainStep, none⟩ ∧ q.directEngine = none ∧ q.disp.seq = .running ∧ q.queue.block = 0 ∧
      q.lock.presentLine.wait = some 900 ∧ q.lock.presentLine.raw = false ∧ q.lock.vacuumLine.wait = some 900 ∧
      q.lock.vacuumLine.raw = false ∧ q.lock.docked = true ∧ q.recordFree = true) ∧
    (∀ q ∈ [SeqState.running, .pausing, .halted, .stopped, .paused, .drained].map (inSeq falling),
      q.disp.direct = some ⟨plainStep, none⟩ ∧ q.directEngine = none ∧ q.disp.seq ≠ .stopping ∧ q.queue.block = 0 ∧
      q.noneActive = true) ∧
    (∀ q ∈ [waiting idle none, waiting idle (some .vacuumLost), waiting (inSeq idle .halted) none, waiting dry none,
        waiting busy none, noRecord (waiting idle none)],
      q.disp.direct.isSome = true ∧ q.directEngine = none ∧ q.queue.block = 0) ∧
    (waiting idle none).recordFree = true ∧ (noRecord (waiting idle none)).recordFree = false ∧
    (waiting idle none).unservable plainStep = none ∧ (waiting idle none).inFlight = [] ∧
    plainStep.allows .me0 = true ∧ (idle.engine .me0).state = .idle ∧
    (∀ n ∈ idle.requiredNets plainStep, idle.candidates none n ≠ []) ∧
    (waiting dry none).unservable plainStep = some (.noNail, some 1) ∧ (busy.engine .me0).state ≠ .idle ∧
    (∀ q ∈ [idle, dry], q.link.inProgress = none ∧ q.link.buffer = [] ∧ q.disp.seq = .stopped ∧ q.disp.direct = none ∧
      q.map.state = .frozen ∧ q.checkedRecordAt plainStep.bytes 0 = .ok plainStep ∧ q.fixtureCheck = none ∧
      q.recordFree = true ∧ q.directEngine = none) ∧
    plainStep.bytes.length = 34 ∧ taken.resolve .me0 plainStep = some plainNails ∧
    falling.noneActive = true ∧ EngineId.all.all (fun e => decide ((falling.engine e).phase ≠ some .abortDischarge)) = true ∧
    falling.disp.direct = some ⟨plainStep, none⟩ ∧ falling.lock.presentLine.wait = some 900 ∧
    falling.lock.vacuumLine.wait = some 900 ∧ falling.lock.docked = true ∧ falling.recordFree = true ∧
    (noRecord falling).recordFree = false := by
  have cap_notScan : ({ plainStep with kind := .cap } : StepRecord).kind ≠ .scan := by decide
  exact ⟨beside_alone _ _ _ (by decide) rfl rfl _,
    beside_alone _ .discharge (fun g => { g with phaseWait := some 10000 }) cap_notScan rfl rfl _,
    beside_alone _ .abortDischarge (fun g => { g with phaseWait := some 10000 }) cap_notScan rfl rfl _, by decide +kernel, by decide +kernel, by decide +kernel⟩

/-- Lines with a wait and without, a read whose transfer is in time and one whose least time lies past the limit, and
nine bytes that sum to 0 modulo 256. -/
theorem witness_LinesAreDebouncedAndTheIdentityIsRead :
    let k := Part.fresh.lock
    let line : LineFilter := ⟨true, false, some 531250⟩
    let reading : Interlock := { k with docked := true, identity := .reading, readStart := some 0, identityLimit := some 212500 }
    let at_ := fun t => ({ Part.fresh with lock := reading, time := { Part.fresh.time with tick := t } } : Part)
    (k.line .fixturePresent).wait = none ∧ ({ k with presentLine := line } : Interlock).presentLine.wait = some 531250 ∧
    line.raw = true ∧ ({ k with vacuumLine := line } : Interlock).vacuumLine.wait = some 531250 ∧
    reading.identity = .reading ∧ reading.readStart = some 0 ∧ reading.identityLimit = some 212500 ∧
    ((at_ 50).reach 108000).time.tick ≤ 212500 ∧ 212500 < ((at_ 212501).reach 108000).time.tick ∧
    k.identity ≠ .reading ∧ k.identityLimit = none ∧
    (0x01 : Byte) + 0x02 + 0x03 + 0x04 + 0x05 + 0x06 + 0x07 + 0x08 + 0xDC = 0 := by decide +kernel

/-- A docked fixture whose lines have fallen, in each group of sequencer states. -/
theorem witness_UndockAndVacuumLossHaltARun :
    let fallen : LineFilter := ⟨false, true, some 900⟩
    let p := docked Part.fresh
    let q : Part := { p with lock := { p.lock with presentLine := fallen, vacuumLine := fallen } }
    let away : Part := { q with lock := { q.lock with docked := false } }
    (∀ x ∈ [SeqState.running, .pausing, .halted, .stopped, .paused, .drained, .stopping].map (inSeq q),
      x.lock.presentLine.wait = some 900 ∧ x.lock.presentLine.raw = false ∧ x.lock.vacuumLine.wait = some 900 ∧
      x.lock.vacuumLine.raw = false ∧ x.lock.docked = true ∧ x.noneActive = true ∧ x.disp.direct = none ∧
      EngineId.all.all (fun e => decide ((x.engine e).phase ≠ some .abortDischarge)) = true ∧ x.noRemainder = true) ∧
    away.lock.docked = false ∧ away.lock.vacuumLine.wait = some 900 := by decide +kernel

/-- A CAP step in DISCHARGE and one in ABORT_DISCHARGE, a step in INTEGRATE, and a docked fixture whose lines fall; and
a scan. -/
theorem witness_AbortsEndOrDischargeActiveEngines :
    let cap : StepRecord := { plainStep with kind := .cap }
    let waits := fun g : Engine => { g with phaseWait := some 10000 }
    let line : LineFilter := ⟨false, true, some 900⟩
    let falling := fun q : Part =>
      ({ docked q with lock := { (docked q).lock with presentLine := line, vacuumLine := line } } : Part)
    let scans := Part.fresh.setEngine .me0 (running { plainStep with kind := .scan } (some 0) .integrate)
    (measuring cap .discharge waits).AloneActive .me0 ⟨some 0, cap, some plainNails, false, false⟩ (flying cap (some 0)) ∧
    (measuring cap .abortDischarge waits).AloneActive .me0 ⟨some 0, cap, some plainNails, false, false⟩
      (flying cap (some 0)) ∧
    (falling (measuring plainStep .integrate id)).AloneActive .me0 ⟨some 0, plainStep, some plainNails, false, false⟩
      (flying plainStep (some 0)) ∧
    (served (measuring cap .discharge waits)).Serving 1 ∧ (served (measuring plainStep .integrate id)).Serving 1 ∧
    (measuring plainStep .integrate id).disp.seq = .running ∧
    (falling (measuring plainStep .integrate id)).lock.presentLine.wait = some 900 ∧
    (falling (measuring plainStep .integrate id)).lock.vacuumLine.wait = some 900 ∧
    (falling (measuring plainStep .integrate id)).lock.docked = true ∧
    ((measuring cap .discharge waits).engine .me0).phase = some .discharge ∧
    ((measuring cap .abortDischarge waits).engine .me0).phase = some .abortDischarge ∧
    (scans.engine .me0).work.map (·.record.kind) = some .scan ∧ (scans.engine .me0).state = .active ∧
    (scans.plan .me0).quiet = false ∧ (scans.engine .me1).state ≠ .active := by
  refine ⟨measuring_alone _ _ _ (by decide) rfl rfl, measuring_alone _ _ _ (by decide) rfl rfl, ?_,
    served_serving _ _ (by decide) rfl rfl (by decide), served_serving _ _ (by decide) rfl rfl (by decide),
    by decide +kernel⟩
  have h := measuring_alone plainStep .integrate id (by decide) rfl rfl
  exact ⟨⟨h.measures.active, h.measures.work, h.measures.notScan, h.measures.entry⟩, h.origin, h.quiet, h.block,
    h.reserved, h.others, h.direct⟩

/-! ### Witnesses: the Timebase and the relay matrix -/

theorem witness_ReferenceFollowsItsTable :
    let t := Part.fresh.time
    t.ref = .recovery ∧ t.verification = none ∧ ({ t with ref := .external } : Timebase).ref = .external ∧
    ({ t with ref := .verifying, verification := some 100000 } : Timebase).ref = .verifying ∧
    ({ t with ref := .verifying, verification := some 100000 } : Timebase).verification = some 100000 := by decide +kernel

theorem witness_WaitsAreLengthenedOutsideExternal :
    let r : Relay := { (withCards Part.fresh).relay with link := .update 3 ⟨none, []⟩ 77 }
    let moving : Card := ⟨.ready, ⟨none, none⟩, [(⟨5, .sh⟩, .opening 25000), (⟨6, .sl⟩, .closing 40000)], 1⟩
    let g : Engine := { Engine.reset with phase := some .settle, phaseWait := some 9, interval := some 8, timeout := some 7 }
    r.link = .update 3 ⟨none, []⟩ 77 ∧ State.reset.part.time.ref = .recovery ∧
    ({ Part.fresh.time with ref := .external } : Timebase).ref = .external ∧
    (0, moving) ∈ ([(0, moving)] : List (Nat × Card)) ∧ (⟨6, .sl⟩, Motion.closing 40000) ∈ moving.relays ∧
    moving.waits = [25000, 40000] ∧ g.phaseWait = some 9 ∧ g.interval = some 8 ∧ g.timeout = some 7 ∧
    g.phase = some .settle := by decide +kernel

/-- R80, R93: an undock that finds card 0 HELD flushes the queue and queues the card's release, which the end of its
ALL_OPEN removes again. -/
theorem test_undock_queues_releases :
    let shut : Card := ⟨.ready, ⟨some .me0, some .closed⟩, [(⟨5, .sh⟩, .closed)], 1⟩
    let r := (withCards Part.fresh).relay
    let p := docked { Part.fresh with relay := { r with
      cards := [(0, shut)], queue := [⟨1, ⟨none, []⟩, .final⟩]
      plans := r.plans.set .me0 ⟨.none, [], [⟨5, .sh⟩], some 9000, false⟩ } }
    let q : Part := { p with lock := { p.lock with presentLine := ⟨false, true, some 900⟩ } }
    let t := after (.debounceComplete .fixturePresent) (served q)
    t.relay.link = .allOpen 900 ∧ t.relay.queue = [⟨0, ⟨none, []⟩, .final⟩] ∧ t.relay.assignment 0 = .unassigned ∧
    (after .allOpenEnd ⟨t, []⟩).relay.queue = [] := by decide +kernel

/-- The start-up ALL_OPEN, the queries of positions 0 and 63, an ALL_OPEN, and a link that carries none of them. -/
theorem witness_EnumerationAndAllOpenEnd :
    let on := fun l : CardLink => ({ Part.fresh with relay := { Part.fresh.relay with link := l } } : Part)
    let opened := fun q : Part => (q.reach 1205).relay.endAllOpen (q.reach 1205).time
    let shut : Card := ⟨.ready, ⟨none, none⟩, [(⟨5, .sh⟩, .closed)], 1⟩
    let closed : Part := { Part.fresh with relay := { Part.fresh.relay with link := .allOpen 5, cards := [(0, shut)] } }
    State.reset.part.relay.link = .startupAllOpen 0 ∧
    (on (.query 0 1200 27763)).relay.link = .query 0 1200 27763 ∧
    (on (.query 63 76800 27763)).relay.link = .query 63 76800 27763 ∧ (on (.query 63 76800 27763)).noStillWait = true ∧
    (on (.allOpen 5)).relay.link = .allOpen 5 ∧ (on (.allOpen 5)).noStillWait = true ∧
    EngineId.all.all (fun e => !(opened (on (.allOpen 5))).standsReady e && !(opened closed).standsReady e) = true ∧
    (inSeq (on (.allOpen 5)) .stopping).ringInFlight = false ∧ (inSeq (on (.allOpen 5)) .stopping).noRemainder = true ∧
    ((opened (on (.allOpen 5))).look 1205).matrixOpen = true ∧ ((opened closed).look 1205).matrixOpen = false ∧
    (on (.allOpen 5)).disp.seq ≠ .stopping ∧ (on .idle).relay.link = .idle := by decide +kernel

/-- A queue whose older update waits for a card in motion, a pending ALL_OPEN, a quiet phase, an update on the link
to a card that no plan uses and to one that the plan of an engine in ABORT_DISCHARGE uses, and an acknowledgement after
the 40 µs. -/
theorem witness_CardLinkStartsAndEndsTransactions :
    let moving : Card := ⟨.ready, ⟨none, none⟩, [(⟨5, .sh⟩, .opening 25000)], 1⟩
    let r : Relay := { (withCards Part.fresh).relay with
      cards := [(0, moving), (1, ⟨.ready, ⟨none, none⟩, [], 0⟩)]
      queue := [⟨0, ⟨none, []⟩, .final⟩, ⟨1, ⟨none, []⟩, .final⟩] }
    let quiet : Relay := { r with plans := r.plans.set .me2 ⟨.ready, [], [], none, true⟩ }
    let p : Part := { Part.fresh with relay := { r with link := .update 1 ⟨none, []⟩ 77 } }
    let bare : Card := ⟨.ready, ⟨some .me0, some .closed⟩, [], 2⟩
    let held : Part := { p with relay := { p.relay with cards := [(1, bare)] } }
    let failing : Ev := { Ev.start held with first := [.notice (.card 1 4077 2 none)] }
    let ending := fun (q : Part) => inSeq q .stopping
    let holding : Relay := { p.relay with
      cards := p.relay.cards.filter (fun c => c.1 ≠ 0) ++ [(2, ⟨.ready, ⟨some .me0, some .closed⟩, [], 2⟩)] }
    let planned : Part := ({ p with
      relay := { p.relay with plans := p.relay.plans.set .me0 ⟨.releaseAtEnd, [⟨70, .sh⟩], [], none, false⟩ } }).setEngine .me0
        (running plainStep (some 0) .abortDischarge)
    r.link = .idle ∧ r.allOpenPending = false ∧
    EngineId.all.all (fun e => !(r.plans.get e).quiet) = true ∧ (r.card 0).inMotion = true ∧ (r.card 1).inMotion = false ∧
    (quiet.plans.get .me2).quiet = true ∧ ({ r with allOpenPending := true } : Relay).allOpenPending = true ∧
    p.relay.link = .update 1 ⟨none, []⟩ 77 ∧ p.noStillWait = true ∧ p.relay.plannedTo 1 = none ∧
    planned.relay.plannedTo 1 = some .me0 ∧ (planned.engine .me0).phase = some .abortDischarge ∧
    EngineId.all.filter (p.relay.holdsBack 1 ⟨none, []⟩) = [] ∧ [EngineId.me0].filter (held.relay.holdsBack 1 ⟨none, []⟩) = [.me0] ∧
    [EngineId.me0].foldl Ev.judgeReady failing = { failing with p := failing.p } ∧ failing.p.noStillWait = true ∧
    failing.p.nothingToDispatch = true ∧ p.time.tick ≤ 77 + 4000 ∧ p.relay.expired ≠ some 77 ∧
    ({ p.relay with expired := some 77 } : Relay).expired = some 77 ∧ p.time.tick < 77 + 1200 ∧ 77 + 4000 < ({ p.time with tick := 4078 } : Timebase).tick ∧
    (ending p).disp.seq = .stopping ∧ (ending p).ringInFlight = false ∧ (ending p).noRemainder = true ∧
    (ending p).nothingToDispatch = true ∧ (ending p).noStillWait = true ∧ (ending p).relay.matrixOpen = false ∧
    (after .cardAckTimeout ⟨ending { p with relay := holding }, []⟩).disp.seq = .stopping ∧
    (after .cardAckTimeout ⟨ending { p with relay := { p.relay with cards := [(1, bare)], queue := [] } }, []⟩).disp.seq =
      .stopped ∧
    p.disp.seq ≠ .stopping ∧ p.nothingToDispatch = true ∧ Part.fresh.relay.link ≠ .update 1 ⟨none, []⟩ 77 := by
  decide +kernel

/-- A card in motion, the last opening of a STOP, and the hold of an engine. -/
theorem witness_MotionAndHoldEnd :
    let moving : Card := ⟨.ready, ⟨none, none⟩, [(⟨5, .sh⟩, .opening 25000)], 1⟩
    let p : Part := inSeq { Part.fresh with
      relay := { Part.fresh.relay with link := .idle, cards := [(0, moving), (1, ⟨.ready, ⟨none, none⟩, [], 0⟩)] } } .stopping
    let x := p.relay.card 0
    let q := p.reach x.lastDue
    let held := p.relay.plans.set .me1 ⟨.none, [], [⟨5, .sh⟩], some 500000, false⟩
    x.inMotion = true ∧ (p.relay.card 1).inMotion = false ∧ p.noStillWait = true ∧
    EngineId.all.all (fun e => !((q.relay.setCard 0 x.settled).deriveAtRest 0).standsReady e) = true ∧
    p.ringInFlight = false ∧ (((q.relay.setCard 0 x.settled).deriveAtRest 0).look q.time.tick).matrixOpen = true ∧
    p.noRemainder = true ∧ (inSeq p .running).disp.seq ≠ .stopping ∧ (p.plan .me1).hold = none ∧
    (held.get .me1).hold = some 500000 := by decide +kernel

/-- The last closing of engine 0's plan while a link update serves another card, and a plan of no pairs at the end of an
ALL_OPEN. -/
theorem witness_ConnectionReadyIsJudgedWhenTheMatrixSettles :
    let closing := plainNails.pairs.map fun x => (x, Motion.closing 40000)
    let card : Card := ⟨.ready, ⟨some .me0, some (.closing 40000)⟩, closing, 5⟩
    let plan : EnginePlan := ⟨.connecting, plainNails.pairs, [], none, false⟩
    let p : Part := { measuring plainStep .connect id with
      relay := { Part.fresh.relay with
        link := .update 1 ⟨none, []⟩ 39000, cards := [(0, card), (1, ⟨.ready, ⟨none, none⟩, [], 0⟩)],
        plans := Part.fresh.relay.plans.set .me0 plan } }
    let q := p.reach (p.relay.card 0).lastDue
    let rested := (q.relay.setCard 0 (p.relay.card 0).settled).deriveAtRest 0
    let told : Part := { q with relay := rested.markReady .me0 }
    let after := ((Ev.start told).connectionReady .me0).p
    let bare : Part := { measuring plainStep .connect id with
      relay := { Part.fresh.relay with link := .allOpen 5,
                                       plans := Part.fresh.relay.plans.set .me0 { plan with wanted := [] } } }
    let opened := (bare.reach 1205).relay.endAllOpen (bare.reach 1205).time
    (p.relay.card 0).inMotion = true ∧ p.noStillWait = true ∧ p.disp.seq ≠ .stopping ∧ rested.standsReady .me0 = true ∧
    EngineId.all.all (fun f => decide (f = .me0) || !rested.standsReady f) = true ∧
    (Ev.start told).connectionReady .me0 = { Ev.start told with p := after } ∧ after.noStillWait = true ∧
    (after.engine .me0).phase = some .settle ∧
    bare.relay.link = .allOpen 5 ∧ opened.standsReady .me0 = true ∧
    EngineId.all.all (fun f => decide (f = .me0) || !opened.standsReady f) = true := by decide +kernel

/-- A card at rest whose connection changes its engine, and one that only regroups a nail. -/
theorem witness_UpdatesBreakBeforeTheyMake :
    let x : Card := ⟨.ready, ⟨some .me1, some .closed⟩, [(⟨330, .sl⟩, .closed), (⟨330, .kl⟩, .closed)], 3⟩
    let target : Image := ⟨some .me1, [⟨330, .sh⟩, ⟨330, .kh⟩]⟩
    let grouped := fun l : List Pair => l.all fun a => l.all fun b =>
      decide (a.nail = b.nail → a.role.group = b.role.group)
    x.inMotion = false ∧ grouped target.closed = true ∧ target.connection ≠ none ∧
    (x.connection.engine.isSome = true ∧ x.connection.motion.isSome = true) ∧
    (∀ m, x.connection.motion = some m → m.towardsClosed = true) ∧
    grouped ((x.relays.filter fun z => z.2.towardsClosed).map (·.1)) = true ∧
    (nextUpdate x.destination target).2 = .stageA := by
  refine ⟨by decide, by decide +kernel, by decide, by decide, ?_, by decide +kernel, by decide +kernel⟩
  intro m h
  cases h
  rfl
/-! ### Witnesses: the engines -/

/-- An engine in CONNECT with a step of each clause, and one in SETTLE. -/
theorem witness_ConnectionReadyStartsTheFirstPhase :
    let at_ := fun (r : StepRecord) (ph : Phase) => (measuring r ph id).engine .me0
    let nulling : StepRecord := { plainStep with flags := 0 }
    let quiet : StepRecord := { plainStep with flags := 0x10 }
    let cap : StepRecord := { plainStep with kind := .cap }
    let moving : Card := ⟨.ready, ⟨none, none⟩, [(⟨70, .sh⟩, .opening 25000)], 1⟩
    let p := measuring quiet .connect id
    (∀ r ∈ [plainStep, nulling, quiet, cap], (at_ r .connect).phase = some .connect ∧
      (at_ r .connect).work.map (·.record) = some r ∧ (at_ r .connect).stillWait = false) ∧
    (at_ plainStep .settle).phase ≠ some .connect ∧ plainStep.flags.getLsbD 6 = true ∧ nulling.flags.getLsbD 6 = false ∧
    nulling.isQuiet = false ∧ quiet.flags.getLsbD 6 = false ∧ quiet.isQuiet = true ∧
    (p.relay.setCard 1 moving).still = false := by decide +kernel

/-- The first and the fourth null sample, a sample of INTEGRATE that is not the last, the end of an interval and of
a settle, and a QUIET settle in a matrix that is not still. -/
theorem witness_SamplesAreRequestedAndAccumulated :
    let quiet : StepRecord := { plainStep with flags := 0x50 }
    let g := fun (r : StepRecord) (ph : Phase) (f : Engine → Engine) => (measuring r ph f).engine .me0
    let asked := fun k : Engine => { k with request := some 9, timeout := some 10000, interval := some 2000 }
    let settling := fun k : Engine => { k with phaseWait := some 2000 }
    let moving : Card := ⟨.ready, ⟨none, none⟩, [(⟨70, .sh⟩, .opening 25000)], 1⟩
    (∀ r ∈ [plainStep, quiet], (g r .settle settling).phaseWait = some 2000 ∧ (g r .settle settling).work.isSome = true) ∧
    (g plainStep .null asked).request = some (9 : Byte).toNat ∧ (g plainStep .null asked).nullCount ≠ 3 ∧
    (g plainStep .null fun k => { asked k with nullCount := 3 }).nullCount = 3 ∧
    ((measuring plainStep .null asked).plan .me0).quiet = false ∧
    (g plainStep .integrate asked).sampleCount + 1 ≠ (g plainStep .integrate asked).n ∧
    (g plainStep .integrate asked).interval = some 2000 ∧ (g plainStep .integrate id).interval = none ∧
    (g plainStep .integrate asked).request ≠ some (10 : Byte).toNat ∧ plainStep.isQuiet = false ∧ quiet.isQuiet = true ∧
    ((measuring quiet .settle settling).relay.setCard 1 moving).still = false := by decide +kernel

/-- A QUIET step asked in a still matrix and in a moving one, its settle and its fourth null sample in a quiet phase, and
the end of the last motion with nothing queued and with an update queued. -/
theorem witness_QuietPhasesDeferUpdatesAndEnd :
    let quiet : StepRecord := { plainStep with flags := 0x10 }
    let at_ := fun (ph : Phase) (f : Engine → Engine) => measuring quiet ph f
    let waits := fun g : Engine => { g with stillWait := true }
    let settles := fun g : Engine => { g with phaseWait := some 2000 }
    let fourth := fun g : Engine => { g with request := some 9, nullCount := 3 }
    let moving : Card := ⟨.ready, ⟨none, none⟩, [(⟨70, .sh⟩, .opening 25000)], 1⟩
    let stirred := fun q : Part => ({ q with relay := q.relay.setCard 1 moving } : Part)
    let sampling : Part := (at_ .null fourth).setPlan .me0 { (at_ .null fourth).plan .me0 with quiet := true }
    let rested := fun q : Part =>
      ((q.reach (q.relay.card 1).lastDue).relay.setCard 1 (q.relay.card 1).settled).deriveAtRest 1
    let p := stirred (at_ .connect waits)
    let queued : Part := { p with relay := { p.relay with queue := [⟨2, ⟨none, []⟩, .final⟩] } }
    quiet.isQuiet = true ∧ quiet.flags.getLsbD 6 = false ∧ ((at_ .connect id).engine .me0).stillWait = false ∧
    ((at_ .connect waits).engine .me0).stillWait = true ∧ ((at_ .settle waits).engine .me0).stillWait = true ∧
    ((at_ .connect id).engine .me0).work.map (·.record) = some quiet ∧
    (at_ .connect id).relay.still = true ∧ (at_ .connect id).relay.wouldStart = false ∧
    (stirred (at_ .connect id)).relay.still = false ∧
    ((at_ .settle settles).engine .me0).phaseWait = some 2000 ∧ (stirred (at_ .settle settles)).relay.still = false ∧
    (sampling.engine .me0).phase = some .null ∧ (sampling.engine .me0).request = some (9 : Byte).toNat ∧
    (sampling.engine .me0).nullCount = 3 ∧ (sampling.plan .me0).quiet = true ∧ sampling.noStillWait = true ∧
    EngineId.all.all (fun f => (p.engine f).stillWait == decide (f = .me0) && !(rested p).standsReady f &&
      !(rested queued).standsReady f) = true ∧
    p.disp.seq ≠ .stopping ∧ (p.relay.card 1).inMotion = true ∧ (rested p).allOpenPending = false ∧
    (rested p).still = true ∧ (rested p).wouldStart = false ∧ (rested queued).wouldStart = true ∧
    (rested { p with relay := p.relay.setCard 2 moving }).still = false := by decide +kernel

/-- A step of slot 0 with every result record reserved ends alone. -/
theorem measuring_endsAlone (ph : Phase) (f : Engine → Engine)
    (hs : (f (running plainStep (some 0) ph)).state = .active)
    (hw : (f (running plainStep (some 0) ph)).work = some ⟨some 0, plainStep, some plainNails, false, false⟩) :
    (noRecord (measuring plainStep ph f)).EndsAlone .me0 ⟨some 0, plainStep, some plainNails, false, false⟩
      (flying plainStep (some 0)) where
  measures := ⟨hs, hw, by decide, rfl⟩
  ring := ⟨rfl, by show 0 < 1024 ∧ 1 < 1024 ∧ 1 < 1024; decide⟩
  still := fun h => nomatch (show false = true from h)
  block := .inl rfl
  reserved := by show 1 ≤ 512; decide
  nothing := .inl ⟨rfl, by show decide (([] : List ResultRecord).length + 512 < 512) = false; decide⟩

/-- A part that streams blocks of one record. -/
def streaming (p : Part) : Part := { p with queue := { p.queue with block := 1 } }

/-- The last step of a ring in RUNNING, whose record fills a block, ends alone. -/
theorem streaming_endsAlone (ph : Phase) (f : Engine → Engine)
    (hs : (f (running plainStep (some 0) ph)).state = .active)
    (hw : (f (running plainStep (some 0) ph)).work = some ⟨some 0, plainStep, some plainNails, false, false⟩) :
    (streaming (measuring plainStep ph f)).EndsAlone .me0 ⟨some 0, plainStep, some plainNails, false, false⟩
      (flying plainStep (some 0)) where
  measures := ⟨hs, hw, by decide, rfl⟩
  ring := ⟨rfl, by show 0 < 1024 ∧ 1 < 1024 ∧ 1 < 1024; decide⟩
  still := fun h => nomatch (show false = true from h)
  block := .inr ⟨rfl, by show ScannerState.idle ≠ .waitingSpace; decide⟩
  reserved := Nat.le_refl 1
  nothing := .inr ⟨.inr (by
    show (⟨[(0, ⟨.active, some plainStep⟩)], 0, 1, 1⟩ : Ring).pendingSlots = []
    decide +kernel), .inr rfl⟩

/-- The same part with its engine in a quiet phase, another update waiting behind it. -/
def quieted (p : Part) : Part := p.setPlan .me0 { p.plan .me0 with quiet := true }

/-- A step in a quiet phase ends alone, no other engine waiting for a still matrix. -/
theorem quieted_endsAlone (ph : Phase) (f : Engine → Engine)
    (hs : (f (running plainStep (some 0) ph)).state = .active)
    (hw : (f (running plainStep (some 0) ph)).work = some ⟨some 0, plainStep, some plainNails, false, false⟩) :
    (quieted (noRecord (measuring plainStep ph f))).EndsAlone .me0 ⟨some 0, plainStep, some plainNails, false, false⟩
      (flying plainStep (some 0)) where
  measures := ⟨hs, hw, by decide, rfl⟩
  ring := ⟨rfl, by show 0 < 1024 ∧ 1 < 1024 ∧ 1 < 1024; decide⟩
  still := by
    intro _ e he
    cases e
    · exact absurd rfl he
    all_goals rfl
  block := .inl rfl
  reserved := by show 1 ≤ 512; decide
  nothing := .inl ⟨rfl, by show decide (([] : List ResultRecord).length + 512 < 512) = false; decide⟩

/-- The last sample, the sample timeout, the compliance report, the end of a post-discharge and of an abort's
discharge, and a declined re-plan; a last sample whose record fills a block; one in a quiet phase; and one in RUNNING with
a PENDING slot behind it, records free and blocks of two records. -/
theorem witness_StepsEndWithTheirRecord :
    let w : Work := ⟨some 0, plainStep, some plainNails, false, false⟩
    let x := flying plainStep (some 0)
    let last := fun g : Engine => { g with request := some 9, timeout := some 100, sampleCount := 1, stimulus := some 3 }
    let waiting := fun g : Engine => { g with phaseWait := some 10000, formed := some ⟨.pass, some 5⟩, abort := some (.stopped, true) }
    let declined := fun g : Engine => { g with replan := .declined }
    let p := noRecord (measuring plainStep .integrate last)
    let quiet := quieted p
    let follows : Part := { measuring plainStep .integrate last with
      queue := ⟨[], 1, 2, 0⟩
      ring := ⟨[(0, ⟨.active, some plainStep⟩), (1, ⟨.pending, some plainStep⟩)], 0, 1, 2⟩ }
    (p.EndsAlone .me0 w x ∧ (streaming (measuring plainStep .integrate last)).EndsAlone .me0 w x ∧
      (noRecord (measuring plainStep .postDischarge waiting)).EndsAlone .me0 w x ∧
      (noRecord (measuring plainStep .abortDischarge waiting)).EndsAlone .me0 w x ∧
      (noRecord (measuring plainStep .integrate declined)).EndsAlone .me0 w x ∧ quiet.EndsAlone .me0 w x) ∧
    (follows.Measures .me0 w x ∧ follows.AloneInQuiet .me0) ∧
    (quiet.plan .me0).quiet = true ∧ follows.disp.seq = .running ∧ follows.ring.pendingSlots = [1] ∧
    follows.recordFree = true ∧ follows.queue.records.length < follows.queue.block ∧ p.queue.block = 0 ∧
    (∀ q ∈ [p, quiet, follows], (q.engine .me0).request = some (9 : Byte).toNat ∧
      (q.engine .me0).phase = some .integrate ∧ (q.engine .me0).sampleCount + 1 = (q.engine .me0).n ∧
      (q.engine .me0).timeout = some 100 ∧ (q.engine .me0).phase ≠ some .ramp ∧ (q.engine .me0).stimulus ≠ none) ∧
    plainStep.flags.getLsbD 5 = false ∧
    (waiting (running plainStep (some 0) .abortDischarge)).phase = some .abortDischarge ∧
    (waiting (running plainStep (some 0) .abortDischarge)).phaseWait = some 10000 ∧
    (waiting (running plainStep (some 0) .abortDischarge)).abort = some (.stopped, true) :=
  ⟨⟨measuring_endsAlone _ _ rfl rfl, streaming_endsAlone _ _ rfl rfl, measuring_endsAlone _ _ rfl rfl,
    measuring_endsAlone _ _ rfl rfl, measuring_endsAlone _ _ rfl rfl, quieted_endsAlone _ _ rfl rfl⟩,
   ⟨⟨rfl, rfl, by decide, rfl⟩, fun h => nomatch (show false = true from h)⟩, by decide +kernel⟩

/-- R84, R120: the last sample of a step in a quiet phase leaves it, and the link starts what was deferred. -/
theorem test_step_end_leaves_a_quiet_phase :
    let last := fun g : Engine => { g with request := some 9, timeout := some 100, sampleCount := 1, stimulus := some 3 }
    let p := quieted (noRecord (measuring plainStep .integrate last))
    let t := after (.sample .me0 9 5) (served { p with relay := { p.relay with queue := [⟨2, ⟨none, []⟩, .final⟩] } })
    (t.plan .me0).quiet = false ∧ t.relay.link = .update 2 ⟨none, []⟩ 0 := by decide +kernel

/-- R171, R175: the end of a step whose record is the B-th hands the full block in its event. -/
theorem test_step_end_fills_a_block :
    let last := fun g : Engine => { g with request := some 9, timeout := some 100, sampleCount := 1, stimulus := some 3 }
    let t := after (.sample .me0 9 5) (served (streaming (measuring plainStep .integrate last)))
    t.queue.records = [] ∧ t.queue.blockNumber = 1 ∧ t.queue.reserved = 0 ∧ t.link.transmit.length = 2 := by decide +kernel

/-- An update of card 0 on the link, which the plan of engine 0's step uses, with and without blocks. -/
theorem witness_AFailedCardFaultsTheStepThatUsesIt :
    let w : Work := ⟨some 0, plainStep, some plainNails, false, false⟩
    let x := flying plainStep (some 0)
    let uses := fun q : Part => ({ q with relay := { q.relay with
      link := .update 0 ⟨some .me0, plainNails.pairs⟩ 77
      plans := q.relay.plans.set .me0 ⟨.connecting, plainNails.pairs, [], none, false⟩ } } : Part)
    let p := uses (noRecord (measuring plainStep .settle id))
    (uses (streaming (measuring plainStep .settle id))).EndsAlone .me0 w x ∧ (p.plan .me0).quiet = false ∧
    p.relay.link = .update 0 ⟨some .me0, plainNails.pairs⟩ 77 ∧ p.relay.plannedTo 0 = some .me0 ∧ p.EndsAlone .me0 w x ∧
    x.origin = w.origin ∧ p.noStillWait = true ∧
    EngineId.all.all (fun f => !p.relay.holdsBack 0 ⟨some .me0, plainNails.pairs⟩ f) = true ∧
    (p.engine .me0).phase = some .settle ∧ p.disp.seq = .running := by
  have h := measuring_endsAlone .settle id rfl rfl
  have b := streaming_endsAlone .settle id rfl rfl
  exact ⟨⟨⟨b.measures.active, b.measures.work, b.measures.notScan, b.measures.entry⟩, b.ring, b.still, b.block, b.reserved,
    b.nothing⟩, rfl, rfl, rfl, ⟨⟨h.measures.active, h.measures.work, h.measures.notScan, h.measures.entry⟩, h.ring, h.still,
    h.block, h.reserved, h.nothing⟩, rfl, rfl, rfl, rfl, rfl⟩

/-- A CAP step in DISCHARGE, in RAMP with its unit ARMED, and in POST_DISCHARGE with the outcome OPEN and RETRY_ALT. -/
theorem witness_CapRampsAreArmedCapturedAndDischarged :
    let cap : StepRecord := { plainStep with kind := .cap, flags := 0x20 }
    let waiting := fun g : Engine => { g with phaseWait := some 10000, stimulus := some 3, formed := some ⟨.openCircuit, none⟩ }
    let in_ := fun ph : Phase => ((measuring cap ph waiting).setCapture .me0 ⟨.armed, some 4000, none, true⟩)
    (∀ ph ∈ [Phase.discharge, .ramp, .postDischarge], ((in_ ph).engine .me0).phase = some ph ∧
      ((in_ ph).engine .me0).phaseWait = some 10000 ∧ ((in_ ph).engine .me0).work.map (·.record) = some cap ∧
      ((in_ ph).engine .me0).formed.map (·.verdict) = some .openCircuit ∧ ((in_ ph).engine .me0).retry = false ∧
      ((in_ ph).time.captures.get .me0).state = .armed ∧ ((in_ ph).time.captures.get .me0).armTick = some 4000) ∧
    ((in_ .ramp).engine .me0).stimulus ≠ none ∧ cap.flags.getLsbD 5 = true ∧
    (Part.fresh.time.captures.get .me0).state ≠ .armed := by decide +kernel

/-- A RETRY_ALT step whose nets have alternate nails, one whose nets have none, and the answers. -/
theorem witness_ReplansTakeAlternatesOrDecline :
    let r : StepRecord := { plainStep with flags := 0x60 }
    let p := measuring r .integrate fun g => { g with stimulus := some 3 }
    let asks := measuring r .integrate fun g => { g with replan := .requested }
    let answered := measuring r .integrate fun g => { g with replan := .replanned }
    let more : Part := { asks with map := { asks.map with nails := asks.map.nails ++ [(70, ⟨1, .good⟩), (71, ⟨1, .suspect⟩)] } }
    let alternates := fun (q : Part) (net : Nat) (used : List Nat) =>
      (q.candidates (some .me0) net).filter fun m => decide (m ∉ used)
    (p.engine .me0).work.map (·.record) = some r ∧ r.kind ≠ .scan ∧ (p.engine .me0).stimulus ≠ none ∧
    (p.engine .me0).phase ≠ some .ramp ∧ r.flags.getLsbD 5 = true ∧ (p.engine .me0).retry = false ∧
    (p.plan .me0).quiet = false ∧ (asks.engine .me0).replan = .requested ∧
    asks.disp.inFlight.get .me0 = some (flying r (some 0)) ∧ (flying r (some 0)).nails = some plainNails ∧
    alternates asks 1 [5, 5] = [] ∧ alternates asks 2 [6, 6] = [] ∧ asks.disp.seq ≠ .stopping ∧
    alternates more 1 [5, 5] = [70, 71] ∧ alternates more 2 [6, 6] = [] ∧
    (answered.engine .me0).replan = .replanned := by decide +kernel

theorem witness_ValuesAndVerdictsFollowTheArithmetic :
    let p : Part := { Part.fresh with map := { Part.fresh.map with attrs := [(2, ⟨false, true⟩)] } }
    1 ≤ sampleN 0 ∧ 1 ≤ sampleN 1 ∧ 1 ≤ plainStep.threshold ∧ 2 < 3 ∧ (p.attrs 2).tender = true ∧
    (p.attrs 1).tender = false ∧
    formIntegrated plainStep 0 0 0 8388607 1 false ≠ ⟨.overrange, none⟩ ∧
    formIntegrated plainStep 0 0 0 8388608 1 false = ⟨.overrange, none⟩ ∧
    (formScanTest plainStep 3 (-8388607) 1 false).isSome = true ∧ formScanTest plainStep 3 (-8388608) 1 false = none := by
  decide +kernel

/-- Both sides of each equivalence are met: a chosen nail, a chosen engine and a group plan. -/
theorem witness_NailsAndEnginesAreChosenByRank :
    let p := twoNets (withCards Part.fresh)
    p.best .me0 [] .sh [5, 6] = some 5 ∧ p.chooseEngine { plainStep with mask := 0xC } = some .me2 ∧
    p.groupPlan .me0 true 1 [2] = .ok [⟨5, .sh⟩, ⟨5, .kh⟩, ⟨6, .sl⟩, ⟨6, .kl⟩] := by decide +kernel

/-! ### Witnesses: the scanner, the blocks and the invariants -/

/-- A SCAN record over nets 1 to 5. -/
def scanStep : StepRecord := { plainStep with kind := .scan, low := 5, threshold := 5000 }

/-- A scan of five nets, its probe at position 0, with a test of a purpose under way and a stack. -/
def scanning (purpose : TestPurpose) (stack : List StackEntry) : Part :=
  let p := withCards (frozen { Part.fresh with
    map := { Part.fresh.map with
      nails := (List.range 5).map fun i => (i, ⟨i + 1, .good⟩)
      attrs := (List.range 5).map fun i => (i + 1, ⟨true, false⟩) } })
  let q := (inSeq p .running).setEngine .me0 (running scanStep (some 0) .integrate)
  { q.setEntry .me0 (some (flying scanStep (some 0))) with
    ring := ⟨[(0, ⟨.active, some scanStep⟩)], 0, 1, 1⟩
    queue := { q.queue with reserved := 1 }
    scanner := { Scanner.reset with
      state := .testing, scan := some ⟨some 0, .me0, scanStep⟩
      members := ⟨1, .probed⟩ :: (List.range 4).map fun i => ⟨i + 2, .untested⟩
      probe := some 0, stack := stack, test := some ⟨purpose, 0, 1, 2, false⟩ } }

/-- A stack of each evidence, a pending pair with and without a free record, and a removal after which the scan goes
on with its next test. -/
theorem witness_ScansStartPopAndResume :
    let known : StackEntry := ⟨1, 1, some ⟨9, false⟩⟩
    let unknown : StackEntry := ⟨2, 4, none⟩
    let q := scanning .probe [unknown]
    let stored := List.replicate 511 (unservedRecord none plainStep .fault .noEngine)
    let p : Part := inSeq { q with
      queue := { q.queue with records := stored, reserved := 1 }
      scanner := { q.scanner with state := .waitingSpace, pendingPair := some (1, ⟨9, false⟩), test := none } } .pausing
    let taken : Part := { p with queue := { p.queue with records := stored.drop 1 } }
    scanStep.kind = .scan ∧ (scanning .probe [known]).scanner.stack = [known] ∧ q.scanner.stack = [unknown] ∧
    q.scanner.run 2 4 = [2, 3, 4] ∧ q.scanner.run 5 6 = [] ∧ q.scanner.state ≠ .waitingSpace ∧
    p.link.inProgress = none ∧ p.link.buffer = [] ∧ (1 : Byte).toNat = 1 ∧ p.queue.records ≠ [] ∧
    p.scanner.scan = some ⟨some 0, .me0, scanStep⟩ ∧ p.scanner.state = .waitingSpace ∧
    p.scanner.pendingPair = some (1, ⟨9, false⟩) ∧ p.scanner.pairs ≠ 255 ∧ p.recordFree = false ∧
    taken.recordFree = true ∧ p.queue.block = 0 ∧ p.disp.seq = .pausing ∧ p.disp.direct = none ∧
    ((Ev.start taken).pendingReported ⟨some 0, .me0, scanStep⟩ 1 ⟨9, false⟩).nextWork.completions = [] ∧
    ((Ev.start taken).pendingReported ⟨some 0, .me0, scanStep⟩ 1 ⟨9, false⟩).nextWork.p.scanner.test =
      some ⟨.unknownEntry unknown, 0, 2, 4, false⟩ := by decide +kernel

/-- The last sample, a compliance report and a timeout of a scan's engine, an engine in RESULT_WAIT, a last plan card
FAILED, and a member whose only card has failed. -/
theorem witness_ScanEnginesReportToTheScanner :
    let p := scanning .probe []
    let at_ := fun f : Engine → Engine => p.setEngine .me0 (f (p.engine .me0))
    let last := at_ fun g => { g with request := some 9, timeout := some 100, sampleCount := 1, stimulus := some 3 }
    let waits := at_ fun g => { g with phase := some .resultWait }
    let broken := fun q : Part => ({ q with
      relay := { q.relay with cards := [(0, ⟨.failed, ⟨none, none⟩, [], 1⟩)] } } : Part)
    let planned : Part := { p with scanner := { p.scanner with planCards := [0] } }
    let linked : Part := { p with relay := { p.relay with
      link := .update 0 ⟨some .me0, []⟩ 77
      plans := p.relay.plans.set .me0 ⟨.connecting, [⟨0, .sh⟩], [], none, false⟩ } }
    (last.engine .me0).work.map (·.record) = some scanStep ∧ (last.engine .me0).phase = some .integrate ∧
    (last.engine .me0).request = some (9 : Byte).toNat ∧ (last.engine .me0).sampleCount + 1 = (last.engine .me0).n ∧
    (last.engine .me0).stimulus ≠ none ∧ (last.engine .me0).timeout = some 100 ∧ (last.plan .me0).quiet = false ∧
    (last.engine .me0).state = .active ∧ (waits.engine .me0).phase = some .resultWait ∧
    linked.relay.link = .update 0 ⟨some .me0, []⟩ 77 ∧ linked.relay.plannedTo 0 = some .me0 ∧
    (linked.engine .me0).state = .active ∧ (linked.engine .me0).phase = some .integrate ∧
    (linked.plan .me0).quiet = false ∧
    (broken planned).lowestFailed [0] = some 0 ∧ (broken p).lowestFailed (broken p).scanner.planCards = none ∧
    (broken p).scanner.probe = some 0 ∧
    (match (broken p).groupPlan .me0 true 1 [2] with | .error net => net == 1 | .ok _ => false) = true := by decide +kernel

/-- A test of each purpose, a resistance below the threshold, a run of four members and its first half, and an empty
stack with members left and with none. -/
theorem witness_ScansProbeAndBisectTheirList :
    let entry : StackEntry := ⟨1, 4, some ⟨9, false⟩⟩
    let p := scanning (.lower entry) []
    let s := p.scanner
    tableWf NetAttrs.unlisted p.map.attrs = true ∧ (p.scanList scanStep).map (·.net) = [1, 2, 3, 4, 5] ∧
    s.run 1 4 = [1, 2, 3, 4] ∧ (s.run 1 4)[(4 + 1) / 2 - 1]? = some 2 ∧
    s.scan = some ⟨some 0, .me0, scanStep⟩ ∧
    (∀ u ∈ [TestPurpose.probe, .lower entry, .unknownEntry entry], (scanning u []).scanner.test = some ⟨u, 0, 1, 2, false⟩) ∧
    formScanTest scanStep 3 851 1 false = some 213 ∧ (213 : Int) < (scanStep.threshold : Int) ∧
    formScanTest scanStep 3 20000 1 false = some 5000 ∧ s.stack = [] ∧ s.untested 0 = false ∧ s.untested 1 = true ∧
    ({ s with members := [⟨1, .probed⟩] } : Scanner).untested 0 = false := by decide +kernel

/-- A scan whose only record is reserved, or whose summary fills a block, ends alone. -/
theorem scanning_endsAlone (p : Part) (h : p = noRecord (scanning .probe []) ∨ p = streaming (scanning .probe [])) :
    p.ScanEndsAlone ⟨some 0, .me0, scanStep⟩ (flying scanStep (some 0)) := by
  rcases h with rfl | rfl
  · exact ⟨rfl, rfl, ⟨rfl, by show 0 < 1024 ∧ 1 < 1024 ∧ 1 < 1024; decide⟩,
      (fun h => nomatch (show false = true from h)), .inl rfl, by show 1 ≤ 512; decide,
      .inl ⟨rfl, by show decide (([] : List ResultRecord).length + 512 < 512) = false; decide⟩⟩
  · exact ⟨rfl, rfl, ⟨rfl, by show 0 < 1024 ∧ 1 < 1024 ∧ 1 < 1024; decide⟩,
      (fun h => nomatch (show false = true from h)), Or.inr rfl, Nat.le_refl 1,
      Or.inr ⟨Or.inr (by
        show (⟨[(0, ⟨.active, some scanStep⟩)], 0, 1, 1⟩ : Ring).pendingSlots = []
        decide +kernel), Or.inr rfl⟩⟩

/-- R65, R68, R89, R159, R176: a SCAN step with STOP_ON_FAIL and NOTIFY that ends FAIL halts the sequencer. -/
theorem test_failing_scan_halts :
    let r : StepRecord := { scanStep with flags := 0x3 }
    let p := scanning .probe []
    let q : Part := { p.setEntry .me0 (some (flying r (some 0))) with
      scanner := { p.scanner with scan := some ⟨some 0, .me0, r⟩, pairs := 1 } }
    let t := ((Ev.start q).endScan .fail none none false).close
    t.disp.seq = .halted ∧ t.log.record.map (·.cause) = some .stepFail ∧ t.ringInFlight = false ∧
    t.link.transmit.length = 2 := by decide +kernel

/-- A scan with a group plan at hand, a record free and none, and 254, 255 pairs; one that ends alone, whose end is one
completion. -/
theorem witness_ScansReportPairsAndEndWithASummary :
    let p := scanning .probe []
    let s := p.scanner
    let paired := fun n : Nat => ({ p with scanner := { s with pairs := n } } : Part)
    let i : ScanInfo := ⟨some 0, .me0, scanStep⟩
    ((noRecord p).ScanEndsAlone i (flying scanStep (some 0)) ∧
      (streaming p).ScanEndsAlone i (flying scanStep (some 0))) ∧
    p.disp.inFlight.get .me0 = some (flying scanStep (some 0)) ∧
    ((Ev.start p).endScan .pass none none false).completions = [⟨.me0, some 0, scanStep, .pass, none, none⟩] ∧
    s.scan = some i ∧ s.probe = some 0 ∧ p.lowestFailed s.planCards = none ∧
    (p.groupPlan .me0 (decide (s.planCards = [])) (s.netAt 0) ((s.run 1 4).map s.netAt)).toOption.map List.length =
      some 7 ∧
    p.queue.block = 0 ∧ p.recordFree = true ∧ (noRecord p).recordFree = false ∧ (paired 254).scanner.pairs ≠ 255 ∧
    (paired 255).scanner.pairs = 255 ∧ (p.plan .me0).quiet = false :=
  ⟨⟨scanning_endsAlone _ (.inl rfl), scanning_endsAlone _ (.inr rfl)⟩, by decide +kernel⟩

/-- Three records with B of 2 already set, a PACE that sets B to 2, and a remainder of one record. -/
theorem witness_BlocksTakeTheOldestRecords :
    let r := unservedRecord none plainStep .fault .noEngine
    let p : Part := { Part.fresh with queue := ⟨[r, r, r], 0, 2, 65535⟩ }
    let q : Part := { Part.fresh with queue := ⟨[r, r, r], 0, 0, 0⟩ }
    let drained := inSeq { Part.fresh with queue := ⟨[r], 0, 4, 65535⟩ } .drained
    (served q).Serving 1 ∧ (served drained).Serving 1 ∧
    p.queue.block ≠ 0 ∧ p.queue.records.length ≤ 3 ∧
    (1 ≤ byteAt [1, 0, 0, 0, 0, 2] 0 ∧ u32At [1, 0, 0, 0, 0, 2] 1 ≤ 100000 ∧ byteAt [1, 0, 0, 0, 0, 2] 5 = 2) ∧
    2 ≠ q.queue.block ∧ q.nothingToDispatch = true ∧ q.scanner.state ≠ .waitingSpace ∧
    drained.disp.seq = .drained ∧ drained.disp.direct = none ∧ drained.queue.records ≠ [] :=
  ⟨served_serving _ _ (by decide) rfl rfl (by decide), served_serving _ _ (by decide) rfl rfl (by decide),
   by decide +kernel⟩

/-- A serving part that measures in EXTERNAL, with a template, a debounce wait and a frame on the line. -/
def busyPart : Part :=
  let p := docked (measuring plainStep .integrate id)
  { p with
    templates := [(3, [4, 5])]
    lock := { p.lock with presentLine := ⟨false, true, some 900⟩ }
    time := { p.time with tick := 7, ref := .external }
    link := { p.link with mode := .serving, transmit := [.notice (.seq .running 0 1 1)], sendStart := some 0 } }

theorem witness_EveryStepKeepsSettingsInterlockLinkAndClock :
    busyPart.SteadyOk ∧ ∃ t, step ⟨busyPart, [.identityReadLimit]⟩ = .next t := by
  refine ⟨⟨⟨by decide, fun _ => rfl, rfl, ?_, by decide, ?_, by decide, by decide, by decide, rfl⟩,
    ⟨by unfold LineFilter.Ok; decide, by unfold LineFilter.Ok; decide, rfl, rfl, ?_, by decide, by decide⟩,
    ⟨by decide, by decide⟩, ⟨by decide, by decide, by decide, fun h => (by cases h)⟩⟩, _, rfl⟩
  · intro y hy; cases hy
  · intro y hy
    cases hy with
    | head => decide
    | tail _ h => cases h
  · intro h; cases h

/-- A HALTED part with a ring step still in flight. -/
theorem witness_EveryStepKeepsTheSequencerInOrder :
    let p : Part := { inSeq busyPart .halted with log := ⟨some ⟨.vacuumLost, none, none, none, none, none, 7⟩, 255⟩ }
    p.HaltOk ∧ p.QuietOk ∧ ∃ t, step ⟨p, [.identityReadLimit]⟩ = .next t :=
  ⟨⟨by decide, fun h => (by cases h), by decide⟩,
   ⟨fun h => (by cases h), fun h => by rcases h with h | h | h <;> cases h⟩, _, rfl⟩

/-- Steps on nets 1 and 2 and on nets 3 and 4 in flight together. -/
theorem witness_EveryStepKeepsTheClaimsApart :
    let other : Entry := { flying plainStep (some 1) with nets := [3, 4] }
    let p := busyPart.setEntry .me2 (some other)
    p.ClaimsOk ∧ ∃ t, step ⟨p, [.identityReadLimit]⟩ = .next t := by
  refine ⟨?_, _, rfl⟩
  intro e f hef x y hx hy
  cases e <;> cases f <;> first | exact absurd rfl hef | (cases hx; done) | (cases hy; done) | skip
  · cases hx; cases hy; decide +kernel
  · cases hx; cases hy; decide +kernel

/-- The Result Queue of a part that measures is in order. -/
theorem busyPart_queueOk : busyPart.QueueOk := by
  refine ⟨by decide +kernel, by decide +kernel, fun h => absurd rfl h, by decide, ?_, ?_, ?_⟩
  · intro e h
    cases e
    · exact absurd rfl h
    all_goals rfl
  · intro info h; cases h
  · intro e w hw hk
    cases e <;> cases hw
    cases hk

/-- Only engine 0 holds work, of slot 0. -/
theorem busyPart_work (e : EngineId) (w : Work) (h : (busyPart.engine e).work = some w) :
    e = .me0 ∧ w.origin = some 0 := by
  cases e <;> cases h
  exact ⟨rfl, rfl⟩

/-- Each slot of the part but slot 0, which is ACTIVE, is EMPTY. -/
theorem busyPart_slot (i : Nat) (h : i ≠ 0) : lookup Slot.unlisted busyPart.ring.slots i = Slot.unlisted := by
  simp [busyPart, docked, measuring, lookup, h]

/-- The ring of a part that measures is in order, with its one step in flight. -/
theorem busyPart_ringOk : busyPart.RingOk where
  ring := {
    range := ⟨by decide +kernel, by decide +kernel⟩
    order := by decide +kernel
    live := by
      intro i hi hl
      by_cases h : i = 0
      · subst h; exact .inr (.inl rfl)
      · exact absurd hl (by
          show ¬ (i + 1024 - 0) % 1024 < 1
          have : i < 1024 := hi
          omega)
    free := by
      intro i hi hl
      by_cases h : i = 0
      · subst h; exact absurd hl (by decide +kernel)
      · exact .inl (by rw [Ring.stateOf, busyPart_slot i h]; rfl)
    passed := by
      intro i hi hl
      by_cases h : i = 0
      · subst h; exact .inl rfl
      · exact absurd hl (by
          show ¬ (i + 1024 - 0) % 1024 < (1 + 1024 - 0) % 1024
          have : i < 1024 := hi
          omega)
    nextPending := fun h => absurd rfl h
    headNotDone := by intro _ h; cases h
    records := by
      intro i
      by_cases h : i = 0
      · subst h; exact ⟨fun _ h => (by cases h), fun _ => rfl⟩
      · rw [Ring.stateOf, busyPart_slot i h]; decide }
  active := by
    intro e w i hw ho
    obtain ⟨rfl, h0⟩ := busyPart_work e w hw
    rw [h0] at ho; cases ho
    exact ⟨by decide, rfl⟩
  apart := by
    intro e f w x i hef hw hx
    exact absurd ((busyPart_work e w hw).1.trans (busyPart_work f x hx).1.symm) hef
  entries := by
    intro e w hw
    obtain ⟨rfl, h0⟩ := busyPart_work e w hw
    exact ⟨flying plainStep (some 0), rfl, h0.symm⟩
  scan := by intro info h; cases h

theorem witness_EveryStepKeepsTheTables :
    (busyPart.NailsOk ∧ busyPart.ring.InRange ∧ ∃ t, step ⟨busyPart, [.identityReadLimit]⟩ = .next t) ∧
    busyPart.RingOk ∧ busyPart.QueueOk ∧ busyPart.HaltOk ∧ busyPart.QuietOk := by
  refine ⟨⟨⟨by decide +kernel, by decide +kernel, ?_⟩, ⟨by decide +kernel, by decide +kernel⟩, _, rfl⟩,
    busyPart_ringOk, busyPart_queueOk, ⟨by decide, fun _ => rfl, by decide⟩,
    ⟨fun h => (by cases h), fun h => by rcases h with h | h | h <;> cases h⟩⟩
  intro net
  unfold Part.nailsOf
  split
  · exact Nat.zero_le _
  · refine Nat.le_trans ?_ (by decide : 2 ≤ Config.nailsPerNet)
    rw [List.length_map]
    exact List.length_filter_le _ _

theorem witness_EveryStepKeepsTheResultQueue :
    busyPart.QueueOk ∧ ∃ t, step ⟨busyPart, [.identityReadLimit]⟩ = .next t := ⟨busyPart_queueOk, _, rfl⟩

end Sys2Proof.Tests
end

/-! PROOFS. The Fixture Map's requests on the nail table, the attributes and the cursor (R7, R10, R11, R15). -/

namespace Sys2Proof.Machine

/-! ### Reads of a table in canonical form -/

/-- A table in canonical form reads back exactly what it lists: a value other than the unlisted one stands at its key. -/
theorem mem_iff_lookup {α : Type} [DecidableEq α] {d : α} {k : Nat} {v : α} (hv : v ≠ d) {t : List (Nat × α)} :
    ∀ {lo : Nat}, tableFrom d lo t = true → ((k, v) ∈ t ↔ lookup d t k = v) := by
  induction t with
  | nil => intro _ _; simpa [lookup] using Ne.symm hv
  | cons x rest ih =>
    obtain ⟨k', w⟩ := x
    intro lo ht
    simp only [tableFrom, Bool.and_eq_true] at ht
    have hrest : tableFrom d (k' + 1) rest = true := ht.2
    have hih := ih hrest
    by_cases hk : k = k'
    · subst hk
      have hunlisted : (k, v) ∉ rest := by
        rw [hih, lookup_below hrest (Nat.lt_succ_self k)]
        exact Ne.symm hv
      simp [lookup, hunlisted, eq_comm]
    · simp [lookup, hk, hih]

/-! ### Several nails written -/

/-- Writing nails one after another changes the nail table alone. -/
theorem Part.foldl_setNail_eq (value : Nat × NailEntry → NailEntry) (l : List (Nat × NailEntry)) (p : Part) :
    ∃ nails, l.foldl (fun p x => p.setNail x.1 (value x)) p = { p with map := { p.map with nails := nails } } := by
  induction l generalizing p with
  | nil => exact ⟨p.map.nails, rfl⟩
  | cons x rest ih =>
    obtain ⟨nails, h⟩ := ih (p.setNail x.1 (value x))
    exact ⟨nails, h⟩

/-- Writing nails one after another keeps the canonical form of the nail table. -/
theorem Part.foldl_setNail_wf (value : Nat × NailEntry → NailEntry) (l : List (Nat × NailEntry))
    (p : Part) (h : tableWf NailEntry.unlisted p.map.nails = true) :
    tableWf NailEntry.unlisted (l.foldl (fun p x => p.setNail x.1 (value x)) p).map.nails = true := by
  induction l generalizing p with
  | nil => exact h
  | cons x rest ih => exact ih _ (p.setNail_wf h _ _)

/-- A nail read after nails were written, each with a value that its number determines. -/
theorem Part.nail_foldl_setNail (value : Nat × NailEntry → NailEntry) (written : Nat → NailEntry)
    (l : List (Nat × NailEntry)) (p : Part) (h : tableWf NailEntry.unlisted p.map.nails = true)
    (hw : ∀ x ∈ l, value x = written x.1) (m : Nat) :
    (l.foldl (fun p x => p.setNail x.1 (value x)) p).nail m
      = if m ∈ l.map (·.1) then written m else p.nail m := by
  induction l generalizing p with
  | nil => simp
  | cons x rest ih =>
    have hrest := ih (p.setNail x.1 (value x)) (p.setNail_wf h _ _) fun y hy => hw y (List.mem_cons_of_mem _ hy)
    rw [List.foldl_cons, hrest, p.nail_setNail h, hw x List.mem_cons_self]
    simp only [List.map_cons, List.mem_cons]
    by_cases hm : m = x.1
    · subst hm; simp
    · simp only [hm, false_or, if_false]

/-- The SUSPECT nails listed are the nails that read as SUSPECT, each with its entry (R1, R15). -/
theorem Part.mem_suspects_iff (p : Part) (h : tableWf NailEntry.unlisted p.map.nails = true) (n : Nat) (x : NailEntry) :
    (n, x) ∈ p.map.suspects ↔ p.nail n = x ∧ x.condition = .suspect := by
  simp only [FixtureMap.suspects, List.mem_filter, decide_eq_true_eq]
  refine and_congr_left fun hx => mem_iff_lookup ?_ h
  rintro rfl
  cases hx

theorem Part.mem_suspects_keys_iff (p : Part) (h : tableWf NailEntry.unlisted p.map.nails = true) (n : Nat) :
    n ∈ p.map.suspects.map (·.1) ↔ (p.nail n).condition = .suspect := by
  constructor
  · intro hn
    obtain ⟨⟨m, x⟩, hx, rfl⟩ := List.mem_map.mp hn
    obtain ⟨hread, hsuspect⟩ := (p.mem_suspects_iff h m x).mp hx
    rwa [hread]
  · intro hn
    exact List.mem_map.mpr ⟨(n, p.nail n), (p.mem_suspects_iff h n _).mpr ⟨rfl, hn⟩, rfl⟩

/-- The part once every SUSPECT nail has been written as GOOD (R15). -/
def Part.unmarked (p : Part) : Part :=
  p.map.suspects.foldl (fun p x => p.setNail x.1 { x.2 with condition := .good }) p

/-- All that making the SUSPECT nails GOOD does: each keeps its net field, and every other nail its entry (R15). -/
theorem Part.unmarked_spec (p : Part) (h : tableWf NailEntry.unlisted p.map.nails = true) :
    ∃ nails, p.unmarked = { p with map := { p.map with nails := nails } } ∧
      tableWf NailEntry.unlisted nails = true ∧
      ∀ n, lookup .unlisted nails n =
        if (p.nail n).condition = .suspect then ⟨(p.nail n).net, .good⟩ else p.nail n := by
  obtain ⟨nails, heq⟩ := Part.foldl_setNail_eq
    (fun x : Nat × NailEntry => { x.2 with condition := .good }) p.map.suspects p
  have hnails : nails = p.unmarked.map.nails := (congrArg (·.map.nails) heq).symm
  refine ⟨nails, heq, hnails ▸ Part.foldl_setNail_wf _ _ p h, fun n => ?_⟩
  have hvalue : ∀ x ∈ p.map.suspects, ({ x.2 with condition := .good } : NailEntry) = ⟨(p.nail x.1).net, .good⟩ := by
    rintro ⟨m, x⟩ hx
    rw [((p.mem_suspects_iff h m x).mp hx).1]
  have hread := Part.nail_foldl_setNail _ (fun m => ⟨(p.nail m).net, .good⟩) p.map.suspects p h hvalue n
  simp only [p.mem_suspects_keys_iff h] at hread
  exact hnails ▸ hread

/-- The request in progress does not matter to the unmarking. -/
theorem Part.unmarked_taking (p : Part) (number kind : Byte) :
    (p.taking number kind).unmarked = p.unmarked.taking number kind :=
  List.foldl_hom (fun p : Part => p.taking number kind) (fun _ _ => rfl)

/-! ### A request that is refused, or that changes the part and replies -/

/-- A request refused with nothing else done (R189). -/
theorem Ev.close_refuse_taking (p : Part) (number kind : Byte) (st : Status) (detail : Option Nat) :
    ((Ev.start (p.taking number kind)).refuse st detail).close = p.refusedWith number kind st detail := by
  rw [Ev.refuse_taking p number kind _ st detail rfl]
  exact Ev.close_plain _ rfl rfl rfl rfl

/-- A request that changes the part beside its link and replies. -/
theorem Ev.close_reply_taking (p q : Part) (number kind : Byte) (f : Part → Part) (body : Reply)
    (hf : f (p.taking number kind) = q.taking number kind) :
    (((Ev.start (p.taking number kind)).map f).reply body).close = q.repliedWith number kind body := by
  have hq : (Ev.start (p.taking number kind)).map f = Ev.start (q.taking number kind) := congrArg Ev.start hf
  rw [hq, Ev.reply_taking q number kind _ body rfl]
  exact Ev.close_plain _ rfl rfl rfl rfl

/-- Every request command is its good frame offered to the Link Port (R184, R186). -/
theorem exec_requestOf (k : RequestKind) (number : Byte) (body : List Byte) (s : State) :
    exec (requestOf k number body) s = offerRequest k number body s := by cases k <;> rfl

/-- A request of its fixed length, taken at once, leaves the part that its owner's act closes with (R186). -/
theorem exec_requestOf_serving {s : State} {number : Byte} {body : List Byte} {n : Nat} (k : RequestKind)
    (h : s.Serving number) (hl : body.length = n) (hk : k.bodyLength = some n) {q : Part}
    (hq : (owner k body (Ev.start (s.part.taking number k.code))).close = q) :
    exec (requestOf k number body) s = .next { s with part := q } := by
  rw [exec_requestOf, offerRequest_serving s number k body h (.inl (by rw [hk, hl])), hq]

/-! ### What each request does -/

/-- MAP_CURSOR's check, then the cursor set (R7). -/
theorem ownMapCursor_close (p : Part) (number : Byte) (body : List Byte) :
    (ownMapCursor body (Ev.start (p.taking number 0x10))).close =
      if u16At body 0 ≤ 4095 then
        ({ p with map := { p.map with cursor := u16At body 0 } }).repliedWith number 0x10 .done
      else p.refusedWith number 0x10 .badValue none := by
  unfold ownMapCursor
  by_cases hn : u16At body 0 ≤ 4095
  · rw [if_pos hn, if_neg (by simp only [Config.nails]; omega)]
    exact Ev.close_reply_taking p _ number 0x10 _ .done rfl
  · rw [if_neg hn, if_pos (by simp only [Config.nails]; omega)]
    exact Ev.close_refuse_taking p number 0x10 .badValue none

/-- MAP_READ's check, then the entries from the cursor and the cursor past them (R10). -/
theorem ownMapRead_close (p : Part) (number : Byte) (body : List Byte) :
    (ownMapRead body (Ev.start (p.taking number 0x12))).close =
      if 1 ≤ byteAt body 0 ∧ byteAt body 0 ≤ 64 then
        let first := p.map.cursor
        let returned := min (byteAt body 0) (4096 - first)
        ({ p with map := { p.map with cursor := first + returned } }).repliedWith number 0x12
          (.nails first ((List.range returned).map fun i => p.nail (first + i)))
      else p.refusedWith number 0x12 .badValue none := by
  unfold ownMapRead
  by_cases hc : 1 ≤ byteAt body 0 ∧ byteAt body 0 ≤ 64
  · rw [if_pos hc, if_neg (by omega)]
    exact Ev.close_reply_taking p _ number 0x12 _ _ rfl
  · rw [if_neg hc, if_pos (by omega)]
    exact Ev.close_refuse_taking p number 0x12 .badValue none

/-- MAP_NETATTR on a FROZEN map (R11). -/
theorem ownMapNetattr_close_frozen (p : Part) (number : Byte) (body : List Byte) (h : p.map.state = .frozen) :
    (ownMapNetattr body (Ev.start (p.taking number 0x13))).close = p.refusedWith number 0x13 .mapFrozen none := by
  have hf : (Ev.start (p.taking number 0x13)).p.map.state = .frozen := h
  unfold ownMapNetattr
  rw [if_pos hf]
  exact Ev.close_refuse_taking p number 0x13 .mapFrozen none

/-- MAP_NETATTR refuses a net outside 1 to 2047 and flags that R11 does not name. -/
theorem ownMapNetattr_close_bad (p : Part) (number : Byte) (body : List Byte) (h : p.map.state = .editable)
    (hb : u16At body 0 = 0 ∨ 2047 < u16At body 0 ∨ 3 < byteAt body 2) :
    (ownMapNetattr body (Ev.start (p.taking number 0x13))).close = p.refusedWith number 0x13 .badValue none := by
  have hf : (Ev.start (p.taking number 0x13)).p.map.state ≠ .frozen := fun hf => by cases h.symm.trans hf
  unfold ownMapNetattr
  rw [if_neg hf, Config.maxNet, if_pos hb]
  exact Ev.close_refuse_taking p number 0x13 .badValue none

/-- MAP_NETATTR with a good body replaces the net's attribute set with the flags given (R11). -/
theorem ownMapNetattr_close_good (p : Part) (number : Byte) (body : List Byte) (h : p.map.state = .editable)
    (hlow : 1 ≤ u16At body 0) (hhigh : u16At body 0 ≤ 2047) (hbits : byteAt body 2 ≤ 3) :
    (ownMapNetattr body (Ev.start (p.taking number 0x13))).close =
      let net := u16At body 0
      let given : NetAttrs := ⟨byteAt body 2 % 2 = 1, byteAt body 2 / 2 % 2 = 1⟩
      ({ p with map := { p.map with attrs := store .unlisted p.map.attrs net given } }).repliedWith number 0x13
        (.net (p.nailsOf net) given) := by
  have hf : (Ev.start (p.taking number 0x13)).p.map.state ≠ .frozen := fun hf => by cases h.symm.trans hf
  have htender : byteAt body 2 / 2 % 2 = byteAt body 2 / 2 := Nat.mod_eq_of_lt (by omega)
  unfold ownMapNetattr
  rw [if_neg hf, Config.maxNet, if_neg (by omega), htender]
  exact Ev.close_reply_taking p _ number 0x13 _ _ rfl

/-- MAP_UNMARK makes the SUSPECT nails GOOD and counts them (R15). -/
theorem ownMapUnmark_close (p : Part) (number : Byte) :
    (ownMapUnmark [] (Ev.start (p.taking number 0x17))).close =
      p.unmarked.repliedWith number 0x17 (.unmarked p.map.suspects.length) :=
  Ev.close_reply_taking p p.unmarked number 0x17 _ _ (p.unmarked_taking number 0x17)

/-! ### The statements -/

/-- Settles O12: each request's event closes as its owner's check and change say, and the reply names the cursor. -/
theorem mapCursorAndMapReadMoveTheCursor : Obligations.MapCursorAndMapReadMoveTheCursor := by
  constructor
  · intro s number body h hl
    exact exec_requestOf_serving .mapCursor h hl rfl (ownMapCursor_close s.part number body)
  · intro s number body h hl count first returned
    exact ⟨first, fun _ => rfl, exec_requestOf_serving .mapRead h hl rfl (ownMapRead_close s.part number body)⟩

/-- Settles O14: MAP_NETATTR is one store in the attribute table, and MAP_UNMARK writes exactly the nails that read as
SUSPECT, since a table in canonical form lists exactly those. -/
theorem mapNetattrAndMapUnmarkWriteTheMap : Obligations.MapNetattrAndMapUnmarkWriteTheMap := by
  constructor
  · intro s number body h hl hwf net bits given refused
    refine ⟨fun hf => ?_, fun he hb => ?_, fun he hlow hhigh hbits => ?_⟩
    · exact exec_requestOf_serving .mapNetattr h hl rfl (ownMapNetattr_close_frozen s.part number body hf)
    · exact exec_requestOf_serving .mapNetattr h hl rfl (ownMapNetattr_close_bad s.part number body he hb)
    · exact ⟨store .unlisted s.part.map.attrs net given, tableWf_store hwf net given, fun m => lookup_store hwf,
        exec_requestOf_serving .mapNetattr h hl rfl
          (ownMapNetattr_close_good s.part number body he hlow hhigh hbits)⟩
  · intro s number h hwf
    obtain ⟨nails, heq, hcanonical, hread⟩ := s.part.unmarked_spec hwf
    exact ⟨nails, hcanonical, hread,
      exec_requestOf_serving .mapUnmark h List.length_nil rfl (heq ▸ ownMapUnmark_close s.part number)⟩

end Sys2Proof.Machine

/-! PROOFS. The frame check of the message link (R183): the CRC as a shift register fed bit by bit, and its place in
the frames sent and received. -/

namespace Sys2Proof.Machine

/-! ### The CRC bit by bit -/

/-- The shift register that takes bit `i` of a byte, counted from its most significant bit: the bit is compared with
the one that leaves the register, and the polynomial is subtracted when they differ (R183). -/
def crcSerialBit (b : Byte) (c : BitVec 16) (i : Nat) : BitVec 16 :=
  if c.getLsbD 15 != b.getLsbD (7 - i) then (c <<< 1) ^^^ 0x1021#16 else c <<< 1

/-- The byte, aligned with the register's top and shifted `i` times, has its bit `i` on top. -/
theorem msb_byte_shiftLeft (b : Byte) {i : Nat} (hi : i < 8) :
    (b.setWidth 16 <<< (8 + i)).msb = b.getLsbD (7 - i) := by
  have hindex : 15 - (8 + i) = 7 - i := by omega
  rw [BitVec.msb_eq_getLsbD_last, BitVec.getLsbD_shiftLeft, BitVec.getLsbD_setWidth, hindex]
  have hlow : ¬ 15 < 8 + i := by omega
  have hwide : 7 - i < 16 := by omega
  simp [hlow, hwide]

/-- One bit of the model's CRC, whose register holds the rest of the byte added in advance, is one serial bit. -/
theorem crcBit_xor_byte (b : Byte) (c : BitVec 16) {i : Nat} (hi : i < 8) :
    crcBit (c ^^^ b.setWidth 16 <<< (8 + i)) = crcSerialBit b c i ^^^ b.setWidth 16 <<< (8 + (i + 1)) := by
  have htop : (c ^^^ b.setWidth 16 <<< (8 + i)).msb = (c.getLsbD 15 != b.getLsbD (7 - i)) := by
    rw [BitVec.msb_xor, msb_byte_shiftLeft b hi, BitVec.msb_eq_getLsbD_last, Bool.bne_eq_xor]
  have hshift : (c ^^^ b.setWidth 16 <<< (8 + i)) <<< 1 = c <<< 1 ^^^ b.setWidth 16 <<< (8 + (i + 1)) := by
    rw [BitVec.shiftLeft_xor_distrib, ← BitVec.shiftLeft_add, Nat.add_assoc]
  rw [crcBit, crcSerialBit, htop, hshift]
  split
  · ac_rfl
  · rfl

/-- The first `n` bits of a byte: adding the byte in advance only leaves its remaining bits in the register. -/
theorem crcBit_iterate_xor_byte (b : Byte) (c : BitVec 16) {n : Nat} (hn : n ≤ 8) :
    crcBit^[n] (c ^^^ b.setWidth 16 <<< 8) =
      (List.range n).foldl (crcSerialBit b) c ^^^ b.setWidth 16 <<< (8 + n) := by
  induction n with
  | zero => rfl
  | succ n ih =>
    rw [Function.iterate_succ_apply', ih (by omega), crcBit_xor_byte b _ hn, List.range_succ, List.foldl_append]
    rfl

/-- One byte of the CRC is its eight bits, most significant bit first: none of the byte is left in the register. -/
theorem crcByte_eq_foldl_crcSerialBit (c : BitVec 16) (b : Byte) :
    crcByte c b = (List.range 8).foldl (crcSerialBit b) c := by
  have hgone : b.setWidth 16 <<< (8 + 8) = 0#16 := BitVec.shiftLeft_eq_zero (le_refl 16)
  calc crcByte c b = crcBit^[8] (c ^^^ b.setWidth 16 <<< 8) := rfl
    _ = (List.range 8).foldl (crcSerialBit b) c ^^^ 0#16 := by rw [crcBit_iterate_xor_byte b c (le_refl 8), hgone]
    _ = (List.range 8).foldl (crcSerialBit b) c := BitVec.xor_zero

/-- The CRC of some bytes and one more. -/
theorem crc16_append_singleton (bs : List Byte) (b : Byte) : crc16 (bs ++ [b]) = crcByte (crc16 bs) b := by
  rw [crc16, List.foldl_append]
  rfl

/-- The check value that catalogues of CRCs give for this one, of the digits 1 to 9 in ASCII. -/
theorem crc16_digits : crc16 [0x31, 0x32, 0x33, 0x34, 0x35, 0x36, 0x37, 0x38, 0x39] = 0x29B1#16 := by
  simp [crc16, crcByte, crcBit, BitVec.msb_eq_getLsbD_last]

/-! ### The CRC in a frame -/

/-- The two bytes in which a 16-bit number is written, high byte first, read back as the number. -/
theorem high_low_bytes_toNat (x : BitVec 16) :
    256 * (BitVec.ofNat 8 (x.toNat / 256)).toNat + (BitVec.ofNat 8 (x.toNat % 256)).toNat = x.toNat := by
  have hx := x.isLt
  simp only [BitVec.toNat_ofNat]
  omega

/-- Every frame has its CRC over length and payload, high byte first, as its last two bytes. -/
theorem frameOf_eq_covered_append_crc (payload : List Byte) :
    ∃ high low : Byte,
      frameOf payload = 0xA5 :: (leBytes 2 payload.length ++ payload ++ [high, low]) ∧
      256 * high.toNat + low.toNat = (crc16 (leBytes 2 payload.length ++ payload)).toNat :=
  ⟨_, _, rfl, high_low_bytes_toNat _⟩

/-- The last byte of a frame of two payload bytes or more completes it exactly when the CRC matches. -/
theorem Receiver.next_check_last (number kind : Byte) (body : List Byte) (high low : Byte) :
    ((Receiver.check (number :: kind :: body) (some high)).next low).2 =
      if (crc16 (leBytes 2 (body.length + 2) ++ number :: kind :: body)).toNat = 256 * high.toNat + low.toNat
      then some ⟨number, kind, body⟩ else none := rfl

/-! ### The statement -/

/-- Settles O6: adding a byte to the register in advance is taking its bits one by one, and `frameOf` and the receiver
use the same CRC of the length bytes and the payload. -/
theorem crcTakesEachByteMostSignificantBitFirst : Obligations.CrcTakesEachByteMostSignificantBitFirst := by
  refine ⟨rfl, fun bs b => ?_, crc16_digits, fun f => ?_, Receiver.next_check_last⟩
  · exact (crc16_append_singleton bs b).trans (crcByte_eq_foldl_crcSerialBit (crc16 bs) b)
  · exact frameOf_eq_covered_append_crc (f.header.1 :: f.header.2 :: f.body)

end Sys2Proof.Machine

/-! PROOFS. What one step is: the command at the front of the queue as an act on one event, or what the part does by
itself. -/

namespace Sys2Proof.Machine

/-! ### Commands as acts on an event -/

/-- What a command does to its event: a request is its good frame offered (R184), and each other command is the act that
its meaning names. -/
def actOf : Instr → Ev → Ev
  | .powerOn => Ev.map fun p => p.restart .powerOn
  | .frameReceived b => Ev.takeByte b
  | .receivedByte b => Ev.takeByte b
  | .interByteLimit => Ev.interByteEnds
  | .frameSent => Ev.sent
  | .badKindRequest n k b => Ev.offer ⟨n, k, b⟩
  | .mapCursor n b => Ev.offer ⟨n, RequestKind.mapCursor.code, b⟩
  | .mapNails n b => Ev.offer ⟨n, RequestKind.mapNails.code, b⟩
  | .mapRead n b => Ev.offer ⟨n, RequestKind.mapRead.code, b⟩
  | .mapNetattr n b => Ev.offer ⟨n, RequestKind.mapNetattr.code, b⟩
  | .mapIdentity n b => Ev.offer ⟨n, RequestKind.mapIdentity.code, b⟩
  | .mapFreeze n b => Ev.offer ⟨n, RequestKind.mapFreeze.code, b⟩
  | .mapClear n b => Ev.offer ⟨n, RequestKind.mapClear.code, b⟩
  | .mapUnmark n b => Ev.offer ⟨n, RequestKind.mapUnmark.code, b⟩
  | .fixtureQuery n b => Ev.offer ⟨n, RequestKind.fixtureQuery.code, b⟩
  | .stepWrite n b => Ev.offer ⟨n, RequestKind.stepWrite.code, b⟩
  | .stepRead n b => Ev.offer ⟨n, RequestKind.stepRead.code, b⟩
  | .stepCommit n b => Ev.offer ⟨n, RequestKind.stepCommit.code, b⟩
  | .ringReset n b => Ev.offer ⟨n, RequestKind.ringReset.code, b⟩
  | .templateWrite n b => Ev.offer ⟨n, RequestKind.templateWrite.code, b⟩
  | .templateRead n b => Ev.offer ⟨n, RequestKind.templateRead.code, b⟩
  | .run n b => Ev.offer ⟨n, RequestKind.run.code, b⟩
  | .pause n b => Ev.offer ⟨n, RequestKind.pause.code, b⟩
  | .resume n b => Ev.offer ⟨n, RequestKind.resume.code, b⟩
  | .stop n b => Ev.offer ⟨n, RequestKind.stop.code, b⟩
  | .status n b => Ev.offer ⟨n, RequestKind.status.code, b⟩
  | .directStep n b => Ev.offer ⟨n, RequestKind.directStep.code, b⟩
  | .relayQuery n b => Ev.offer ⟨n, RequestKind.relayQuery.code, b⟩
  | .engineClear n b => Ev.offer ⟨n, RequestKind.engineClear.code, b⟩
  | .resultsRead n b => Ev.offer ⟨n, RequestKind.resultsRead.code, b⟩
  | .errlogRead n b => Ev.offer ⟨n, RequestKind.errlogRead.code, b⟩
  | .timeRead n b => Ev.offer ⟨n, RequestKind.timeRead.code, b⟩
  | .describe n b => Ev.offer ⟨n, RequestKind.describe.code, b⟩
  | .pace n b => Ev.offer ⟨n, RequestKind.pace.code, b⟩
  | .partReset n b => Ev.offer ⟨n, RequestKind.partReset.code, b⟩
  | .rawLineChange line asserted => Ev.rawChange line asserted
  | .debounceComplete line => Ev.debounced line
  | .identityReadEnd transfer => Ev.identityTransferred transfer
  | .identityReadLimit => Ev.identityLimited
  | .referenceEdge => Ev.edge
  | .referenceLoss => Ev.loss
  | .verificationComplete => Ev.verified
  | .enumerationQueryEnd answered => Ev.queryEnds answered
  | .cardAcknowledgement => Ev.acknowledged
  | .cardAckTimeout => Ev.ackTimesOut
  | .relayMotionEnd card => Ev.motionEnds card
  | .allOpenEnd => Ev.allOpenEnds
  | .holdExpiry e => Ev.holdExpires e
  | .sample e sequence code => Ev.sampleArrives e sequence.toNat code.toInt
  | .sampleIntervalComplete e => Ev.intervalEnds e
  | .sampleTimeout e => Ev.sampleTimesOut e
  | .compliance e => Ev.complianceReported e
  | .thresholdCrossing e => Ev.crossed e
  | .settleComplete e => Ev.settled e
  | .dischargeComplete e crossed => Ev.discharged e crossed
  | .rampLimit e => Ev.rampLimited e
  | .postDischargeComplete e => Ev.postDischarged e
  | .abortDischargeComplete e => Ev.abortDischarged e
  | .replanRequest e => Ev.replanAsked e
  | .replanAnswer e => Ev.replanTaken e

/-- Every command is an event of its act. -/
theorem exec_eq_event (c : Instr) (s : State) : exec c s = event s (actOf c) := by cases c <;> rfl

/-- Every command ends in the state that its act's event closes with, the queue of commands untouched. -/
theorem exec_eq_next (c : Instr) (s : State) :
    exec c s = .next { s with part := ((actOf c) (Ev.start s.part)).close } := exec_eq_event c s

/-! ### What the part does by itself -/

theorem takeOwn_relayMotionEnd (due card : Nat) (s : State) : takeOwn due (.relayMotionEnd card) s =
    if due < (s.part.relay.card card).lastDue then .next { s with part := s.part.relaysArrive card due }
    else exec (.relayMotionEnd card) s := rfl

theorem takeOwn_dischargeComplete (due : Nat) (e : EngineId) (crossed : Bool) (s : State) :
    ∃ answer : Bool, takeOwn due (.dischargeComplete e crossed) s =
      exec (.dischargeComplete e answer) { s with part := { s.part with free := s.part.free + 1 } } := ⟨_, rfl⟩

/-- Every own event but a relay's arrival and the end of a discharge is its command. -/
theorem takeOwn_eq_exec {due : Nat} {c : Instr} (s : State) (hmotion : ∀ card, c ≠ .relayMotionEnd card)
    (hdischarge : ∀ e crossed, c ≠ .dischargeComplete e crossed) : takeOwn due c s = exec c s := by
  unfold takeOwn
  split
  · exact absurd rfl (hmotion _)
  · exact absurd rfl (hdischarge _ _)
  · rfl

/-- Nothing is due exactly when everything timed lies ahead. -/
theorem Part.dueNow_eq_nil {p : Part} : p.dueNow = [] ↔ ∀ x ∈ p.timed, p.time.tick < x.1 := by
  constructor
  · intro h x hx
    by_contra hdue
    have hreached : ∃ d, ∃ y ∈ p.timed, y.1 = d ∧ y.1 ≤ p.time.tick := ⟨x.1, x, hx, rfl, by omega⟩
    classical
    obtain ⟨y, hy, hyd, hyt⟩ := Nat.find_spec hreached
    have hearliest : y ∈ p.dueNow := Part.mem_dueNow.mpr ⟨hy, hyt, fun z hz hzt => by
      have := Nat.find_min' hreached ⟨z, hz, rfl, hzt⟩
      omega⟩
    rw [h] at hearliest
    cases hearliest
  · intro h
    refine List.eq_nil_iff_forall_not_mem.mpr fun x hx => ?_
    obtain ⟨htimed, hreached, _⟩ := Part.mem_dueNow.mp hx
    have := h x htimed
    omega

/-- What is taken by itself: a re-plan event of this tick first, and otherwise a completion that is due. -/
theorem Part.ownEvent_some {p q : Part} {due : Nat} {c : Instr} (h : p.ownEvent = some ((due, c), q)) :
    (∃ n, q = { p with free := n }) ∧ (p.replanEvents ≠ [] → c ∈ p.replanEvents ∧ due = p.time.tick) ∧
      (p.replanEvents = [] → (due, c) ∈ p.dueNow) := by
  unfold Part.ownEvent at h
  split at h
  next hnone =>
    obtain ⟨hmem, hfree⟩ := Part.chooseOne_spec h
    exact ⟨hfree, fun hne => absurd hnone hne, fun _ => hmem⟩
  next d ds hsome =>
    obtain ⟨hmem, hfree⟩ := Part.chooseOne_spec h
    obtain ⟨d', hd', heq⟩ := List.mem_map.mp hmem
    cases heq
    refine ⟨hfree, fun _ => ⟨?_, rfl⟩, fun hnil => ?_⟩
    · rw [hsome]; exact hd'
    · rw [hsome] at hnil; cases hnil

/-- Nothing is taken by itself exactly when no re-plan event stands and everything timed lies ahead. -/
theorem Part.ownEvent_none {p : Part} :
    p.ownEvent = none ↔ p.replanEvents = [] ∧ ∀ x ∈ p.timed, p.time.tick < x.1 := by
  unfold Part.ownEvent
  split
  next hnone => rw [Part.chooseOne_none, Part.dueNow_eq_nil]; simp [hnone]
  next hsome => rw [Part.chooseOne_none]; simp [hsome]

theorem Part.replanEvents_eq_nil {p : Part} : p.replanEvents = [] ↔ ∀ e, (p.engine e).replan = .none := by
  simp only [Part.replanEvents, List.filterMap_eq_nil_iff]
  constructor
  · intro h e
    have := h e e.mem_all
    cases hr : (p.engine e).replan <;> simp [hr] at this ⊢
  · intro h e _
    simp [h e]

/-- One period of the oscillator, written out (R96, R97). -/
theorem Part.oscillate_eq (p : Part) : p.oscillate = { p with time := { p.time with
    tick := if p.time.ref = .external then p.time.tick else p.time.tick + 1
    silent := if p.time.ref = .recovery then p.time.silent else p.time.silent + 1 } } := by
  rw [Part.oscillate, Part.onTime, Timebase.period_eq]

theorem step_of_ownEvent {s : State} {due : Nat} {c : Instr} {q : Part} (hs : s.pending = [])
    (h : s.part.ownEvent = some ((due, c), q)) : step s = takeOwn due c { s with part := q } := by
  simp only [step, hs, idle, h]

theorem step_of_no_ownEvent {s : State} (hs : s.pending = []) (h : s.part.ownEvent = none) :
    step s = .next { s with part := s.part.oscillate } := by
  simp only [step, hs, idle, h]

/-- All that one step can do to the part: a command's event, after free choices; a relay's arrival; or one period of the
oscillator when nothing is due. -/
theorem step_cases {s t : State} (h : step s = .next t) :
    (∃ c n, t.part = (actOf c (Ev.start { s.part with free := n })).close) ∨
    (∃ card due n, t.part = ({ s.part with free := n } : Part).relaysArrive card due) ∨
    (s.part.ownEvent = none ∧ t.part = s.part.oscillate) := by
  have hexec : ∀ c n pending, exec c ⟨{ s.part with free := n }, pending⟩ = .next t →
      t.part = (actOf c (Ev.start { s.part with free := n })).close := by
    intro c n pending h
    rw [exec_eq_next] at h
    cases h
    rfl
  cases hp : s.pending with
  | cons c rest =>
    rw [show step s = exec c { s with pending := rest } by simp only [step, hp]] at h
    exact .inl ⟨c, s.part.free, hexec c s.part.free rest h⟩
  | nil =>
    cases ho : s.part.ownEvent with
    | none =>
      rw [step_of_no_ownEvent hp ho] at h
      cases h
      exact .inr (.inr ⟨rfl, rfl⟩)
    | some x =>
      obtain ⟨⟨due, c⟩, q⟩ := x
      obtain ⟨⟨n, rfl⟩, _, _⟩ := Part.ownEvent_some ho
      rw [step_of_ownEvent hp ho] at h
      by_cases hmotion : ∃ card, c = .relayMotionEnd card
      · obtain ⟨card, rfl⟩ := hmotion
        rw [takeOwn_relayMotionEnd] at h
        split at h
        · cases h; exact .inr (.inl ⟨card, due, n, rfl⟩)
        · exact .inl ⟨_, n, hexec _ n _ h⟩
      · by_cases hdischarge : ∃ e crossed, c = .dischargeComplete e crossed
        · obtain ⟨e, crossed, rfl⟩ := hdischarge
          obtain ⟨answer, ha⟩ := takeOwn_dischargeComplete due e crossed { s with part := { s.part with free := n } }
          rw [ha] at h
          exact .inl ⟨_, n + 1, hexec _ (n + 1) _ h⟩
        · rw [takeOwn_eq_exec _ (fun card hc => hmotion ⟨card, hc⟩)
            (fun e crossed hc => hdischarge ⟨e, crossed, hc⟩)] at h
          exact .inl ⟨c, n, hexec c n _ h⟩

/-! ### The statements -/

/-- Settles O1, by the definition of a step. -/
theorem stepRunsTheFrontCommand : Obligations.StepRunsTheFrontCommand := by
  intro c rest s h
  simp only [step, h]

/-- Settles O4: every command is an event of its act. -/
theorem everyCommandAnswersANextState : Obligations.EveryCommandAnswersANextState :=
  fun c s => ⟨_, exec_eq_next c s, rfl⟩

/-- Settles O2, from what the part takes by itself and what taking it does. -/
theorem idleStepTakesADueEventOrOneTick : Obligations.IdleStepTakesADueEventOrOneTick := by
  intro s hs p
  refine ⟨fun due c q h => ?_, fun h => ?_⟩
  · obtain ⟨⟨n, rfl⟩, hreplan, hdue⟩ := Part.ownEvent_some h
    have hstep := step_of_ownEvent hs h
    refine ⟨⟨n, rfl⟩, hreplan, fun hnil => ?_, ?_, ?_, fun hmotion hdischarge => ?_⟩
    · obtain ⟨htimed, hreached, hearliest⟩ := Part.mem_dueNow.mp (hdue hnil)
      refine ⟨htimed, hreached, fun x hx => ?_⟩
      by_cases hxt : x.1 ≤ p.time.tick
      · exact hearliest x hx hxt
      · exact le_trans hreached (by omega)
    · rintro card rfl
      rw [hstep, takeOwn_relayMotionEnd]
      rfl
    · rintro e crossed rfl
      obtain ⟨answer, ha⟩ := takeOwn_dischargeComplete due e crossed { s with part := { p with free := n } }
      exact ⟨answer, n + 1, hstep.trans ha⟩
    · rw [hstep, takeOwn_eq_exec _ hmotion hdischarge]
  · obtain ⟨hreplan, hahead⟩ := Part.ownEvent_none.mp h
    refine ⟨Part.replanEvents_eq_nil.mp hreplan, hahead, ?_⟩
    rw [step_of_no_ownEvent hs h, Part.oscillate_eq]

end Sys2Proof.Machine

/-! PROOFS. The shapes of every step's proof: which acts an event can have, how the Link Port's taking of requests reaches
an owner, and what the acts of engines and matrix leave as it was. -/

namespace Sys2Proof.Machine

/-! ### The acts an event can have -/

/-- The acts of the commands, the requests as one. -/
inductive EventAct : (Ev → Ev) → Prop
  | powerOn : EventAct (Ev.map fun p => p.restart .powerOn)
  | takeByte (b : Byte) : EventAct (Ev.takeByte b)
  | interByteEnds : EventAct Ev.interByteEnds
  | sent : EventAct Ev.sent
  | offer (f : InFrame) : EventAct (Ev.offer f)
  | rawChange (line : FixtureLine) (asserted : Bool) : EventAct (Ev.rawChange line asserted)
  | debounced (line : FixtureLine) : EventAct (Ev.debounced line)
  | identityTransferred (transfer : IdentityTransfer) : EventAct (Ev.identityTransferred transfer)
  | identityLimited : EventAct Ev.identityLimited
  | edge : EventAct Ev.edge
  | loss : EventAct Ev.loss
  | verified : EventAct Ev.verified
  | queryEnds (answered : Bool) : EventAct (Ev.queryEnds answered)
  | acknowledged : EventAct Ev.acknowledged
  | ackTimesOut : EventAct Ev.ackTimesOut
  | motionEnds (card : Nat) : EventAct (Ev.motionEnds card)
  | allOpenEnds : EventAct Ev.allOpenEnds
  | holdExpires (e : EngineId) : EventAct (Ev.holdExpires e)
  | sampleArrives (e : EngineId) (sequence : Nat) (code : Int) : EventAct (Ev.sampleArrives e sequence code)
  | intervalEnds (e : EngineId) : EventAct (Ev.intervalEnds e)
  | sampleTimesOut (e : EngineId) : EventAct (Ev.sampleTimesOut e)
  | complianceReported (e : EngineId) : EventAct (Ev.complianceReported e)
  | crossed (e : EngineId) : EventAct (Ev.crossed e)
  | settled (e : EngineId) : EventAct (Ev.settled e)
  | discharged (e : EngineId) (crossed : Bool) : EventAct (Ev.discharged e crossed)
  | rampLimited (e : EngineId) : EventAct (Ev.rampLimited e)
  | postDischarged (e : EngineId) : EventAct (Ev.postDischarged e)
  | abortDischarged (e : EngineId) : EventAct (Ev.abortDischarged e)
  | replanAsked (e : EngineId) : EventAct (Ev.replanAsked e)
  | replanTaken (e : EngineId) : EventAct (Ev.replanTaken e)

theorem eventAct_actOf (c : Instr) : EventAct (actOf c) := by cases c <;> constructor

/-- An invariant of the part is kept by every step when the events keep it, and the free choices, a relay's arrival and
the oscillator do. -/
theorem step_keeps {I : Part → Prop} (hfree : ∀ p n, I p → I { p with free := n })
    (harrive : ∀ p card due, I p → I (p.relaysArrive card due))
    (hoscillate : ∀ p, p.ownEvent = none → I p → I p.oscillate)
    (hact : ∀ f, EventAct f → ∀ p, I p → I (f (Ev.start p)).close)
    {s t : State} (hs : I s.part) (h : step s = .next t) : I t.part := by
  rcases step_cases h with ⟨c, n, ht⟩ | ⟨card, due, n, ht⟩ | ⟨hown, ht⟩
  · rw [ht]; exact hact _ (eventAct_actOf c) _ (hfree _ n hs)
  · rw [ht]; exact harrive _ _ _ (hfree _ n hs)
  · rw [ht]; exact hoscillate _ hown hs

/-! ### Requests on their way to an owner -/

/-- A judged request is refused or goes to its owner (R186). -/
theorem Ev.judgeRequest_keeps {J : Ev → Prop} (hrefuse : ∀ v st d, J v → J (v.refuse st d))
    (howner : ∀ k b v, J v → J (owner k b v)) (f : InFrame) {v : Ev} (h : J v) : J (v.judgeRequest f) := by
  unfold Ev.judgeRequest
  split
  · exact hrefuse _ _ _ h
  · split
    · exact hrefuse _ _ _ h
    · split
      · split
        · exact hrefuse _ _ _ h
        · exact howner _ _ _ h
      · exact howner _ _ _ h

/-- An event whose Link Port holds another buffer and request in progress. -/
def Ev.withRequests (v : Ev) (b : List InFrame) (q : Option RequestInProgress) : Ev :=
  { v with p := { v.p with link := { v.p.link with buffer := b, inProgress := q } } }

/-- Taking frames only shortens the buffer, sets the request in progress, and judges it (R185, R186). -/
theorem Ev.takeFrames_keeps {J : Ev → Prop}
    (hport : ∀ v b q, J v → b.length ≤ max v.p.link.buffer.length Config.bufferFrames → J (v.withRequests b q))
    (hjudge : ∀ f v, J v → J (v.judgeRequest f)) (n : Nat) {v : Ev} (h : J v) : J (v.takeFrames n) := by
  induction n generalizing v with
  | zero => exact h
  | succ n ih =>
    unfold Ev.takeFrames
    split
    next f rest _ hbuffer =>
      have hshort : rest.length ≤ max v.p.link.buffer.length Config.bufferFrames := by
        rw [hbuffer, List.length_cons]; omega
      split
      · exact ih (hport v rest v.p.link.inProgress h hshort)
      · exact hjudge _ _ (hport v rest (some ⟨f.number, f.kind, false⟩) h hshort)
    · exact h

/-- A frame offered is discarded, or joins a buffer with room and lets the next be taken (R184). -/
theorem Ev.offer_keeps {J : Ev → Prop}
    (hport : ∀ v b q, J v → b.length ≤ max v.p.link.buffer.length Config.bufferFrames → J (v.withRequests b q))
    (hjudge : ∀ f v, J v → J (v.judgeRequest f)) (f : InFrame) {v : Ev} (h : J v) : J (v.offer f) := by
  unfold Ev.offer
  split
  next hroom =>
    refine Ev.takeFrames_keeps hport hjudge _ ?_
    refine hport v (v.p.link.buffer ++ [f]) v.p.link.inProgress h ?_
    simp only [List.length_append, List.length_singleton]
    omega
  · exact h

/-! ### What the acts of engines and matrix leave as it was -/

theorem Part.reach_zero (p : Part) : p.reach 0 = p := by simp [Part.reach]

/-- What the acts of an engine, a hold and an acknowledgement do to the rest of the part: at most the counter is raised to
a due time. -/
def Ev.OnlyReaches (v w : Ev) : Prop := ∃ due, w.p.outer = (v.p.reach due).outer

theorem Ev.onlyReaches_of_outer {v w : Ev} (h : w.p.outer = v.p.outer) : v.OnlyReaches w :=
  ⟨0, by rw [h, Part.reach_zero]⟩

theorem Ev.onlyReaches_refl (v : Ev) : v.OnlyReaches v := Ev.onlyReaches_of_outer rfl

theorem Ev.sampleArrives_onlyReaches (e : EngineId) (n : Nat) (code : Int) (v : Ev) :
    v.OnlyReaches (v.sampleArrives e n code) := Ev.onlyReaches_of_outer (by simp)

theorem Ev.complianceReported_onlyReaches (e : EngineId) (v : Ev) : v.OnlyReaches (v.complianceReported e) :=
  Ev.onlyReaches_of_outer (by simp)

theorem Ev.crossed_onlyReaches (e : EngineId) (v : Ev) : v.OnlyReaches (v.crossed e) := Ev.onlyReaches_of_outer (by simp)

theorem Ev.intervalEnds_onlyReaches (e : EngineId) (v : Ev) : v.OnlyReaches (v.intervalEnds e) := by
  unfold Ev.intervalEnds
  split
  · exact v.onlyReaches_refl
  next due _ =>
    refine ⟨due, ?_⟩
    dsimp only
    split <;> simp

theorem Ev.sampleTimesOut_onlyReaches (e : EngineId) (v : Ev) : v.OnlyReaches (v.sampleTimesOut e) := by
  unfold Ev.sampleTimesOut
  dsimp only
  split
  · exact v.onlyReaches_refl
  next due _ => exact ⟨due, by split <;> simp⟩

theorem Ev.settled_onlyReaches (e : EngineId) (v : Ev) : v.OnlyReaches (v.settled e) := by
  unfold Ev.settled
  dsimp only
  split
  next due _ _ => exact ⟨due, by split <;> simp⟩
  · exact v.onlyReaches_refl

theorem Ev.discharged_onlyReaches (e : EngineId) (crossed : Bool) (v : Ev) : v.OnlyReaches (v.discharged e crossed) := by
  unfold Ev.discharged
  dsimp only
  split
  next due _ _ => exact ⟨due, by simp⟩
  · exact v.onlyReaches_refl

theorem Ev.rampLimited_onlyReaches (e : EngineId) (v : Ev) : v.OnlyReaches (v.rampLimited e) := by
  unfold Ev.rampLimited
  dsimp only
  split
  next due _ _ => exact ⟨due, by simp⟩
  · exact v.onlyReaches_refl

theorem Ev.postDischarged_onlyReaches (e : EngineId) (v : Ev) : v.OnlyReaches (v.postDischarged e) := by
  unfold Ev.postDischarged
  dsimp only
  split
  next due _ _ _ _ => exact ⟨due, by split <;> simp⟩
  · exact v.onlyReaches_refl

theorem Ev.abortDischarged_onlyReaches (e : EngineId) (v : Ev) : v.OnlyReaches (v.abortDischarged e) := by
  unfold Ev.abortDischarged
  dsimp only
  split
  next due _ _ => exact ⟨due, by simp⟩
  · exact v.onlyReaches_refl

theorem Ev.replanTaken_onlyReaches (e : EngineId) (v : Ev) : v.OnlyReaches (v.replanTaken e) := by
  unfold Ev.replanTaken
  split <;> exact Ev.onlyReaches_of_outer (by simp)

theorem Ev.acknowledged_onlyReaches (v : Ev) : v.OnlyReaches v.acknowledged := by
  unfold Ev.acknowledged
  split
  next card image start _ =>
    split
    · refine ⟨start + Config.transactionTicks, ?_⟩
      rw [Ev.outer_settleLink]
      exact Part.outer_relay _ _ (by simp)
    · exact v.onlyReaches_refl
  · exact v.onlyReaches_refl

theorem Ev.holdExpires_onlyReaches (e : EngineId) (v : Ev) : v.OnlyReaches (v.holdExpires e) := by
  unfold Ev.holdExpires
  split
  · exact v.onlyReaches_refl
  next due _ =>
    refine ⟨due, ?_⟩
    rw [Ev.outer_look]
    exact Part.outer_relay _ _ (by simp)

/-- A card's motion ends: beside the relays, the engines and the counter, at most STOPPING becomes STOPPED. -/
theorem Ev.motionEnds_onlyReaches (card : Nat) (v : Ev) :
    ∃ w, v.OnlyReaches w ∧ (v.motionEnds card = w ∨ v.motionEnds card = w.judgeStopped) := by
  unfold Ev.motionEnds
  dsimp only
  split
  · refine ⟨_, ⟨(v.p.relay.card card).lastDue, ?_⟩, .inr rfl⟩
    rw [Ev.outer_settleLink, Ev.outer_judgeAllReady]
    exact Part.outer_relay _ _ (by simp)
  · exact ⟨v, v.onlyReaches_refl, .inl rfl⟩

/-- The same of the end of an ALL_OPEN. -/
theorem Ev.allOpenEnds_onlyReaches (v : Ev) :
    ∃ w, v.OnlyReaches w ∧ (v.allOpenEnds = w ∨ v.allOpenEnds = w.judgeStopped) := by
  unfold Ev.allOpenEnds
  split
  next start _ => exact ⟨_, ⟨start + Config.transactionTicks, Part.outer_relay _ _ rfl⟩, .inl rfl⟩
  next start _ =>
    refine ⟨_, ⟨start + Config.transactionTicks, ?_⟩, .inr rfl⟩
    rw [Ev.outer_settleLink, Ev.outer_judgeAllReady]
    exact Part.outer_relay _ _ (by simp)
  · exact ⟨v, v.onlyReaches_refl, .inl rfl⟩

/-- The same of an acknowledgement's timeout, after which the window is asked to be evaluated. -/
theorem Ev.ackTimesOut_onlyReaches (v : Ev) :
    ∃ w, v.OnlyReaches w ∧ (v.ackTimesOut = w ∨ v.ackTimesOut = { w.judgeStopped with askEvaluate := true }) := by
  unfold Ev.ackTimesOut
  split
  next card image start _ =>
    refine ⟨_, ⟨start + Config.ackTimeoutTicks, ?_⟩, .inr rfl⟩
    rw [Ev.outer_settleLink, Ev.outer_foldl _ Ev.outer_judgeReady]
    split
    · rw [Ev.outer_cardFault]
      exact Part.outer_relay _ _ (by simp)
    · exact Part.outer_relay _ _ (by simp)
  · exact ⟨v, v.onlyReaches_refl, .inl rfl⟩

/-- A query ends: beside the relays, the engines and the counter, at most the link begins to serve. -/
theorem Ev.queryEnds_onlyReaches (answered : Bool) (v : Ev) :
    ∃ due mode, (v.queryEnds answered).p.outer =
      { (v.p.reach due).outer with link := { v.p.link with mode := mode } } := by
  unfold Ev.queryEnds
  split
  next position start openDue _ =>
    dsimp only
    split
    · exact ⟨start + Config.transactionTicks, v.p.link.mode, Part.outer_relay _ _ (by simp)⟩
    · refine ⟨start + Config.transactionTicks, .serving, ?_⟩
      unfold Ev.enumerated
      dsimp only
      rw [Ev.outer_settleLink]
      simp [Part.outer]
  · exact ⟨0, v.p.link.mode, by rw [Part.reach_zero]; rfl⟩

end Sys2Proof.Machine

/-! PROOFS. Settings, interlock, link and clock stay in their ranges (`Part.SteadyOk`). -/

namespace Sys2Proof.Machine

/-! ### The invariant speaks of what is steady -/

/-- The invariant of the clock, from the fields it speaks of. -/
theorem Timebase.Ok.congr {t u : Timebase} (h : t.Ok) (href : u.ref = t.ref) (hloss : u.lossCount = t.lossCount)
    (hwait : u.verification = t.verification) (hsilent : u.silent = t.silent) : u.Ok :=
  ⟨by rw [hwait, href]; exact h.verification, by rw [hloss]; exact h.lossCount, by rw [hsilent]; exact h.silent,
    by rw [hsilent, href]; exact h.recovery⟩

theorem Part.SteadyOk.congr {p q : Part} (h : p.SteadyOk) (heq : q.steady = p.steady) : q.SteadyOk := by
  obtain ⟨hsettings, hlock, hlink, htime⟩ := h
  simp only [Part.steady, Steady.mk.injEq] at heq
  obtain ⟨h1, h2, h3, _, h5, h6, h7, h8⟩ := heq
  exact ⟨h1 ▸ hsettings, h2 ▸ hlock, h3 ▸ hlink, htime.congr h5 h6 h7 h8⟩

theorem Part.SteadyOk.of_outer {p q : Part} (h : p.SteadyOk) (heq : q.outer = p.outer) : q.SteadyOk :=
  h.congr (Part.steady_of_outer heq)

theorem Part.SteadyOk.reach {p : Part} (h : p.SteadyOk) (due : Nat) : (p.reach due).SteadyOk :=
  ⟨h.settings, h.lock, h.link, h.time.congr rfl rfl rfl rfl⟩

theorem Part.SteadyOk.withLock {p : Part} (h : p.SteadyOk) {k : Interlock} (hk : k.Ok) :
    ({ p with lock := k } : Part).SteadyOk := ⟨h.settings, hk, h.link, h.time⟩

theorem Part.SteadyOk.withTime {p : Part} (h : p.SteadyOk) {t : Timebase} (ht : t.Ok) :
    ({ p with time := t } : Part).SteadyOk := ⟨h.settings, h.lock, h.link, ht⟩

/-- A change of the Link Port that leaves its copy of the block size keeps the invariant if the port is in order. -/
theorem Part.SteadyOk.withLink {p : Part} (h : p.SteadyOk) {l : LinkPort} (hl : l.Ok)
    (hcopy : l.blockCopy = p.link.blockCopy) : ({ p with link := l } : Part).SteadyOk :=
  ⟨by obtain ⟨h1, h2, h3, h4, h5, h6, h7, h8, h9, h10⟩ := h.settings
      exact ⟨h1, h2, h3, h4, h5, h6, h7, h8, h9, hcopy.trans h10⟩, h.lock, hl, h.time⟩

theorem LinkPort.Ok.hand {p : Part} (h : p.link.Ok) (fs : List OutFrame) : (p.hand fs).link.Ok := by
  obtain ⟨hbuffer, hline⟩ := h
  rw [Part.hand_eq]
  refine ⟨hbuffer, ?_⟩
  simp only [Part.onLink]
  by_cases ht : p.link.transmit = []
  · by_cases hf : fs = [] <;> simp_all
  · simp [ht, hline.mpr ht]

theorem Part.SteadyOk.hand {p : Part} (h : p.SteadyOk) (fs : List OutFrame) : (p.hand fs).SteadyOk := by
  have hl := h.link.hand fs
  rw [Part.hand_eq] at hl ⊢
  exact h.withLink hl rfl

theorem Ev.close_steadyOk {v : Ev} (h : v.p.SteadyOk) : v.close.SteadyOk := by
  unfold Ev.close
  exact (h.congr (Ev.steady_settle settleFuel v)).hand _

/-! ### The interlock (R16 to R20) -/

theorem LineFilter.Ok.change {l : LineFilter} (h : l.Ok) (t : Timebase) (asserted : Bool) :
    (l.change t asserted).Ok := by
  unfold LineFilter.change LineFilter.Ok
  split
  · exact h
  · dsimp only
    split <;> simp_all

theorem LineFilter.change_level (l : LineFilter) (t : Timebase) (asserted : Bool) :
    (l.change t asserted).level = l.level := by
  unfold LineFilter.change
  split <;> rfl

theorem Interlock.Ok.rawChange {k : Interlock} (h : k.Ok) (line : FixtureLine) (t : Timebase) (asserted : Bool) :
    (k.setLine line ((k.line line).change t asserted)).Ok := by
  obtain ⟨hpresent, hvacuum, hdocked, hlevel, habsent, hlimit, hstart⟩ := h
  cases line with
  | fixturePresent =>
    exact ⟨hpresent.change t asserted, hvacuum, by
      rw [Interlock.setLine, LineFilter.change_level]; exact hdocked, hlevel, habsent, hlimit, hstart⟩
  | vacuumGood =>
    exact ⟨hpresent, hvacuum.change t asserted, hdocked, by
      rw [Interlock.setLine, LineFilter.change_level]; exact hlevel, habsent, hlimit, hstart⟩

/-- A filter whose debounced level has taken the raw level (R16). -/
theorem LineFilter.ok_rested (level : Bool) : (⟨level, level, none⟩ : LineFilter).Ok := by simp [LineFilter.Ok]

/-- The interlock once an identity read has ended (R18). -/
theorem Interlock.Ok.identityEnds {k : Interlock} (h : k.Ok) {outcome : IdentityRead}
    (hdocked : k.docked = true) (hended : outcome ≠ .reading) :
    ({ k with identity := outcome, readStart := none, identityLimit := none } : Interlock).Ok :=
  ⟨h.present, h.vacuumLine, h.docked, h.vacuum, fun hd => absurd (hdocked.symm.trans hd) (by decide),
    by simp [hended], by simp [hended]⟩

/-- A read under way means that the fixture is docked (R17). -/
theorem Interlock.Ok.docked_of_reading {k : Interlock} (h : k.Ok) (hr : k.identity = .reading) : k.docked = true := by
  cases hd : k.docked with
  | true => rfl
  | false => rw [h.absent hd] at hr; cases hr

/-! ### The acts of the fixture -/

theorem Ev.takeAll_haltingError_steady (v : Ev) (r : ErrorRecord) :
    (v.takeAll fun v => v.haltingError r).p.steady = v.p.steady := Ev.steady_takeAll _ _ fun w => w.steady_haltingError r

theorem Ev.undock_steady (v : Ev) : v.undock.p.steady =
    ({ v.p with lock := { v.p.lock with docked := false, identity := .absent, readStart := none,
                                        identityLimit := none } } : Part).steady := by
  unfold Ev.undock
  dsimp only
  rw [Ev.noteLast_p, Ev.takeAll_haltingError_steady, Ev.map_p, Part.steady_endWaitingDirect,
    Ev.steady_abortAll _ _ (Ev.outer_abortWithoutDischarge _), Ev.steady_look]
  exact Part.steady_of_outer (Part.outer_relay _ _ (by simp))

theorem Ev.vacuumLost_steady (v : Ev) : v.vacuumLost.p.steady =
    ({ v.p with lock := { v.p.lock with vacuum := false } } : Part).steady := by
  unfold Ev.vacuumLost
  dsimp only
  split
  · dsimp only
    rw [Ev.steady_judgeStopped, Ev.takeAll_haltingError_steady, Ev.steady_releaseAll, Ev.map_p,
      Part.steady_endWaitingDirect, Ev.steady_abortAll _ _ (Ev.outer_abortWithDischarge _)]
    rfl
  · rfl

/-- A completed debounce wait: its level is the raw one, and the line's event brings the interlock to it (R16 to R20). -/
theorem Ev.debounced_steadyOk (line : FixtureLine) {v : Ev} (h : v.p.SteadyOk) : (v.debounced line).p.SteadyOk := by
  unfold Ev.debounced
  dsimp only
  split
  · exact h
  next due hwait =>
    have hr := h.reach due
    obtain ⟨hpresent, hvacuumLine, hdocked, hvacuum, habsent, hlimit, hstart⟩ := h.lock
    cases line with
    | fixturePresent =>
      cases hraw : (v.p.lock.line .fixturePresent).raw with
      | true =>
        exact hr.withLock ⟨LineFilter.ok_rested true, hvacuumLine, rfl, hvacuum, by simp, by simp, by simp⟩
      | false =>
        refine Part.SteadyOk.congr (hr.withLock ?_) (Ev.undock_steady _)
        exact ⟨LineFilter.ok_rested false, hvacuumLine, rfl, hvacuum, by simp, by simp, by simp⟩
    | vacuumGood =>
      cases hraw : (v.p.lock.line .vacuumGood).raw with
      | true =>
        exact hr.withLock ⟨hpresent, LineFilter.ok_rested true, hdocked, rfl, habsent, hlimit, hstart⟩
      | false =>
        refine Part.SteadyOk.congr (hr.withLock ?_) (Ev.vacuumLost_steady _)
        exact ⟨hpresent, LineFilter.ok_rested false, hdocked, rfl, habsent, hlimit, hstart⟩

theorem identityOutcome_ne_reading (transfer : IdentityTransfer) : identityOutcome transfer ≠ .reading := by
  unfold identityOutcome
  split
  · simp
  · split <;> simp

theorem Part.reachTransfer_eq (p : Part) (transfer : IdentityTransfer) : ∃ due, p.reachTransfer transfer = p.reach due := by
  unfold Part.reachTransfer
  split
  · exact ⟨_, rfl⟩
  · exact ⟨0, p.reach_zero.symm⟩

theorem Ev.identityTransferred_steadyOk (transfer : IdentityTransfer) {v : Ev} (h : v.p.SteadyOk) :
    (v.identityTransferred transfer).p.SteadyOk := by
  unfold Ev.identityTransferred
  split
  next hreading =>
    obtain ⟨due, hdue⟩ := v.p.reachTransfer_eq transfer
    have hdocked := h.lock.docked_of_reading hreading
    have hp : (v.map fun p => p.reachTransfer transfer).p = v.p.reach due := hdue
    have hended : ∀ late : Bool,
        (if late = true then IdentityRead.unreadable else identityOutcome transfer) ≠ .reading := by
      intro late
      split
      · simp
      · exact identityOutcome_ne_reading transfer
    dsimp only
    unfold Ev.identityEnds
    dsimp only
    rw [Ev.noteFirst_p, Ev.map_p, hp]
    exact (h.reach due).withLock (h.lock.identityEnds hdocked (hended _))
  · exact h

theorem Ev.identityLimited_steadyOk {v : Ev} (h : v.p.SteadyOk) : v.identityLimited.p.SteadyOk := by
  unfold Ev.identityLimited
  split
  · exact h
  next due hlimit =>
    have hreading : v.p.lock.identity = .reading := h.lock.limit.mp (by rw [hlimit]; rfl)
    exact (h.reach due).withLock (h.lock.identityEnds (h.lock.docked_of_reading hreading) (by simp))

/-! ### The clock (R96 to R98) -/

theorem Timebase.Ok.edge {t : Timebase} (h : t.Ok) : t.edge.Ok := by
  obtain ⟨hwait, hloss, _, _⟩ := h
  unfold Timebase.edge
  cases href : t.ref with
  | recovery => exact ⟨by simp, hloss, Nat.zero_le _, by simp⟩
  | verifying => exact ⟨by simpa [href] using hwait, hloss, Nat.zero_le _, by simp⟩
  | external => exact ⟨by simpa [href] using hwait, hloss, Nat.zero_le _, by simp⟩

theorem Timebase.Ok.lose (t : Timebase) : t.lose.Ok :=
  ⟨by simp, by simp, by simp, by simp⟩

theorem Timebase.Ok.verified {t : Timebase} (h : t.Ok) : ({ t with ref := .external, verification := none } : Timebase).Ok :=
  ⟨by simp, h.lossCount, h.silent, by simp⟩

/-- A period passes only where no loss is due, so fewer than 100 have passed without an edge (R97). -/
theorem Timebase.Ok.period {p : Part} (h : p.time.Ok) (hown : p.ownEvent = none) : p.time.period.Ok := by
  obtain ⟨hwait, hloss, hsilent, hrecovery⟩ := h
  have hahead := (Part.ownEvent_none.mp hown).2
  have hfewer : p.time.ref ≠ .recovery → p.time.silent < Config.lossPeriods := by
    intro href
    by_contra hmany
    have hdue : (p.time.tick, Instr.referenceLoss) ∈ p.timed := by
      rw [Part.timed, Part.lossDue, if_pos ⟨href, by omega⟩]
      simp
    have := hahead _ hdue
    omega
  rw [Timebase.period_eq]
  refine ⟨hwait, hloss, ?_, fun href => ?_⟩
  · dsimp only
    split
    · exact hsilent
    next href => exact hfewer href
  · have href : p.time.ref = .recovery := href
    simp only [href, if_true]
    exact hrecovery href

/-! ### The requests -/

theorem Part.SteadyOk.withSettings {p q : Part} (h : p.SteadyOk) (hs : q.settings.Ok) (hlock : q.lock = p.lock)
    (hlink : q.link = { p.link with blockCopy := q.link.blockCopy }) (htime : q.time = p.time) : q.SteadyOk :=
  ⟨hs, hlock ▸ h.lock, by rw [hlink]; exact ⟨h.link.buffer, h.link.line⟩, htime ▸ h.time⟩

theorem ownMapCursor_steadyOk (b : List Byte) {v : Ev} (h : v.p.SteadyOk) : (ownMapCursor b v).p.SteadyOk := by
  unfold ownMapCursor
  dsimp only
  split
  · simpa using h
  next hn =>
    rw [Ev.reply_p]
    refine h.withSettings ?_ rfl rfl rfl
    exact { h.settings with cursor := by simp only [Config.nails] at hn ⊢; exact le_of_lt (not_le.mp hn) }

/-- A list mapped into options comes out whole exactly when every element does. -/
theorem mapM_eq_some_iff {α β : Type} {f : α → Option β} {l : List α} {l' : List β} :
    l.mapM f = some l' ↔ l.map f = l'.map some := by
  induction l generalizing l' with
  | nil => cases l' <;> simp
  | cons a l ih =>
    cases hl : l.mapM f <;> cases hf : f a <;> cases l' <;> simp_all [List.mapM_cons]

theorem mapNailsEntries_length {b : List Byte} {count : Nat} {entries : List NailEntry}
    (h : mapNailsEntries b count = some entries) : entries.length = count := by
  have := congrArg List.length (mapM_eq_some_iff.mp h)
  simpa using this.symm

theorem runOf_length (first : Nat) (entries : List NailEntry) : (runOf first entries).length = entries.length := by
  simp [runOf]

theorem Part.writeRun_steady (p : Part) (run : List (Nat × NailEntry)) : ∃ nails, p.writeRun run =
    { p with map := { p.map with nails := nails, cursor := p.map.cursor + run.length } } := by
  obtain ⟨nails, h⟩ := Part.foldl_setNail_eq (fun x => x.2) run p
  exact ⟨nails, by rw [Part.writeRun, h]; rfl⟩

theorem ownMapNails_steadyOk (b : List Byte) {v : Ev} (h : v.p.SteadyOk) : (ownMapNails b v).p.SteadyOk := by
  unfold ownMapNails
  dsimp only
  iterate 4 (split; · simpa using h)
  next hfit =>
    split
    · simpa using h
    next entries hentries =>
      split
      · simpa using h
      · simpa using h
      · rw [Ev.reply_p, Ev.map_p]
        obtain ⟨nails, heq⟩ := v.p.writeRun_steady (runOf v.p.map.cursor entries)
        rw [heq]
        refine h.withSettings ?_ rfl rfl rfl
        have hcursor : v.p.map.cursor + (runOf v.p.map.cursor entries).length ≤ Config.nails := by
          rw [runOf_length, mapNailsEntries_length hentries]
          exact not_lt.mp hfit
        exact { h.settings with cursor := hcursor }

theorem ownMapRead_steadyOk (b : List Byte) {v : Ev} (h : v.p.SteadyOk) : (ownMapRead b v).p.SteadyOk := by
  unfold ownMapRead
  dsimp only
  split
  · simpa using h
  · rw [Ev.reply_p]
    have hcursor : v.p.map.cursor + min (byteAt b 0) (Config.nails - v.p.map.cursor) ≤ Config.nails := by
      have hc : v.p.map.cursor ≤ Config.nails := h.settings.cursor
      omega
    exact h.withSettings { h.settings with cursor := hcursor } rfl rfl rfl

theorem ownMapNetattr_steadyOk (b : List Byte) {v : Ev} (h : v.p.SteadyOk) : (ownMapNetattr b v).p.SteadyOk := by
  unfold ownMapNetattr
  dsimp only
  split
  · simpa using h
  · split
    · simpa using h
    next hbad =>
      rw [Ev.reply_p]
      refine h.withSettings ?_ rfl rfl rfl
      refine { h.settings with attrs := tableWf_store h.settings.attrs _ _, nets := fun y hy => ?_ }
      rcases mem_store hy with rfl | hy
      · simp only; omega
      · exact h.settings.nets y hy

theorem ownMapIdentity_steadyOk (b : List Byte) {v : Ev} (h : v.p.SteadyOk) : (ownMapIdentity b v).p.SteadyOk := by
  unfold ownMapIdentity
  split
  · simpa using h
  · rw [Ev.reply_p]
    exact h.withSettings { h.settings with declared := fun _ => rfl } rfl rfl rfl

theorem ownMapFreeze_steadyOk (b : List Byte) {v : Ev} (h : v.p.SteadyOk) : (ownMapFreeze b v).p.SteadyOk := by
  unfold ownMapFreeze
  split
  · simpa using h
  next hdeclared =>
    rw [Ev.reply_p]
    refine h.withSettings { h.settings with declared := fun _ => ?_ } rfl rfl rfl
    cases hstate : v.p.map.state with
    | frozen => exact h.settings.declared hstate
    | editable => exact Option.isSome_iff_ne_none.mpr fun hnone => hdeclared ⟨hstate, hnone⟩

theorem ownMapClear_steadyOk (b : List Byte) {v : Ev} (h : v.p.SteadyOk) : (ownMapClear b v).p.SteadyOk := by
  unfold ownMapClear
  iterate 2 (split; · simpa using h)
  rw [Ev.reply_p]
  refine h.withSettings ?_ rfl rfl rfl
  exact { h.settings with cursor := Nat.zero_le _, declared := nofun, attrs := rfl, nets := nofun }

theorem ownTemplateWrite_steadyOk (b : List Byte) {v : Ev} (h : v.p.SteadyOk) :
    (ownTemplateWrite b v).p.SteadyOk := by
  unfold ownTemplateWrite
  dsimp only
  iterate 2 (split; · simpa using h)
  split
  · simpa using h
  next hcode =>
    split
    · simpa using h
    next hcount =>
      split
      · simpa using h
      next hnets =>
        rw [Ev.reply_p]
        refine h.withSettings ?_ rfl rfl rfl
        refine { h.settings with templates := tableWf_store h.settings.templates _ _, lists := fun y hy => ?_ }
        rcases mem_store hy with rfl | hy
        · exact ⟨not_le.mp hcode, by simpa using hcount, by simpa using hnets⟩
        · exact h.settings.lists y hy

theorem ownPace_steadyOk (b : List Byte) {v : Ev} (h : v.p.SteadyOk) : (ownPace b v).p.SteadyOk := by
  unfold ownPace
  dsimp only
  split
  · simpa using h
  next hlegal =>
    simp only [not_or, not_lt, not_not] at hlegal
    obtain ⟨hwindow, hmax, hhold, hblock⟩ := hlegal
    have hset : (v.p.setPace (byteAt b 0) (u32At b 1) (byteAt b 5)).SteadyOk := by
      refine h.withSettings ?_ rfl rfl rfl
      exact { h.settings with window := ⟨Nat.one_le_iff_ne_zero.mpr hwindow, hmax⟩, holdLimit := hhold,
                              block := hblock, copy := rfl }
    split
    · exact hset.congr ((Ev.steady_formBlocks _ _).trans (by rw [Ev.reply_p]; rfl))
    · exact hset.congr (by rw [Ev.reply_p]; rfl)

theorem Ev.stopFrom_steady (v : Ev) : v.stopFrom.p.steady = v.p.steady := by
  unfold Ev.stopFrom
  split
  · simp
  · dsimp only
    rw [Ev.steady_judgeStopped, Ev.steady_takeAll _ id fun _ => rfl, Ev.steady_releaseAll,
      Ev.steady_abortAll _ _ (Ev.outer_abortWithDischarge _), Ev.map_p]
    exact (Ev.steady_enterSeq _ _).trans (by simp)

theorem Ev.resumeFrom_steady (v : Ev) : v.resumeFrom.p.steady = v.p.steady := by
  unfold Ev.resumeFrom
  split
  · simp
  · split
    · simp
    · simp

theorem Part.unmarked_steady (p : Part) : p.unmarked.steady = p.steady := by
  obtain ⟨nails, heq⟩ := Part.foldl_setNail_eq
    (fun x : Nat × NailEntry => { x.2 with condition := .good }) p.map.suspects p
  have hp : p.unmarked = { p with map := { p.map with nails := nails } } := heq
  rw [hp]; rfl

theorem ownStepWrite_steady (b : List Byte) (v : Ev) : (ownStepWrite b v).p.steady = v.p.steady := by
  unfold ownStepWrite
  dsimp only
  iterate 3 (split; · simp)
  split
  · simp
  · rw [Ev.reply_p]; rfl

theorem ownStepRead_steady (b : List Byte) (v : Ev) : (ownStepRead b v).p.steady = v.p.steady := by
  unfold ownStepRead
  dsimp only
  split <;> simp

theorem ownStepCommit_steady (b : List Byte) (v : Ev) : (ownStepCommit b v).p.steady = v.p.steady := by
  unfold ownStepCommit
  dsimp only
  iterate 3 (split; · simp)
  split
  · simp
  · rw [Ev.commitReported_eq]
    dsimp only
    split
    · rw [Ev.steady_enterSeq, Ev.reply_p]; rfl
    · rw [Ev.reply_p]; rfl

theorem ownRingReset_steady (b : List Byte) (v : Ev) : (ownRingReset b v).p.steady = v.p.steady := by
  unfold ownRingReset
  split
  · simp
  · rw [Ev.reply_p]; rfl

theorem ownTemplateRead_steady (b : List Byte) (v : Ev) : (ownTemplateRead b v).p.steady = v.p.steady := by
  unfold ownTemplateRead
  dsimp only
  split <;> simp

theorem ownRun_steady (b : List Byte) (v : Ev) : (ownRun b v).p.steady = v.p.steady := by
  unfold ownRun
  dsimp only
  iterate 3 (split; · simp)
  split
  · simp
  · split <;> simp

theorem ownPause_steady (b : List Byte) (v : Ev) : (ownPause b v).p.steady = v.p.steady := by
  unfold ownPause
  split <;> simp

theorem ownResume_steady (b : List Byte) (v : Ev) : (ownResume b v).p.steady = v.p.steady := by
  unfold ownResume
  split <;> simp [Ev.resumeFrom_steady]

theorem ownStop_steady (b : List Byte) (v : Ev) : (ownStop b v).p.steady = v.p.steady := by
  unfold ownStop
  split <;> simp [Ev.stopFrom_steady]

theorem ownDirectStep_steady (b : List Byte) (v : Ev) : (ownDirectStep b v).p.steady = v.p.steady := by
  unfold ownDirectStep
  dsimp only
  iterate 3 (split; · simp)
  split
  · simp
  · split
    · simp
    · rw [Ev.reply_p]; rfl

theorem ownRelayQuery_steady (b : List Byte) (v : Ev) : (ownRelayQuery b v).p.steady = v.p.steady := by
  unfold ownRelayQuery
  dsimp only
  split <;> simp

theorem ownEngineClear_steady (b : List Byte) (v : Ev) : (ownEngineClear b v).p.steady = v.p.steady := by
  unfold ownEngineClear
  split
  · simp
  · split <;> simp

theorem ownResultsRead_steady (b : List Byte) (v : Ev) : (ownResultsRead b v).p.steady = v.p.steady := by
  unfold ownResultsRead
  dsimp only
  split
  · simp
  · split <;> (rw [Ev.reply_p]; rfl)

theorem ownErrlogRead_steady (b : List Byte) (v : Ev) : (ownErrlogRead b v).p.steady = v.p.steady := by
  unfold ownErrlogRead
  split
  · simp
  · dsimp only
    split
    · rw [Ev.steady_enterSeq, Ev.map_p, Ev.reply_p]; rfl
    · rw [Ev.map_p, Ev.reply_p]; rfl

theorem ownPartReset_steadyOk (b : List Byte) {v : Ev} (h : v.p.SteadyOk) : (ownPartReset b v).p.SteadyOk := by
  simp only [ownPartReset, Ev.map_p, Ev.reply_p]
  exact h.withLink ⟨h.link.buffer, h.link.line⟩ rfl

/-- Every owner keeps the invariant: the requests that load settings check them first, and the others load none. -/
theorem owner_steadyOk (k : RequestKind) (b : List Byte) (v : Ev) (h : v.p.SteadyOk) : (owner k b v).p.SteadyOk := by
  cases k with
  | mapCursor => exact ownMapCursor_steadyOk b h
  | mapNails => exact ownMapNails_steadyOk b h
  | mapRead => exact ownMapRead_steadyOk b h
  | mapNetattr => exact ownMapNetattr_steadyOk b h
  | mapIdentity => exact ownMapIdentity_steadyOk b h
  | mapFreeze => exact ownMapFreeze_steadyOk b h
  | mapClear => exact ownMapClear_steadyOk b h
  | mapUnmark => exact h.congr ((congrArg Part.steady (Ev.reply_p _ _)).trans v.p.unmarked_steady)
  | fixtureQuery => exact h.congr (congrArg Part.steady (Ev.reply_p v _))
  | stepWrite => exact h.congr (ownStepWrite_steady b v)
  | stepRead => exact h.congr (ownStepRead_steady b v)
  | stepCommit => exact h.congr (ownStepCommit_steady b v)
  | ringReset => exact h.congr (ownRingReset_steady b v)
  | templateWrite => exact ownTemplateWrite_steadyOk b h
  | templateRead => exact h.congr (ownTemplateRead_steady b v)
  | run => exact h.congr (ownRun_steady b v)
  | pause => exact h.congr (ownPause_steady b v)
  | resume => exact h.congr (ownResume_steady b v)
  | stop => exact h.congr (ownStop_steady b v)
  | status => exact h.congr (congrArg Part.steady (Ev.reply_p v _))
  | directStep => exact h.congr (ownDirectStep_steady b v)
  | relayQuery => exact h.congr (ownRelayQuery_steady b v)
  | engineClear => exact h.congr (ownEngineClear_steady b v)
  | resultsRead => exact h.congr (ownResultsRead_steady b v)
  | errlogRead => exact h.congr (ownErrlogRead_steady b v)
  | timeRead => exact h.congr (congrArg Part.steady (Ev.reply_p v _))
  | describe => exact h.congr (congrArg Part.steady (Ev.reply_p v _))
  | pace => exact ownPace_steadyOk b h
  | partReset => exact ownPartReset_steadyOk b h

/-! ### The acts of the link -/

theorem Ev.withRequests_steadyOk (v : Ev) (b : List InFrame) (q : Option RequestInProgress) (h : v.p.SteadyOk)
    (hb : b.length ≤ max v.p.link.buffer.length Config.bufferFrames) : (v.withRequests b q).p.SteadyOk :=
  h.withLink ⟨le_trans hb (max_le h.link.buffer (le_refl _)), h.link.line⟩ rfl

theorem Ev.judgeRequest_steadyOk (f : InFrame) (v : Ev) (h : v.p.SteadyOk) : (v.judgeRequest f).p.SteadyOk :=
  Ev.judgeRequest_keeps (J := fun v => v.p.SteadyOk) (fun v st d h => by simpa using h) owner_steadyOk f h

theorem Ev.offer_steadyOk (f : InFrame) {v : Ev} (h : v.p.SteadyOk) : (v.offer f).p.SteadyOk :=
  Ev.offer_keeps (J := fun v => v.p.SteadyOk) Ev.withRequests_steadyOk Ev.judgeRequest_steadyOk f h

theorem Ev.takeByte_steadyOk (b : Byte) {v : Ev} (h : v.p.SteadyOk) : (v.takeByte b).p.SteadyOk := by
  unfold Ev.takeByte
  dsimp only
  have hreceived := h.withLink (l := { v.p.link with
    receiver := (v.p.link.receiver.next b).1,
    interByte := v.p.link.receiver.waitAfter b v.p.time v.p.link.interByte }) ⟨h.link.buffer, h.link.line⟩ rfl
  split
  · exact Ev.offer_steadyOk _ hreceived
  · exact hreceived

theorem Part.SteadyOk.dropSent {p : Part} (h : p.SteadyOk) : p.dropSent.SteadyOk := by
  refine h.withLink ⟨h.link.buffer, ?_⟩ rfl
  dsimp only
  split <;> simp_all

/-- After a reset the lines are deasserted, and one that is asserted outside waits (R16, R106). -/
theorem Part.restart_steadyOk (p : Part) (cause : ResetCause) : (p.restart cause).SteadyOk := by
  have hline : ∀ raw, (LineFilter.restart raw).Ok := by
    intro raw
    cases raw <;> simp [LineFilter.restart, LineFilter.Ok]
  refine ⟨?_, ?_, ?_, ?_⟩
  · exact ⟨Nat.zero_le _, nofun, rfl, nofun, rfl, nofun, ⟨le_of_lt (by decide : 1 < 8), le_refl 8⟩,
      (by decide : 5000 ≤ 100000), (by decide : 0 ∈ blockSizes), rfl⟩
  · exact ⟨hline _, hline _, rfl, rfl, fun _ => rfl, by simp [Part.restart, Part.fresh], by simp [Part.restart, Part.fresh]⟩
  · exact ⟨Nat.zero_le _, by simp [Part.restart, Part.fresh]⟩
  · exact ⟨by simp [Part.restart, Part.fresh], Nat.zero_le _, Nat.zero_le _, fun _ => rfl⟩

theorem Ev.sent_steadyOk {v : Ev} (h : v.p.SteadyOk) : v.sent.p.SteadyOk := by
  unfold Ev.sent
  split
  · exact h
  · split
    · split
      · split
        · exact v.p.restart_steadyOk .partReset
        · refine Ev.takeFrames_keeps (J := fun v => v.p.SteadyOk) Ev.withRequests_steadyOk Ev.judgeRequest_steadyOk _ ?_
          exact h.dropSent.withLink ⟨h.dropSent.link.buffer, h.dropSent.link.line⟩ rfl
      · exact h.dropSent
    · exact h.dropSent

/-! ### Every act -/

theorem Part.SteadyOk.onlyReaches {v w : Ev} (h : v.p.SteadyOk) (hw : v.OnlyReaches w) : w.p.SteadyOk := by
  obtain ⟨due, heq⟩ := hw
  exact (h.reach due).of_outer heq

theorem Ev.replanAsked_steady (e : EngineId) (v : Ev) : (v.replanAsked e).p.steady = v.p.steady := by
  unfold Ev.replanAsked
  dsimp only
  split
  · split
    · rfl
    · split
      · rfl
      · split
        · rfl
        · split
          · rfl
          · simp
  · rfl

theorem EventAct.steadyOk {f : Ev → Ev} (hf : EventAct f) {v : Ev} (h : v.p.SteadyOk) : (f v).p.SteadyOk := by
  cases hf with
  | powerOn => exact v.p.restart_steadyOk .powerOn
  | takeByte b => exact Ev.takeByte_steadyOk b h
  | interByteEnds =>
    unfold Ev.interByteEnds
    split
    · exact h
    next due _ => exact (h.reach due).withLink ⟨h.link.buffer, h.link.line⟩ rfl
  | sent => exact Ev.sent_steadyOk h
  | offer f => exact Ev.offer_steadyOk f h
  | rawChange line asserted => exact h.withLock (h.lock.rawChange line v.p.time asserted)
  | debounced line => exact Ev.debounced_steadyOk line h
  | identityTransferred transfer => exact Ev.identityTransferred_steadyOk transfer h
  | identityLimited => exact Ev.identityLimited_steadyOk h
  | edge => exact h.withTime h.time.edge
  | loss =>
    unfold Ev.loss
    split
    · exact h.withTime (Timebase.Ok.lose _)
    · exact h.withTime (Timebase.Ok.lose _)
    · exact h
  | verified =>
    unfold Ev.verified
    split
    · exact h
    next due _ => exact (h.reach due).withTime ((h.reach due).time.verified)
  | queryEnds answered =>
    obtain ⟨due, mode, heq⟩ := Ev.queryEnds_onlyReaches answered v
    exact ((h.reach due).withLink (l := { v.p.link with mode := mode }) ⟨h.link.buffer, h.link.line⟩ rfl).of_outer heq
  | acknowledged => exact h.onlyReaches v.acknowledged_onlyReaches
  | ackTimesOut =>
    obtain ⟨w, hw, heq | heq⟩ := v.ackTimesOut_onlyReaches
    · exact heq ▸ h.onlyReaches hw
    · rw [heq]; exact (h.onlyReaches hw).congr w.steady_judgeStopped
  | motionEnds card =>
    obtain ⟨w, hw, heq | heq⟩ := v.motionEnds_onlyReaches card
    · exact heq ▸ h.onlyReaches hw
    · rw [heq]; exact (h.onlyReaches hw).congr w.steady_judgeStopped
  | allOpenEnds =>
    obtain ⟨w, hw, heq | heq⟩ := v.allOpenEnds_onlyReaches
    · exact heq ▸ h.onlyReaches hw
    · rw [heq]; exact (h.onlyReaches hw).congr w.steady_judgeStopped
  | holdExpires e => exact h.onlyReaches (v.holdExpires_onlyReaches e)
  | sampleArrives e n code => exact h.onlyReaches (v.sampleArrives_onlyReaches e n code)
  | intervalEnds e => exact h.onlyReaches (v.intervalEnds_onlyReaches e)
  | sampleTimesOut e => exact h.onlyReaches (v.sampleTimesOut_onlyReaches e)
  | complianceReported e => exact h.onlyReaches (v.complianceReported_onlyReaches e)
  | crossed e => exact h.onlyReaches (v.crossed_onlyReaches e)
  | settled e => exact h.onlyReaches (v.settled_onlyReaches e)
  | discharged e crossed => exact h.onlyReaches (v.discharged_onlyReaches e crossed)
  | rampLimited e => exact h.onlyReaches (v.rampLimited_onlyReaches e)
  | postDischarged e => exact h.onlyReaches (v.postDischarged_onlyReaches e)
  | abortDischarged e => exact h.onlyReaches (v.abortDischarged_onlyReaches e)
  | replanAsked e => exact h.congr (v.replanAsked_steady e)
  | replanTaken e => exact h.onlyReaches (v.replanTaken_onlyReaches e)

/-! ### The statement -/

/-- Settles O55: each act of an event keeps the invariant, the close only adds frames to the line, and a period of the
oscillator passes only where no loss is due. -/
theorem everyStepKeepsSettingsInterlockLinkAndClock : Obligations.EveryStepKeepsSettingsInterlockLinkAndClock :=
  fun _ _ => step_keeps (fun _ _ h => ⟨h.settings, h.lock, h.link, h.time⟩)
    (fun _ _ _ h => h.of_outer (Part.outer_relay _ _ (by simp)))
    (fun _ hown h => h.withTime (h.time.period hown)) fun _ hf _ h => Ev.close_steadyOk (hf.steadyOk h)

end Sys2Proof.Machine

/-! PROOFS. What the Dispatcher's operations can do to the part (R44, R65, R68, R71): one lemma for each, which the
invariants of the Dispatcher and of the tables use. -/

namespace Sys2Proof.Machine

/-! ### The steps in flight -/

theorem Part.mem_inFlight {p : Part} {x : Entry} : x ∈ p.inFlight ↔ ∃ e, p.disp.inFlight.get e = some x := by
  simp only [Part.inFlight, List.mem_filterMap]
  exact ⟨fun ⟨e, _, h⟩ => ⟨e, h⟩, fun ⟨e, h⟩ => ⟨e, e.mem_all, h⟩⟩

/-- No ring step is in flight exactly when no entry names a slot. -/
theorem Part.ringInFlight_eq_false {p : Part} :
    p.ringInFlight = false ↔ ∀ e x, p.disp.inFlight.get e = some x → x.origin = none := by
  simp only [Part.ringInFlight, List.any_eq_false, Part.mem_inFlight]
  constructor
  · intro h e x hx
    simpa using h x ⟨e, hx⟩
  · rintro h x ⟨e, hx⟩
    simp [h e x hx]

theorem Part.ringInFlight_congr {p q : Part} (h : q.disp.inFlight = p.disp.inFlight) :
    q.ringInFlight = p.ringInFlight := by simp only [Part.ringInFlight, Part.inFlight, h]

/-- Taking an entry out of flight, or an entry without a slot, brings no ring step into flight. -/
theorem Part.ringInFlight_set {p q : Part} {e : EngineId} {x : Option Entry}
    (h : q.disp.inFlight = p.disp.inFlight.set e x) (hx : ∀ y, x = some y → y.origin = none)
    (hp : p.ringInFlight = false) : q.ringInFlight = false := by
  rw [Part.ringInFlight_eq_false] at hp ⊢
  intro f y hy
  rw [h] at hy
  by_cases hf : f = e
  · subst hf
    rw [PerEngine.get_set_same] at hy
    exact hx y hy
  · rw [PerEngine.get_set_ne _ _ _ _ hf] at hy
    exact hp f y hy

/-! ### State entries -/

theorem Ev.enterSeq_p (v : Ev) (st : SeqState) :
    (v.enterSeq st).p = { v.p with disp := { v.p.disp with seq := st } } := by
  unfold Ev.enterSeq
  dsimp only
  split <;> rfl

@[simp] theorem Ev.enterSeq_completions (v : Ev) (st : SeqState) : (v.enterSeq st).completions = v.completions := by
  unfold Ev.enterSeq
  dsimp only
  split <;> rfl

/-- A halting error halts a run, counts in HALTED, and is nothing elsewhere (R68). -/
theorem Ev.haltingError_p (v : Ev) (r : ErrorRecord) :
    ((v.p.disp.seq = .running ∨ v.p.disp.seq = .pausing) ∧ (v.haltingError r).p =
      { v.p with log := v.p.log.take { r with time := v.p.time48 }, disp := { v.p.disp with seq := .halted } }) ∨
    (v.p.disp.seq = .halted ∧
      (v.haltingError r).p = { v.p with log := v.p.log.take { r with time := v.p.time48 } }) ∨
    (v.haltingError r).p = v.p := by
  unfold Ev.haltingError
  dsimp only
  cases h : v.p.disp.seq with
  | running => exact .inl ⟨.inl rfl, Ev.enterSeq_p _ _⟩
  | pausing => exact .inl ⟨.inr rfl, Ev.enterSeq_p _ _⟩
  | halted => exact .inr (.inl ⟨rfl, rfl⟩)
  | stopped => exact .inr (.inr rfl)
  | paused => exact .inr (.inr rfl)
  | drained => exact .inr (.inr rfl)
  | stopping => exact .inr (.inr rfl)

@[simp] theorem Ev.haltingError_completions (v : Ev) (r : ErrorRecord) :
    (v.haltingError r).completions = v.completions := by
  unfold Ev.haltingError
  dsimp only
  split <;> simp

/-- STOPPING ends only with no ring step in flight and the matrix open (R51). -/
theorem Ev.judgeStopped_cases (v : Ev) : v.judgeStopped = v ∨
    (v.p.disp.seq = .stopping ∧ v.p.ringInFlight = false ∧ v.p.relay.matrixOpen = true ∧
      v.judgeStopped = v.enterSeq .stopped) := by
  unfold Ev.judgeStopped
  split
  next h => exact .inr ⟨h.1, h.2.1, h.2.2, rfl⟩
  · exact .inl rfl

/-- The state entries of a completion: each with no ring step in flight (R46, R47, R51). -/
theorem Ev.judgeState_cases (v : Ev) : v.judgeState = v ∨
    (v.p.ringInFlight = false ∧ ∃ st, v.judgeState = v.enterSeq st ∧
      ((v.p.disp.seq = .pausing ∧ st = .paused) ∨ (v.p.disp.seq = .running ∧ st = .drained) ∨
        (v.p.disp.seq = .stopping ∧ st = .stopped))) := by
  unfold Ev.judgeState
  split
  next h =>
    split
    · exact .inl rfl
    next hr => exact .inr ⟨by simpa using hr, _, rfl, .inl ⟨h, rfl⟩⟩
  next h =>
    split
    · exact .inl rfl
    next hr => exact .inr ⟨by simpa using (not_or.mp hr).1, _, rfl, .inr (.inl ⟨h, rfl⟩)⟩
  next h =>
    rcases v.judgeStopped_cases with heq | ⟨_, hr, _, heq⟩
    · exact .inl heq
    · exact .inr ⟨hr, _, heq, .inr (.inr ⟨h, rfl⟩)⟩
  all_goals exact .inl rfl

/-- PAUSE_AFTER pauses a run, at once when no ring step is in flight (R48). -/
theorem Ev.pauseAfter_cases (v : Ev) (c : Completion) : v.pauseAfter c = v ∨
    (v.p.disp.seq = .running ∧
      v.pauseAfter c = v.enterSeq (if v.p.ringInFlight then .pausing else .paused)) := by
  unfold Ev.pauseAfter
  split
  next h => exact .inr ⟨h.2, rfl⟩
  · exact .inl rfl

/-- The judging of a completion: the halting error it may be, its PAUSE_AFTER, and the state entries (R65 steps 2 to 5). -/
theorem Ev.judgeStep_cases (v : Ev) (c : Completion) :
    v.judgeStep c = { v with askEvaluate := true } ∨
    (∃ r, v.judgeStep c = ((({ v with askEvaluate := true } : Ev).haltingError r).pauseAfter c).judgeState) ∨
    v.judgeStep c = (({ v with askEvaluate := true } : Ev).pauseAfter c).judgeState := by
  unfold Ev.judgeStep
  dsimp only
  split
  · split
    next r _ => exact .inr (.inl ⟨r, rfl⟩)
    · exact .inr (.inr rfl)
  · exact .inl rfl

/-- What a predicate on events survives the judging of completions with. -/
structure JudgeKept (J : Ev → Prop) : Prop where
  asked : ∀ v, J v → J { v with askEvaluate := true }
  halting : ∀ v r, J v → J (v.haltingError r)
  entered : ∀ v st, J v → v.p.disp.seq = .running ∨ v.p.disp.seq = .pausing ∨ v.p.disp.seq = .stopping →
    st ≠ .halted → (st = .stopped → v.p.disp.seq = .stopping) →
    (st = .stopped ∨ st = .paused ∨ st = .drained → v.p.ringInFlight = false) → J (v.enterSeq st)

theorem JudgeKept.judgeStopped {J : Ev → Prop} (hJ : JudgeKept J) {v : Ev} (h : J v) : J v.judgeStopped := by
  rcases v.judgeStopped_cases with heq | ⟨hseq, hr, _, heq⟩
  · rwa [heq]
  · rw [heq]
    exact hJ.entered v _ h (.inr (.inr hseq)) nofun (fun _ => hseq) fun _ => hr

theorem JudgeKept.judgeState {J : Ev → Prop} (hJ : JudgeKept J) {v : Ev} (h : J v) : J v.judgeState := by
  rcases v.judgeState_cases with heq | ⟨hr, st, heq, ⟨hseq, rfl⟩ | ⟨hseq, rfl⟩ | ⟨hseq, rfl⟩⟩
  · rwa [heq]
  · rw [heq]; exact hJ.entered v _ h (.inr (.inl hseq)) nofun nofun fun _ => hr
  · rw [heq]; exact hJ.entered v _ h (.inl hseq) nofun nofun fun _ => hr
  · rw [heq]; exact hJ.entered v _ h (.inr (.inr hseq)) nofun (fun _ => hseq) fun _ => hr

theorem JudgeKept.pauseAfter {J : Ev → Prop} (hJ : JudgeKept J) {v : Ev} (h : J v) (c : Completion) :
    J (v.pauseAfter c) := by
  rcases v.pauseAfter_cases c with heq | ⟨hseq, heq⟩
  · rwa [heq]
  · rw [heq]
    cases hr : v.p.ringInFlight with
    | true => exact hJ.entered v _ h (.inl hseq) nofun nofun (by simp)
    | false => exact hJ.entered v _ h (.inl hseq) nofun nofun fun _ => hr

theorem JudgeKept.judgeStep {J : Ev → Prop} (hJ : JudgeKept J) {v : Ev} (h : J v) (c : Completion) :
    J (v.judgeStep c) := by
  rcases v.judgeStep_cases c with heq | ⟨r, heq⟩ | heq
  · rw [heq]; exact hJ.asked v h
  · rw [heq]; exact hJ.judgeState (hJ.pauseAfter (hJ.halting _ r (hJ.asked v h)) c)
  · rw [heq]; exact hJ.judgeState (hJ.pauseAfter (hJ.asked v h) c)

/-- A predicate that both parts of a completion keep is kept by taking every completion of an event. -/
theorem Ev.takeAll_keeps {J : Ev → Prop} (hJ : JudgeKept J) (hcleared : ∀ v, J v → J { v with completions := [] })
    (hrelease : ∀ v c, J v → J (v.releaseStep c)) {between : Ev → Ev} (hbetween : ∀ v, J v → J (between v))
    {v : Ev} (h : J v) : J (v.takeAll between) := by
  have hfold : ∀ (f : Ev → Completion → Ev), (∀ v c, J v → J (f v c)) → ∀ (cs : List Completion) v, J v → J (cs.foldl f v) := by
    intro f hf cs
    induction cs with
    | nil => exact fun _ h => h
    | cons c cs ih => exact fun v h => ih _ (hf v c h)
  unfold Ev.takeAll
  exact hfold _ (fun v c h => hJ.judgeStep h c) _ _ (hbetween _ (hfold _ hrelease _ _ (hcleared v h)))

/-! ### Completions -/

/-- SUSPECT marking writes the nail table alone (R67). -/
theorem Part.markReplaced_eq (p : Part) (x : Entry) (verdict : Verdict) :
    ∃ nails, p.markReplaced x verdict = { p with map := { p.map with nails := nails } } := by
  have hfold : ∀ (l : List Nat) (p : Part), ∃ nails, l.foldl (fun p n =>
      if (p.nail n).condition = .good then p.setNail n { p.nail n with condition := .suspect } else p) p =
        { p with map := { p.map with nails := nails } } := by
    intro l
    induction l with
    | nil => exact fun p => ⟨p.map.nails, rfl⟩
    | cons n l ih =>
      intro p
      rw [List.foldl_cons]
      split
      · obtain ⟨nails, h⟩ := ih (p.setNail n { p.nail n with condition := .suspect })
        exact ⟨nails, h⟩
      · exact ih p
  unfold Part.markReplaced
  split
  · exact hfold _ _
  · exact ⟨p.map.nails, rfl⟩

/-- The first part of a completion but for the SUSPECT marks. -/
def Ev.released (v : Ev) (c : Completion) : Ev :=
  let w := ((v.map fun p => p.setEntry c.engine none).map fun p =>
    { p with relay := p.relay.complete p.time c.engine }).look
  match c.origin with
  | some slot =>
    if c.record.notify then { w with steps := w.steps ++ [.notice (.step slot c.record.tag c.verdict)] } else w
  | none =>
    { (w.map fun p => { p with disp := { p.disp with direct := none } }) with
      askRemainder := true
      entries := w.entries ++ [.notice (.direct c.record.tag c.record.kind (some c.engine) c.verdict c.cause)] }

theorem Ev.releaseStep_of_none {v : Ev} {c : Completion} (h : v.p.disp.inFlight.get c.engine = none) :
    v.releaseStep c = v.released c := by
  unfold Ev.releaseStep
  rw [h]
  rfl

theorem Ev.releaseStep_of_some {v : Ev} {c : Completion} {x : Entry} (h : v.p.disp.inFlight.get c.engine = some x) :
    v.releaseStep c = (v.map fun p => p.markReplaced x c.verdict).released c := by
  unfold Ev.releaseStep
  rw [h]
  rfl

theorem Ev.released_p (v : Ev) (c : Completion) : (v.released c).p = { v.p with
    relay := (v.p.relay.complete v.p.time c.engine).look v.p.time.tick
    disp := { v.p.disp with
      inFlight := v.p.disp.inFlight.set c.engine none
      direct := if c.origin = none then none else v.p.disp.direct } } := by
  unfold Ev.released
  dsimp only
  split
  next slot horigin => split <;> simp [Ev.look_p, Part.setEntry, horigin]
  next horigin => simp [Ev.look_p, Part.setEntry, horigin]

@[simp] theorem Ev.released_completions (v : Ev) (c : Completion) : (v.released c).completions = v.completions := by
  unfold Ev.released
  dsimp only
  split
  · split <;> simp
  · simp

/-- All that the first part of a completion writes (R65 step 1): SUSPECT marks, the entry out of flight, the relays, and
for a direct step the flag. -/
theorem Ev.releaseStep_p (v : Ev) (c : Completion) : ∃ nails, (v.releaseStep c).p = { v.p with
    map := { v.p.map with nails := nails }
    relay := (v.p.relay.complete v.p.time c.engine).look v.p.time.tick
    disp := { v.p.disp with
      inFlight := v.p.disp.inFlight.set c.engine none
      direct := if c.origin = none then none else v.p.disp.direct } } := by
  cases hx : v.p.disp.inFlight.get c.engine with
  | none => exact ⟨v.p.map.nails, by rw [Ev.releaseStep_of_none hx, Ev.released_p]⟩
  | some x =>
    obtain ⟨nails, h⟩ := v.p.markReplaced_eq x c.verdict
    exact ⟨nails, by rw [Ev.releaseStep_of_some hx, Ev.released_p, Ev.map_p, h]⟩

@[simp] theorem Ev.releaseStep_completions (v : Ev) (c : Completion) : (v.releaseStep c).completions = v.completions := by
  cases hx : v.p.disp.inFlight.get c.engine with
  | none => simp [Ev.releaseStep_of_none hx]
  | some x => simp [Ev.releaseStep_of_some hx]

/-! ### Dispatch -/

/-- What beginning a step writes of the rest of the part: the entry, in flight. -/
theorem Part.beginStep_outer (p : Part) (e : EngineId) (x : Entry) :
    (p.beginStep e x).outer = { p.outer with disp := { p.disp with inFlight := p.disp.inFlight.set e (some x) } } := by
  unfold Part.beginStep
  dsimp only
  split <;> rfl

/-- What a dispatch writes of the rest of the part: nothing, or the step's entry, in flight (R64). -/
theorem Ev.dispatch_outer (v : Ev) (e : EngineId) (origin : Option Nat) (r : StepRecord) :
    v.dispatch e origin r = v ∨ ∃ nails, (v.dispatch e origin r).p.outer = { v.p.outer with
      disp := { v.p.disp with inFlight := v.p.disp.inFlight.set e (some (v.p.entryOf origin r nails)) } } := by
  unfold Ev.dispatch
  dsimp only
  split
  · refine .inr ⟨none, ?_⟩
    rw [Ev.outer_startScan, Ev.map_p, Part.beginStep_outer]
  · split
    · exact .inl rfl
    next nails _ =>
      refine .inr ⟨some nails, ?_⟩
      rw [Ev.outer_judgeReady, Ev.outer_onEngine, Ev.outer_sendPlan, Ev.map_p, Part.beginStep_outer]

/-- What ending a direct step without an engine writes of the rest of the part: the flag (R71). -/
theorem Ev.endDirect_outer (v : Ev) (r : StepRecord) (verdict : Verdict) (cause : Cause) :
    (v.endDirect r verdict cause).p.outer = { v.p.outer with disp := { v.p.disp with direct := none } } := by
  have h : (((v.map Part.reserve).appendFinal (unservedRecord none r verdict cause)).p).outer = v.p.outer := by
    simp
  have hp : ∀ p : Part, p.outer = v.p.outer → ({ p with disp := { p.disp with direct := none } } : Part).outer =
      { v.p.outer with disp := { v.p.disp with direct := none } } := by
    intro p hp
    have hd : p.disp = v.p.disp := Part.disp_of_outer hp
    calc ({ p with disp := { p.disp with direct := none } } : Part).outer
        = { p.outer with disp := { p.disp with direct := none } } := rfl
      _ = { v.p.outer with disp := { v.p.disp with direct := none } } := by rw [hp, hd]
  exact hp _ h

/-- A waiting direct step is left, ended, or dispatched when it fits with the steps in flight (R71). -/
theorem Ev.judgeDirect_cases (v : Ev) : v.judgeDirect = v ∨
    (∃ r verdict cause, v.judgeDirect = v.endDirect r verdict cause ∧ v.p.recordFree = true) ∨
    ∃ r e, v.judgeDirect = v.dispatch e none r ∧ v.p.netsFree (v.p.netSet r) = true ∧ v.p.orderMet r true = true ∧
      v.p.served r = true ∧ e ∈ v.p.idleEngines r := by
  unfold Ev.judgeDirect
  dsimp only
  split
  next d _ _ =>
    split
    next cause _ =>
      split
      next hfree => exact .inr (.inl ⟨d.record, .aborted, cause, rfl, hfree⟩)
      · exact .inl rfl
    · split
      · exact .inl rfl
      · split
        next cause _ _ =>
          split
          next hfree => exact .inr (.inl ⟨d.record, .fault, cause, rfl, hfree⟩)
          · exact .inl rfl
        · split
          next hfits =>
            simp only [Bool.and_eq_true] at hfits
            split
            next e rest hidle => exact .inr (.inr ⟨d.record, e, rfl, hfits.1.1, hfits.1.2, hfits.2, by simp [hidle]⟩)
            · exact .inl rfl
          · exact .inl rfl
  · exact .inl rfl

/-- The event in which the oldest PENDING step has failed at dispatch, before its halting error (R59). -/
def Ev.failed (v : Ev) (i : Nat) (r : StepRecord) (cause : Cause) : Ev :=
  let w := ((v.map Part.reserve).appendFinal (unservedRecord (some i) r .fault cause)).map fun p => p.slotDone i
  if r.notify then { w with steps := w.steps ++ [.notice (.step i r.tag .fault)] } else w

theorem Ev.failed_p (v : Ev) (i : Nat) (r : StepRecord) (cause : Cause) : (v.failed i r cause).p =
    (((v.map Part.reserve).appendFinal (unservedRecord (some i) r .fault cause)).p).slotDone i := by
  unfold Ev.failed
  dsimp only
  split <;> rfl

@[simp] theorem Ev.failed_outer (v : Ev) (i : Nat) (r : StepRecord) (cause : Cause) :
    (v.failed i r cause).p.outer = v.p.outer := by rw [Ev.failed_p]; simp

/-- Failure at dispatch is nothing, or the oldest PENDING step of a run failed and halted for (R59). -/
theorem Ev.judgeFailure_cases (v : Ev) : v.judgeFailure = v ∨
    ∃ i rest r cause net, v.p.disp.seq = .running ∧ v.p.ring.pendingSlots = i :: rest ∧ v.p.slotRecord i = some r ∧
      v.p.netsFree (v.p.netSet r) = true ∧ v.p.orderMet r true = true ∧ v.p.recordFree = true ∧
      v.judgeFailure = (v.failed i r cause).haltingError ⟨cause, some i, some r.tag, none, none, net, 0⟩ := by
  unfold Ev.judgeFailure
  dsimp only
  split
  next i rest hseq hpending =>
    split
    · exact .inl rfl
    next r hrecord =>
      split
      next hfits =>
        simp only [Bool.and_eq_true] at hfits
        split
        · exact .inl rfl
        next cause net _ =>
          exact .inr ⟨i, rest, r, cause, net, hseq, hpending, hrecord, hfits.1.1, hfits.1.2, hfits.2, rfl⟩
      · exact .inl rfl
  · exact .inl rfl

/-- The step chosen of the window is in it, has its record, and is eligible (R54). -/
theorem Part.firstEligible_spec {p : Part} {older slots : List Nat} {oldest : Bool} {i : Nat} {r : StepRecord}
    (h : p.firstEligible older oldest slots = some (i, r)) :
    i ∈ slots ∧ p.slotRecord i = some r ∧ ∃ nets isOldest, p.eligible nets isOldest r = true := by
  induction slots generalizing older oldest with
  | nil => cases h
  | cons j rest ih =>
    unfold Part.firstEligible at h
    split at h
    · obtain ⟨hmem, hspec⟩ := ih h
      exact ⟨List.mem_cons_of_mem _ hmem, hspec⟩
    next s hs =>
      split at h
      next hel =>
        cases h
        exact ⟨List.mem_cons_self, hs, _, _, hel⟩
      · obtain ⟨hmem, hspec⟩ := ih h
        exact ⟨List.mem_cons_of_mem _ hmem, hspec⟩

/-- What an eligible step meets (R54 to R57). -/
theorem Part.eligible_spec {p : Part} {nets : List Nat} {isOldest : Bool} {r : StepRecord}
    (h : p.eligible nets isOldest r = true) : p.disp.seq = .running ∧ p.netsFree (p.netSet r) = true ∧
      p.orderMet r isOldest = true ∧ p.served r = true := by
  simp only [Part.eligible, Bool.and_eq_true, decide_eq_true_eq] at h
  obtain ⟨⟨⟨⟨hseq, hnets⟩, _⟩, horder⟩, hserved⟩ := h
  exact ⟨hseq, hnets, horder, hserved⟩

theorem Part.mostReclaimable_mem {p : Part} {r : StepRecord} {es : List EngineId} {e : EngineId}
    (h : p.mostReclaimable r es = some e) : e ∈ es := by
  induction es generalizing e with
  | nil => cases h
  | cons f rest ih =>
    unfold Part.mostReclaimable at h
    split at h
    next g hg =>
      split at h
      · cases h; exact List.mem_cons_of_mem _ (ih hg)
      · cases h; exact List.mem_cons_self
    · cases h; exact List.mem_cons_self

/-- What the dispatch of eligible steps keeps: a predicate that each dispatch of an eligible step of the window on an IDLE
engine keeps. -/
theorem Ev.dispatchEligible_keeps {J : Ev → Prop}
    (hdispatch : ∀ v i r e nets isOldest, J v → i ∈ v.p.windowSlots → v.p.slotRecord i = some r →
      v.p.eligible nets isOldest r = true → e ∈ v.p.idleEngines r → J (v.dispatch e (some i) r))
    (n : Nat) {v : Ev} (h : J v) : J (v.dispatchEligible n) := by
  induction n generalizing v with
  | zero => exact h
  | succ n ih =>
    unfold Ev.dispatchEligible
    split
    · exact h
    next i r hfirst =>
      split
      · exact h
      next e he =>
        obtain ⟨hmem, hrecord, nets, isOldest, hel⟩ := Part.firstEligible_spec hfirst
        exact ih (hdispatch v i r e nets isOldest h hmem hrecord hel (Part.mostReclaimable_mem he))

/-- What the close of an event keeps: a predicate kept by each turn of what the event owes, and by the frames handed. -/
theorem Ev.settle_keeps {J : Ev → Prop}
    (htake : ∀ v c rest, J v → v.completions = c :: rest → J (({ v with completions := rest } : Ev).takeCompletion c))
    (hremoval : ∀ v, J v → v.completions = [] → J ({ v with askRemoval := false } : Ev).scannerRemoval)
    (hevaluate : ∀ v, J v → v.completions = [] → J ({ v with askEvaluate := false } : Ev).evaluate)
    (hremainder : ∀ v, J v → v.completions = [] → J v.handRemainder) (n : Nat) {v : Ev} (h : J v) : J (v.settle n) := by
  induction n generalizing v with
  | zero => exact h
  | succ n ih =>
    unfold Ev.settle
    split
    next c rest hc => exact ih (htake v c rest h hc)
    next hc =>
      split
      · exact ih (hremoval v h hc)
      · split
        · exact ih (hevaluate v h hc)
        · split
          · exact ih (hremainder v h hc)
          · exact h

/-- A waiting direct step that is to be ended keeps its flag (R71). -/
theorem Part.endWaitingDirect_eq (p : Part) (cause : Cause) :
    p.endWaitingDirect cause = p ∨ ∃ d, p.disp.direct.isSome = true ∧
      p.endWaitingDirect cause = { p with disp := { p.disp with direct := some d } } := by
  unfold Part.endWaitingDirect
  split
  next d hd _ =>
    split
    · exact .inr ⟨_, by rw [hd]; rfl, rfl⟩
    · exact .inl rfl
  · exact .inl rfl

end Sys2Proof.Machine

/-! PROOFS. Invariants of the Dispatcher's own state: what an act and the close of an event can do to the map's state, the
Dispatcher and the Error Log, said once for every invariant about them. -/

namespace Sys2Proof.Machine

/-! ### The Dispatcher's own state -/

/-- Two parts agree on the map's state, the Dispatcher and the Error Log. -/
structure Part.SameCommand (p q : Part) : Prop where
  mapState : q.map.state = p.map.state
  disp : q.disp = p.disp
  log : q.log = p.log

theorem Part.SameCommand.refl (p : Part) : p.SameCommand p := ⟨rfl, rfl, rfl⟩

theorem Part.SameCommand.of_outer {p q : Part} (h : q.outer = p.outer) : p.SameCommand q :=
  ⟨congrArg FixtureMap.state (Part.map_of_outer h), Part.disp_of_outer h, Part.log_of_outer h⟩

theorem Part.SameCommand.of_onlyReaches {v w : Ev} (h : v.OnlyReaches w) : v.p.SameCommand w.p := by
  obtain ⟨due, h⟩ := h
  have hc := Part.SameCommand.of_outer h
  exact ⟨hc.mapState, hc.disp, hc.log⟩

/-- What an invariant of the Dispatcher's own state is kept by: whatever leaves that state, a reset, the judging and
releasing of completions, the end of a waiting direct step, the answer to a re-plan request, and each owner. -/
structure CommandKept (I : Part → Prop) : Prop where
  same : ∀ {p q}, I p → p.SameCommand q → I q
  restart : ∀ (p : Part) (cause : ResetCause), I (p.restart cause)
  halting : ∀ (v : Ev) r, I v.p → I (v.haltingError r).p
  entered : ∀ (v : Ev) st, I v.p → v.p.disp.seq = .running ∨ v.p.disp.seq = .pausing ∨ v.p.disp.seq = .stopping →
    st ≠ .halted → (st = .stopped → v.p.disp.seq = .stopping) →
    (st = .stopped ∨ st = .paused ∨ st = .drained → v.p.ringInFlight = false) → I (v.enterSeq st).p
  released : ∀ (v : Ev) c, I v.p → I (v.releaseStep c).p
  ended : ∀ (p : Part) (cause : Cause), I p → I (p.endWaitingDirect cause)
  replanned : ∀ (p : Part) e x y, I p → p.disp.inFlight.get e = some x → y.origin = x.origin → y.nets = x.nets →
    y.record = x.record → I (p.setEntry e (some y))
  dispatched : ∀ (v : Ev) e origin r nails q, I v.p → (origin ≠ none → v.p.disp.seq = .running) →
    v.p.netsFree (v.p.netSet r) = true → (∃ oldest, v.p.orderMet r oldest = true) →
    q.outer = { v.p.outer with
      disp := { v.p.disp with inFlight := v.p.disp.inFlight.set e (some (v.p.entryOf origin r nails)) } } → I q
  directEnded : ∀ (p q : Part), I p → q.outer = { p.outer with disp := { p.disp with direct := none } } → I q

theorem CommandKept.judgeKept {I : Part → Prop} (h : CommandKept I) : JudgeKept fun v => I v.p :=
  ⟨fun _ hv => hv, h.halting, h.entered⟩

theorem CommandKept.judgeStopped {I : Part → Prop} (h : CommandKept I) {v : Ev} (hv : I v.p) : I v.judgeStopped.p :=
  h.judgeKept.judgeStopped hv

theorem CommandKept.takeAll {I : Part → Prop} (h : CommandKept I) {between : Ev → Ev}
    (hbetween : ∀ v : Ev, I v.p → I (between v).p) {v : Ev} (hv : I v.p) : I (v.takeAll between).p :=
  Ev.takeAll_keeps h.judgeKept (fun _ hv => hv) h.released hbetween hv

theorem CommandKept.of_onlyReaches {I : Part → Prop} (h : CommandKept I) {v w : Ev} (hv : I v.p) (hw : v.OnlyReaches w) :
    I w.p := h.same hv (.of_onlyReaches hw)

/-! ### The close of an event -/

theorem CommandKept.dispatch {I : Part → Prop} (h : CommandKept I) {v : Ev} (hv : I v.p) {e : EngineId}
    {origin : Option Nat} {r : StepRecord} (hseq : origin ≠ none → v.p.disp.seq = .running)
    (hfree : v.p.netsFree (v.p.netSet r) = true) {oldest : Bool} (horder : v.p.orderMet r oldest = true) :
    I (v.dispatch e origin r).p := by
  rcases v.dispatch_outer e origin r with heq | ⟨nails, heq⟩
  · rwa [heq]
  · exact h.dispatched v e origin r nails _ hv hseq hfree ⟨oldest, horder⟩ heq

theorem CommandKept.judgeDirect {I : Part → Prop} (h : CommandKept I) {v : Ev} (hv : I v.p) : I v.judgeDirect.p := by
  rcases v.judgeDirect_cases with heq | ⟨r, verdict, cause, heq, _⟩ | ⟨r, e, heq, hfree, horder, _, _⟩
  · rwa [heq]
  · rw [heq]; exact h.directEnded v.p _ hv (v.endDirect_outer r verdict cause)
  · rw [heq]; exact h.dispatch hv (fun hne => absurd rfl hne) hfree horder

theorem CommandKept.judgeFailure {I : Part → Prop} (h : CommandKept I) {v : Ev} (hv : I v.p) : I v.judgeFailure.p := by
  rcases v.judgeFailure_cases with heq | ⟨i, rest, r, cause, net, _, _, _, _, _, _, heq⟩
  · rwa [heq]
  · rw [heq]; exact h.halting _ _ (h.same hv (.of_outer (v.failed_outer i r cause)))

theorem CommandKept.evaluate {I : Part → Prop} (h : CommandKept I) {v : Ev} (hv : I v.p) : I v.evaluate.p := by
  refine Ev.dispatchEligible_keeps (J := fun v => I v.p) ?_ 5 (h.judgeFailure (h.judgeDirect hv))
  intro v i r e nets oldest hv _ _ hel _
  obtain ⟨hseq, hfree, horder, _⟩ := Part.eligible_spec hel
  exact h.dispatch hv (fun _ => hseq) hfree horder

theorem CommandKept.close {I : Part → Prop} (h : CommandKept I) {v : Ev} (hv : I v.p) : I v.close := by
  have hsettled : I (v.settle settleFuel).p := by
    refine Ev.settle_keeps (J := fun v => I v.p) ?_ ?_ ?_ ?_ _ hv
    · exact fun v c rest hv _ => h.judgeKept.judgeStep (h.released ({ v with completions := rest } : Ev) c hv) c
    · exact fun v hv _ => h.same hv (.of_outer (by simp))
    · exact fun v hv _ => h.evaluate (v := { v with askEvaluate := false }) hv
    · exact fun v hv _ => h.same hv (.of_outer (by simp))
  unfold Ev.close
  dsimp only
  refine h.same hsettled ⟨?_, ?_, ?_⟩ <;> simp [Part.hand_eq]

/-! ### The acts -/

theorem CommandKept.abortAll {I : Part → Prop} (h : CommandKept I) {v : Ev} (hv : I v.p) {abort : Ev → EngineId → Ev}
    (habort : ∀ v e, (abort v e).p.outer = v.p.outer) : I (v.abortAll abort).p :=
  h.same hv (.of_outer (v.outer_abortAll abort habort))

theorem CommandKept.undock {I : Part → Prop} (h : CommandKept I) {v : Ev} (hv : I v.p) : I v.undock.p := by
  unfold Ev.undock
  refine h.takeAll (fun v => h.halting v _) (h.ended _ _ ?_)
  refine h.abortAll ?_ (Ev.outer_abortWithoutDischarge .fixtureRemoved)
  exact h.same hv ⟨rfl, rfl, rfl⟩

theorem CommandKept.vacuumLost {I : Part → Prop} (h : CommandKept I) {v : Ev} (hv : I v.p) : I v.vacuumLost.p := by
  unfold Ev.vacuumLost
  dsimp only
  split
  · refine h.judgeStopped (h.takeAll (fun v => h.halting v _) (h.same ?_ (.of_outer (Ev.outer_releaseAll _))))
    refine h.ended _ _ (h.abortAll ?_ (Ev.outer_abortWithDischarge .vacuumLost))
    exact h.same hv ⟨rfl, rfl, rfl⟩
  · exact h.same hv ⟨rfl, rfl, rfl⟩

theorem CommandKept.debounced {I : Part → Prop} (h : CommandKept I) (line : FixtureLine) {v : Ev} (hv : I v.p) :
    I (v.debounced line).p := by
  unfold Ev.debounced
  dsimp only
  split
  · exact hv
  next due _ =>
    have hbegun : I (v.map fun p => (p.reach due).onLock fun k =>
        k.setLine line ⟨(v.p.lock.line line).raw, (v.p.lock.line line).raw, none⟩).p := h.same hv ⟨rfl, rfl, rfl⟩
    unfold Ev.lineEvent
    split
    · exact h.same hbegun ⟨rfl, rfl, rfl⟩
    · exact h.undock hbegun
    · exact h.same hbegun ⟨rfl, rfl, rfl⟩
    · exact h.vacuumLost hbegun

theorem Part.reachTransfer_sameCommand (p : Part) (transfer : IdentityTransfer) :
    p.SameCommand (p.reachTransfer transfer) := by
  obtain ⟨due, h⟩ := p.reachTransfer_eq transfer
  rw [h]
  exact ⟨rfl, rfl, rfl⟩

theorem Part.replanned_keeps {p : Part} {e : EngineId} {x y : Entry} {n : Nails} (h : p.replanned e x n = some y) :
    y.origin = x.origin ∧ y.nets = x.nets ∧ y.record = x.record := by
  unfold Part.replanned at h
  dsimp only at h
  split at h
  · cases h
  · cases h; exact ⟨rfl, rfl, rfl⟩

theorem CommandKept.replanAsked {I : Part → Prop} (h : CommandKept I) (e : EngineId) {v : Ev} (hv : I v.p) :
    I (v.replanAsked e).p := by
  have hdeclined : I (v.onEngine e fun g => { g with replan := .declined }).p := h.same hv (.of_outer (by simp))
  unfold Ev.replanAsked
  dsimp only
  split
  · split
    · exact hdeclined
    next x hx =>
      split
      · exact hdeclined
      next n _ =>
        split
        · exact hdeclined
        · split
          · exact hdeclined
          next y hy =>
            obtain ⟨horigin, hnets, hrecord⟩ := Part.replanned_keeps hy
            refine h.same (h.replanned v.p e x y hv hx horigin hnets hrecord) (.of_outer ?_)
            simp
  · exact hv

theorem CommandKept.takeFrames {I : Part → Prop} (h : CommandKept I)
    (howner : ∀ k b (v : Ev), I v.p → I (owner k b v).p) (n : Nat) {v : Ev} (hv : I v.p) : I (v.takeFrames n).p :=
  Ev.takeFrames_keeps (J := fun v => I v.p) (fun _ _ _ hv _ => h.same hv ⟨rfl, rfl, rfl⟩)
    (fun f _ => Ev.judgeRequest_keeps (J := fun v => I v.p) (fun v st d hv => by simpa using hv) howner f) n hv

theorem CommandKept.offer {I : Part → Prop} (h : CommandKept I)
    (howner : ∀ k b (v : Ev), I v.p → I (owner k b v).p) (f : InFrame) {v : Ev} (hv : I v.p) : I (v.offer f).p := by
  unfold Ev.offer
  split
  · exact h.takeFrames howner _ (h.same hv ⟨rfl, rfl, rfl⟩)
  · exact hv

theorem CommandKept.sent {I : Part → Prop} (h : CommandKept I)
    (howner : ∀ k b (v : Ev), I v.p → I (owner k b v).p) {v : Ev} (hv : I v.p) : I v.sent.p := by
  have hdropped : I (v.map Part.dropSent).p := h.same hv ⟨rfl, rfl, rfl⟩
  unfold Ev.sent
  split
  · exact hv
  · split
    · split
      · split
        · exact h.restart _ _
        · exact h.takeFrames howner _ (h.same hdropped ⟨rfl, rfl, rfl⟩)
      · exact hdropped
    · exact hdropped

/-- Each act of an event keeps an invariant of the Dispatcher's own state that each owner keeps. -/
theorem CommandKept.act {I : Part → Prop} (h : CommandKept I) (howner : ∀ k b (v : Ev), I v.p → I (owner k b v).p)
    {f : Ev → Ev} (hf : EventAct f) {v : Ev} (hv : I v.p) : I (f v).p := by
  cases hf with
  | powerOn => exact h.restart _ _
  | takeByte b =>
    unfold Ev.takeByte
    dsimp only
    split
    · exact h.offer howner _ (h.same hv ⟨rfl, rfl, rfl⟩)
    · exact h.same hv ⟨rfl, rfl, rfl⟩
  | interByteEnds =>
    unfold Ev.interByteEnds
    split
    · exact hv
    · exact h.same hv ⟨rfl, rfl, rfl⟩
  | sent => exact h.sent howner hv
  | offer f => exact h.offer howner f hv
  | rawChange line asserted => exact h.same hv ⟨rfl, rfl, rfl⟩
  | debounced line => exact h.debounced line hv
  | identityTransferred transfer =>
    unfold Ev.identityTransferred
    dsimp only
    split
    · exact h.same (h.same hv (v.p.reachTransfer_sameCommand transfer)) ⟨rfl, rfl, rfl⟩
    · exact hv
  | identityLimited =>
    unfold Ev.identityLimited
    split
    · exact hv
    · exact h.same hv ⟨rfl, rfl, rfl⟩
  | edge => exact h.same hv ⟨rfl, rfl, rfl⟩
  | loss => unfold Ev.loss; split <;> exact h.same hv ⟨rfl, rfl, rfl⟩
  | verified => unfold Ev.verified; split <;> exact h.same hv ⟨rfl, rfl, rfl⟩
  | queryEnds answered =>
    obtain ⟨due, mode, heq⟩ := Ev.queryEnds_onlyReaches answered v
    refine h.same hv ⟨?_, ?_, ?_⟩
    · exact congrArg (fun o => o.map.state) heq
    · exact congrArg Outer.disp heq
    · exact congrArg Outer.log heq
  | acknowledged => exact h.of_onlyReaches hv v.acknowledged_onlyReaches
  | ackTimesOut =>
    obtain ⟨w, hw, heq | heq⟩ := v.ackTimesOut_onlyReaches
    · exact heq ▸ h.of_onlyReaches hv hw
    · rw [heq]; exact h.judgeStopped (h.of_onlyReaches hv hw)
  | motionEnds card =>
    obtain ⟨w, hw, heq | heq⟩ := v.motionEnds_onlyReaches card
    · exact heq ▸ h.of_onlyReaches hv hw
    · rw [heq]; exact h.judgeStopped (h.of_onlyReaches hv hw)
  | allOpenEnds =>
    obtain ⟨w, hw, heq | heq⟩ := v.allOpenEnds_onlyReaches
    · exact heq ▸ h.of_onlyReaches hv hw
    · rw [heq]; exact h.judgeStopped (h.of_onlyReaches hv hw)
  | holdExpires e => exact h.of_onlyReaches hv (v.holdExpires_onlyReaches e)
  | sampleArrives e n code => exact h.of_onlyReaches hv (v.sampleArrives_onlyReaches e n code)
  | intervalEnds e => exact h.of_onlyReaches hv (v.intervalEnds_onlyReaches e)
  | sampleTimesOut e => exact h.of_onlyReaches hv (v.sampleTimesOut_onlyReaches e)
  | complianceReported e => exact h.of_onlyReaches hv (v.complianceReported_onlyReaches e)
  | crossed e => exact h.of_onlyReaches hv (v.crossed_onlyReaches e)
  | settled e => exact h.of_onlyReaches hv (v.settled_onlyReaches e)
  | discharged e crossed => exact h.of_onlyReaches hv (v.discharged_onlyReaches e crossed)
  | rampLimited e => exact h.of_onlyReaches hv (v.rampLimited_onlyReaches e)
  | postDischarged e => exact h.of_onlyReaches hv (v.postDischarged_onlyReaches e)
  | abortDischarged e => exact h.of_onlyReaches hv (v.abortDischarged_onlyReaches e)
  | replanAsked e => exact h.replanAsked e hv
  | replanTaken e => exact h.of_onlyReaches hv (v.replanTaken_onlyReaches e)

/-- Every step keeps such an invariant. -/
theorem CommandKept.step {I : Part → Prop} (h : CommandKept I) (howner : ∀ k b (v : Ev), I v.p → I (owner k b v).p)
    {s t : State} (hs : I s.part) (ht : step s = .next t) : I t.part :=
  step_keeps (fun _ _ hp => h.same hp ⟨rfl, rfl, rfl⟩) (fun _ _ _ hp => h.same hp ⟨rfl, rfl, rfl⟩)
    (fun _ _ hp => h.same hp ⟨rfl, rfl, rfl⟩) (fun _ hf _ hp => h.close (h.act howner hf hp)) hs ht

/-! ### The owners -/

/-- The owners that leave the Dispatcher's own state as it was. -/
def leavesCommand : RequestKind → Bool
  | .mapFreeze | .mapClear | .stepCommit | .run | .pause | .resume | .stop | .directStep | .errlogRead | .pace => false
  | _ => true

theorem Part.unmarked_sameCommand (p : Part) : p.SameCommand p.unmarked := by
  obtain ⟨nails, h⟩ := Part.foldl_setNail_eq (fun x => { x.2 with condition := .good }) p.map.suspects p
  have hdisp := congrArg Part.disp h
  have hlog := congrArg Part.log h
  exact ⟨congrArg (·.map.state) h, hdisp, hlog⟩

theorem Part.SameCommand.reply {p : Part} {v : Ev} (h : p.SameCommand v.p) (body : Reply) :
    p.SameCommand (v.reply body).p := by rwa [Ev.reply_p]

theorem Ev.refuse_sameCommand (v : Ev) (st : Status) (detail : Option Nat) : v.p.SameCommand (v.refuse st detail).p := by
  rw [Ev.refuse_p]
  exact .refl v.p

theorem Ev.reply_sameCommand (v : Ev) (body : Reply) : v.p.SameCommand (v.reply body).p := (Part.SameCommand.refl v.p).reply body

theorem Ev.map_reply_sameCommand (v : Ev) (f : Part → Part) (body : Reply) (h : v.p.SameCommand (f v.p)) :
    v.p.SameCommand ((v.map f).reply body).p := h.reply (v := v.map f) body

theorem Part.writeRun_sameCommand (p : Part) (run : List (Nat × NailEntry)) : p.SameCommand (p.writeRun run) := by
  obtain ⟨nails, h⟩ := p.writeRun_steady run
  rw [h]
  exact ⟨rfl, rfl, rfl⟩

theorem ownMapNails_sameCommand (b : List Byte) (v : Ev) : v.p.SameCommand (ownMapNails b v).p := by
  unfold ownMapNails
  dsimp only
  split_ifs
  all_goals first | exact v.refuse_sameCommand _ _ | skip
  split
  · exact v.refuse_sameCommand _ _
  · split
    · exact v.refuse_sameCommand _ _
    · exact v.refuse_sameCommand _ _
    · exact (v.p.writeRun_sameCommand _).reply (v := v.map _) _

/-- Most owners leave it: they write tables, the relays' view, or nothing. -/
theorem owner_sameCommand {k : RequestKind} (hk : leavesCommand k = true) (b : List Byte) (v : Ev) :
    v.p.SameCommand (owner k b v).p := by
  have hrefuse := v.refuse_sameCommand
  cases k with
  | mapNails => exact ownMapNails_sameCommand b v
  | mapUnmark => exact v.p.unmarked_sameCommand.reply (v := v.map _) _
  | fixtureQuery => exact v.reply_sameCommand _
  | status => exact v.reply_sameCommand _
  | timeRead => exact v.reply_sameCommand _
  | describe => exact v.reply_sameCommand _
  | mapCursor =>
    change v.p.SameCommand (ownMapCursor b v).p
    unfold ownMapCursor
    dsimp only
    split
    · exact hrefuse _ _
    · exact v.map_reply_sameCommand _ _ ⟨rfl, rfl, rfl⟩
  | mapRead =>
    change v.p.SameCommand (ownMapRead b v).p
    unfold ownMapRead
    dsimp only
    split
    · exact hrefuse _ _
    · exact v.map_reply_sameCommand _ _ ⟨rfl, rfl, rfl⟩
  | mapNetattr =>
    change v.p.SameCommand (ownMapNetattr b v).p
    unfold ownMapNetattr
    dsimp only
    split_ifs
    · exact hrefuse _ _
    · exact hrefuse _ _
    · exact v.map_reply_sameCommand _ _ ⟨rfl, rfl, rfl⟩
  | mapIdentity =>
    change v.p.SameCommand (ownMapIdentity b v).p
    unfold ownMapIdentity
    split
    · exact hrefuse _ _
    · exact v.map_reply_sameCommand _ _ ⟨rfl, rfl, rfl⟩
  | stepWrite =>
    change v.p.SameCommand (ownStepWrite b v).p
    unfold ownStepWrite
    dsimp only
    split_ifs
    · exact hrefuse _ _
    · exact hrefuse _ _
    · exact hrefuse _ _
    · split
      · exact hrefuse _ _
      · exact v.map_reply_sameCommand _ _ ⟨rfl, rfl, rfl⟩
  | stepRead =>
    change v.p.SameCommand (ownStepRead b v).p
    unfold ownStepRead
    dsimp only
    split
    · exact hrefuse _ _
    · exact v.reply_sameCommand _
  | ringReset =>
    change v.p.SameCommand (ownRingReset b v).p
    unfold ownRingReset
    split
    · exact hrefuse _ _
    · exact v.map_reply_sameCommand _ _ ⟨rfl, rfl, rfl⟩
  | templateWrite =>
    change v.p.SameCommand (ownTemplateWrite b v).p
    unfold ownTemplateWrite
    dsimp only
    split_ifs
    · exact hrefuse _ _
    · exact hrefuse _ _
    · exact hrefuse _ _
    · exact hrefuse _ _
    · exact hrefuse _ _
    · exact v.map_reply_sameCommand _ _ ⟨rfl, rfl, rfl⟩
  | templateRead =>
    change v.p.SameCommand (ownTemplateRead b v).p
    unfold ownTemplateRead
    dsimp only
    split
    · exact hrefuse _ _
    · exact v.reply_sameCommand _
  | relayQuery =>
    change v.p.SameCommand (ownRelayQuery b v).p
    unfold ownRelayQuery
    dsimp only
    split
    · exact hrefuse _ _
    · exact v.reply_sameCommand _
  | engineClear =>
    change v.p.SameCommand (ownEngineClear b v).p
    unfold ownEngineClear
    dsimp only
    split
    · exact hrefuse _ _
    · split
      · exact hrefuse _ _
      · exact v.map_reply_sameCommand (fun p => p.setEngine _ _) _ ⟨rfl, rfl, rfl⟩
  | resultsRead =>
    change v.p.SameCommand (ownResultsRead b v).p
    unfold ownResultsRead
    dsimp only
    split
    · exact hrefuse _ _
    · split <;> exact v.map_reply_sameCommand _ _ ⟨rfl, rfl, rfl⟩
  | partReset =>
    have hreplied := v.reply_sameCommand .done
    exact ⟨hreplied.mapState, hreplied.disp, hreplied.log⟩
  | mapFreeze => cases hk
  | mapClear => cases hk
  | stepCommit => cases hk
  | run => cases hk
  | pause => cases hk
  | resume => cases hk
  | stop => cases hk
  | directStep => cases hk
  | errlogRead => cases hk
  | pace => cases hk

/-- PACE writes the Dispatcher's window alone (R191). -/
theorem ownPace_sameCommand (b : List Byte) (v : Ev) : v.p.SameCommand (ownPace b v).p ∨
    ∃ window holdLimit block, (v.p.setPace window holdLimit block).SameCommand (ownPace b v).p := by
  unfold ownPace
  dsimp only
  split
  · exact .inl (v.refuse_sameCommand _ _)
  · refine .inr ⟨byteAt b 0, u32At b 1, byteAt b 5, ?_⟩
    split
    · refine .of_outer ((Ev.outer_formBlocks _ _).trans ?_)
      rw [Ev.reply_p, Ev.map_p]
    · exact Ev.reply_sameCommand (v.map fun p => p.setPace (byteAt b 0) (u32At b 1) (byteAt b 5)) _

/-- What the owners that can write the Dispatcher's own state are to keep. -/
theorem CommandKept.owner {I : Part → Prop} (h : CommandKept I)
    (hwrites : ∀ k b (v : Ev), leavesCommand k = false → I v.p → I (owner k b v).p) (k : RequestKind)
    (b : List Byte) (v : Ev) (hv : I v.p) : I (Machine.owner k b v).p := by
  cases hk : leavesCommand k with
  | true => exact h.same hv (owner_sameCommand hk b v)
  | false => exact hwrites k b v hk hv

end Sys2Proof.Machine

/-! PROOFS. No two steps in flight share a net (R55), and a SOLO or SCAN step runs alone (R56). -/

namespace Sys2Proof.Machine

theorem sharesNet_comm (a b : List Nat) : sharesNet a b = sharesNet b a := by
  rw [Bool.eq_iff_iff]
  simp only [sharesNet, List.any_eq_true, decide_eq_true_eq]
  exact ⟨fun ⟨n, hb, ha⟩ => ⟨n, ha, hb⟩, fun ⟨n, hb, ha⟩ => ⟨n, ha, hb⟩⟩

theorem Part.ClaimsOk.congr {p q : Part} (h : p.ClaimsOk) (heq : q.disp.inFlight = p.disp.inFlight) : q.ClaimsOk := by
  intro e f hne x y hx hy
  rw [heq] at hx hy
  exact h e f hne x y hx hy

/-- One entry replaced keeps the claims apart when the new one is apart from every other (R55, R56). -/
theorem Part.ClaimsOk.set {p q : Part} (h : p.ClaimsOk) {e : EngineId} {z : Option Entry}
    (heq : q.disp.inFlight = p.disp.inFlight.set e z)
    (hz : ∀ x, z = some x → ∀ f y, f ≠ e → p.disp.inFlight.get f = some y →
      sharesNet x.nets y.nets = false ∧ x.record.alone = false ∧ y.record.alone = false) : q.ClaimsOk := by
  intro f g hne x y hx hy
  rw [heq] at hx hy
  by_cases hf : f = e
  · subst hf
    rw [PerEngine.get_set_same] at hx
    rw [PerEngine.get_set_ne _ _ _ _ (Ne.symm hne)] at hy
    obtain ⟨hshare, halone, _⟩ := hz x hx g y (Ne.symm hne) hy
    exact ⟨hshare, halone⟩
  · rw [PerEngine.get_set_ne _ _ _ _ hf] at hx
    by_cases hg : g = e
    · subst hg
      rw [PerEngine.get_set_same] at hy
      obtain ⟨hshare, _, halone⟩ := hz y hy f x hf hx
      exact ⟨sharesNet_comm x.nets y.nets ▸ hshare, halone⟩
    · rw [PerEngine.get_set_ne _ _ _ _ hg] at hy
      exact h f g hne x y hx hy

/-- A step whose nets are free and whose order is met stands apart from every step in flight (R55, R56). -/
theorem Part.apart_of_free {p : Part} {r : StepRecord} {oldest : Bool} (hfree : p.netsFree (p.netSet r) = true)
    (horder : p.orderMet r oldest = true) {f : EngineId} {y : Entry} (hy : p.disp.inFlight.get f = some y) :
    sharesNet (p.netSet r) y.nets = false ∧ r.alone = false ∧ y.record.alone = false := by
  have hmem : y ∈ p.inFlight := Part.mem_inFlight.mpr ⟨f, hy⟩
  have hshare : sharesNet y.nets (p.netSet r) = false := by simpa using List.all_eq_true.mp hfree y hmem
  simp only [Part.orderMet, Bool.and_eq_true, List.all_eq_true, Bool.or_eq_true] at horder
  obtain ⟨⟨_, halone⟩, hothers⟩ := horder
  refine ⟨sharesNet_comm y.nets _ ▸ hshare, ?_, by simpa using hothers y hmem⟩
  rcases halone with h | h
  · simpa using h
  · rw [List.isEmpty_iff.mp h] at hmem; cases hmem

theorem Part.restart_inFlight (p : Part) (cause : ResetCause) (e : EngineId) :
    (p.restart cause).disp.inFlight.get e = none := by cases e <;> rfl

theorem Ev.enterSeq_inFlight (v : Ev) (st : SeqState) : (v.enterSeq st).p.disp.inFlight = v.p.disp.inFlight := by
  rw [Ev.enterSeq_p]

theorem Ev.haltingError_inFlight (v : Ev) (r : ErrorRecord) :
    (v.haltingError r).p.disp.inFlight = v.p.disp.inFlight := by
  rcases v.haltingError_p r with ⟨_, h⟩ | ⟨_, h⟩ | h <;> rw [h]

theorem Part.endWaitingDirect_inFlight (p : Part) (cause : Cause) :
    (p.endWaitingDirect cause).disp.inFlight = p.disp.inFlight := by
  rcases p.endWaitingDirect_eq cause with h | ⟨d, _, h⟩ <;> rw [h]

theorem claimsKept : CommandKept Part.ClaimsOk where
  same h hpq := h.congr (congrArg Dispatcher.inFlight hpq.disp)
  restart p cause := fun e _ _ x _ hx => by rw [p.restart_inFlight cause e] at hx; cases hx
  halting v r h := h.congr (v.haltingError_inFlight r)
  entered v st h _ _ _ _ := h.congr (v.enterSeq_inFlight st)
  released v c h := by
    obtain ⟨nails, heq⟩ := v.releaseStep_p c
    exact h.set (e := c.engine) (z := none) (by rw [heq]) nofun
  ended p cause h := h.congr (p.endWaitingDirect_inFlight cause)
  replanned p e x y h hx _ hnets hrecord := by
    refine h.set (e := e) (z := some y) rfl fun x' hx' f z hf hz => ?_
    cases hx'
    obtain ⟨hshare, hone⟩ := h e f (Ne.symm hf) x z hx hz
    exact ⟨hnets ▸ hshare, hrecord ▸ hone, (h f e hf z x hz hx).2⟩
  dispatched v e origin r nails q h _ hfree horder heq := by
    obtain ⟨oldest, horder⟩ := horder
    refine h.set (e := e) (congrArg (fun o => o.disp.inFlight) heq) fun x hx f y _ hy => ?_
    cases hx
    exact Part.apart_of_free hfree horder hy
  directEnded p q h heq := h.congr (congrArg (fun o => o.disp.inFlight) heq)

/-! ### The owners -/

theorem Ev.judgeState_inFlight (v : Ev) : v.judgeState.p.disp.inFlight = v.p.disp.inFlight := by
  rcases v.judgeState_cases with h | ⟨_, st, h, _⟩
  · rw [h]
  · rw [h, Ev.enterSeq_inFlight]

theorem Ev.resumeFrom_inFlight (v : Ev) : v.resumeFrom.p.disp.inFlight = v.p.disp.inFlight := by
  unfold Ev.resumeFrom
  split
  · simp
  · split
    · simp
    · simp [Ev.judgeState_inFlight, Ev.enterSeq_inFlight]

theorem Ev.stopFrom_claims {v : Ev} (h : v.p.ClaimsOk) : v.stopFrom.p.ClaimsOk := by
  unfold Ev.stopFrom
  split
  · exact claimsKept.same h (v.refuse_sameCommand _ _)
  · refine claimsKept.judgeStopped (claimsKept.takeAll (fun _ h => h) (claimsKept.same ?_ (.of_outer (Ev.outer_releaseAll _))))
    refine claimsKept.abortAll ?_ (Ev.outer_abortWithDischarge .stopped)
    exact h.congr (by simp [Ev.enterSeq_inFlight])

theorem owner_claims (k : RequestKind) (b : List Byte) (v : Ev) (hk : leavesCommand k = false) (h : v.p.ClaimsOk) :
    (owner k b v).p.ClaimsOk := by
  cases k with
  | mapFreeze => exact h.congr (by change (ownMapFreeze b v).p.disp.inFlight = _; unfold ownMapFreeze; split <;> simp)
  | mapClear => exact h.congr (by change (ownMapClear b v).p.disp.inFlight = _; unfold ownMapClear; split_ifs <;> simp)
  | run =>
    refine h.congr ?_
    change (ownRun b v).p.disp.inFlight = _
    unfold ownRun
    split_ifs
    · simp
    · simp
    · simp
    · split
      · simp
      · dsimp only; split <;> simp [Ev.enterSeq_inFlight]
  | stop =>
    change (ownStop b v).p.ClaimsOk
    unfold ownStop
    split
    all_goals first | exact Ev.stopFrom_claims h | exact claimsKept.same h (v.refuse_sameCommand _ _)
  | pause => exact h.congr (by change (ownPause b v).p.disp.inFlight = _; unfold ownPause; split <;> simp [Ev.enterSeq_inFlight])
  | resume => exact h.congr (by change (ownResume b v).p.disp.inFlight = _; unfold ownResume; split <;> simp [Ev.resumeFrom_inFlight])
  | stepCommit =>
    refine h.congr ?_
    change (ownStepCommit b v).p.disp.inFlight = _
    unfold ownStepCommit
    dsimp only
    split_ifs
    · simp
    · simp
    · simp
    · split
      · simp
      · unfold Ev.commitReported; dsimp only; split <;> simp [Ev.enterSeq_inFlight]
  | directStep =>
    refine h.congr ?_
    change (ownDirectStep b v).p.disp.inFlight = _
    unfold ownDirectStep
    split_ifs
    · simp
    · simp
    · simp
    · split
      · simp
      · split <;> simp
  | errlogRead =>
    refine h.congr ?_
    change (ownErrlogRead b v).p.disp.inFlight = _
    unfold ownErrlogRead
    split
    · simp
    · dsimp only; split <;> simp [Ev.enterSeq_inFlight]
  | pace =>
    rcases ownPace_sameCommand b v with hsame | ⟨window, holdLimit, block, hsame⟩
    · exact claimsKept.same h hsame
    · exact claimsKept.same (h.congr (q := v.p.setPace window holdLimit block) rfl) hsame
  | _ => cases hk

/-- Settles O57: a step is dispatched only apart from the steps in flight, and nothing else brings an entry into flight. -/
theorem everyStepKeepsTheClaimsApart : Obligations.EveryStepKeepsTheClaimsApart :=
  fun _ _ => claimsKept.step (claimsKept.owner owner_claims)

end Sys2Proof.Machine

/-! PROOFS. The sequencer agrees with the Error Log, the map and the steps in flight (R44, R46, R69, R178). -/

namespace Sys2Proof.Machine

/-- The sequencer in agreement with the Error Log, the map and the steps in flight. -/
structure Part.CommandOk (p : Part) : Prop where
  halt : p.HaltOk
  quiet : p.QuietOk

theorem Part.CommandOk.congr {p q : Part} (h : p.CommandOk) (hpq : p.SameCommand q) : q.CommandOk := by
  obtain ⟨⟨hhalted, hempty, hcount⟩, heditable, hrest⟩ := h
  obtain ⟨hmap, hdisp, hlog⟩ := hpq
  have hring : q.ringInFlight = p.ringInFlight := Part.ringInFlight_congr (congrArg Dispatcher.inFlight hdisp)
  refine ⟨⟨?_, ?_, ?_⟩, ?_, ?_⟩
  · rwa [hdisp, hlog]
  · rwa [hlog]
  · rwa [hlog]
  · rwa [hmap, hdisp]
  · rwa [hring, hdisp]

theorem Part.QuietOk.frozen {p : Part} (h : p.QuietOk) (hseq : p.disp.seq ≠ .stopped) : p.map.state ≠ .editable :=
  fun he => hseq (h.editable he).1

theorem Part.HaltOk.logEmpty {p : Part} (h : p.HaltOk) (hseq : p.disp.seq ≠ .halted) : p.log.record = none := by
  simpa using mt h.halted.mpr hseq

/-- A state entered outside HALTED, from a state other than HALTED, with the map frozen. -/
theorem Part.CommandOk.entered {v : Ev} (h : v.p.CommandOk) {st : SeqState} (hseq : v.p.disp.seq ≠ .halted)
    (hmap : v.p.map.state ≠ .editable) (hst : st ≠ .halted)
    (hrest : st = .stopped ∨ st = .paused ∨ st = .drained → v.p.ringInFlight = false) : (v.enterSeq st).p.CommandOk := by
  rw [Ev.enterSeq_p]
  refine ⟨⟨?_, h.halt.emptyLog, h.halt.count⟩, fun he => absurd he hmap, hrest⟩
  simp [hst, h.halt.logEmpty hseq]

theorem ErrorLog.take_record (l : ErrorLog) (r : ErrorRecord) : (l.take r).record.isSome = true := by
  unfold ErrorLog.take
  split <;> simp_all

theorem ErrorLog.take_further (l : ErrorLog) (r : ErrorRecord) : (l.take r).further ≤ 255 := by
  unfold ErrorLog.take
  split <;> simp

theorem Part.CommandOk.halting {v : Ev} (h : v.p.CommandOk) (r : ErrorRecord) : (v.haltingError r).p.CommandOk := by
  have htaken : ∀ q : Part, q.log = v.p.log.take { r with time := v.p.time48 } → q.disp.seq = .halted →
      q.HaltOk := by
    intro q hlog hseq
    refine ⟨?_, ?_, ?_⟩
    · simp [hseq, hlog, ErrorLog.take_record]
    · intro hnone
      rw [hlog] at hnone
      simpa [hnone] using v.p.log.take_record { r with time := v.p.time48 }
    · rw [hlog]; exact ErrorLog.take_further _ _
  rcases v.haltingError_p r with ⟨hseq, heq⟩ | ⟨hseq, heq⟩ | heq
  · rw [heq]
    refine ⟨htaken _ rfl rfl, fun he => ?_, by simp⟩
    have hstopped := (h.quiet.editable he).1
    rcases hseq with hs | hs <;> rw [hs] at hstopped <;> cases hstopped
  · rw [heq]
    exact ⟨htaken _ rfl hseq, h.quiet.editable, h.quiet.atRest⟩
  · rwa [heq]

theorem commandOkKept : CommandKept Part.CommandOk where
  same h hpq := h.congr hpq
  restart p cause := ⟨⟨by simp [Part.restart, Part.fresh], fun _ => rfl, Nat.zero_le _⟩, fun _ => ⟨rfl, rfl⟩, fun _ => rfl⟩
  halting v r h := h.halting r
  entered v st h hseq hst _ hrest := by
    refine h.entered ?_ (h.quiet.frozen ?_) hst hrest
    · rcases hseq with hs | hs | hs <;> rw [hs] <;> decide
    · rcases hseq with hs | hs | hs <;> rw [hs] <;> decide
  released v c h := by
    obtain ⟨nails, heq⟩ := v.releaseStep_p c
    rw [heq]
    refine ⟨⟨h.halt.halted, h.halt.emptyLog, h.halt.count⟩, fun he => ⟨(h.quiet.editable he).1, ?_⟩, fun hrest => ?_⟩
    · simp [(h.quiet.editable he).2]
    · exact Part.ringInFlight_set (x := none) rfl nofun (h.quiet.atRest hrest)
  ended p cause h := by
    rcases p.endWaitingDirect_eq cause with heq | ⟨d, hd, heq⟩
    · rwa [heq]
    · rw [heq]
      refine ⟨⟨h.halt.halted, h.halt.emptyLog, h.halt.count⟩, fun he => ?_, h.quiet.atRest⟩
      rw [(h.quiet.editable he).2] at hd
      cases hd
  replanned p e x y h hx horigin _ _ := by
    refine ⟨⟨h.halt.halted, h.halt.emptyLog, h.halt.count⟩, h.quiet.editable, fun hrest => ?_⟩
    have hnone := h.quiet.atRest hrest
    refine Part.ringInFlight_set (x := some y) rfl (fun z hz => ?_) hnone
    cases hz
    rw [horigin]
    exact Part.ringInFlight_eq_false.mp hnone e x hx
  dispatched v e origin r nails q h hseq _ _ heq := by
    have hdisp : q.disp = { v.p.disp with inFlight := v.p.disp.inFlight.set e (some (v.p.entryOf origin r nails)) } :=
      congrArg Outer.disp heq
    have hmap : q.map = v.p.map := congrArg Outer.map heq
    have hlog : q.log = v.p.log := congrArg Outer.log heq
    refine ⟨⟨?_, ?_, ?_⟩, ?_, fun hrest => ?_⟩
    · rw [hdisp, hlog]; exact h.halt.halted
    · rw [hlog]; exact h.halt.emptyLog
    · rw [hlog]; exact h.halt.count
    · rw [hdisp, hmap]; exact h.quiet.editable
    · rw [hdisp] at hrest
      refine Part.ringInFlight_set (x := some (v.p.entryOf origin r nails)) (congrArg Dispatcher.inFlight hdisp)
        (fun y hy => ?_) (h.quiet.atRest hrest)
      cases hy
      refine Classical.byContradiction fun hne => ?_
      dsimp only at hrest
      rw [hseq hne] at hrest
      simp at hrest
  directEnded p q h heq := by
    have hdisp : q.disp = { p.disp with direct := none } := congrArg Outer.disp heq
    have hmap : q.map = p.map := congrArg Outer.map heq
    have hlog : q.log = p.log := congrArg Outer.log heq
    refine ⟨⟨?_, ?_, ?_⟩, ?_, ?_⟩
    · rw [hdisp, hlog]; exact h.halt.halted
    · rw [hlog]; exact h.halt.emptyLog
    · rw [hlog]; exact h.halt.count
    · rw [hdisp, hmap]; exact fun he => ⟨(h.quiet.editable he).1, rfl⟩
    · rw [Part.ringInFlight_congr (p := p) (by rw [hdisp]), hdisp]; exact h.quiet.atRest

/-! ### The owners -/

theorem Part.CommandOk.refuse {v : Ev} (h : v.p.CommandOk) (st : Status) (detail : Option Nat) :
    (v.refuse st detail).p.CommandOk := by rwa [Ev.refuse_p]

theorem Part.CommandOk.reply {v : Ev} (h : v.p.CommandOk) (body : Reply) : (v.reply body).p.CommandOk := by
  rwa [Ev.reply_p]

theorem Ev.map_reply_commandOk {v : Ev} {f : Part → Part} (h : (f v.p).CommandOk) (body : Reply) :
    ((v.map f).reply body).p.CommandOk := Part.CommandOk.reply (v := v.map f) h body

theorem ownMapFreeze_commandOk (b : List Byte) {v : Ev} (h : v.p.CommandOk) : (ownMapFreeze b v).p.CommandOk := by
  unfold ownMapFreeze
  split
  · exact h.refuse _ _
  · exact Ev.map_reply_commandOk ⟨⟨h.halt.halted, h.halt.emptyLog, h.halt.count⟩, (fun he => by cases he), h.quiet.atRest⟩ _

theorem ownMapClear_commandOk (b : List Byte) {v : Ev} (h : v.p.CommandOk) : (ownMapClear b v).p.CommandOk := by
  unfold ownMapClear
  split_ifs with hseq hdirect
  · exact h.refuse _ _
  · exact h.refuse _ _
  · refine Ev.map_reply_commandOk ⟨⟨h.halt.halted, h.halt.emptyLog, h.halt.count⟩, fun _ => ⟨?_, ?_⟩,
      h.quiet.atRest⟩ _
    · simpa using hseq
    · simpa using hdirect

theorem Ev.commitReported_commandOk {v : Ev} (h : v.p.CommandOk) : v.commitReported.p.CommandOk := by
  rw [Ev.commitReported_eq]
  dsimp only
  split
  next hseq =>
    refine h.entered (by simp [hseq]) (h.quiet.frozen (by simp [hseq])) (by split <;> simp) fun _ => ?_
    exact h.quiet.atRest (by simp [hseq])
  · exact h

theorem ownStepCommit_commandOk (b : List Byte) {v : Ev} (h : v.p.CommandOk) : (ownStepCommit b v).p.CommandOk := by
  unfold ownStepCommit
  dsimp only
  split_ifs
  · exact h.refuse _ _
  · exact h.refuse _ _
  · exact h.refuse _ _
  · split
    · exact h.refuse _ _
    · refine Ev.commitReported_commandOk (Ev.map_reply_commandOk ?_ _)
      exact h.congr ⟨rfl, rfl, rfl⟩

theorem ownRun_commandOk (b : List Byte) {v : Ev} (h : v.p.CommandOk) : (ownRun b v).p.CommandOk := by
  unfold ownRun
  split_ifs with hseq hdirect hmap
  · exact h.refuse _ _
  · exact h.refuse _ _
  · exact h.refuse _ _
  · rw [not_not] at hseq hmap
    split
    · exact h.refuse _ _
    · have hentered : ∀ st, st ≠ .halted → ((v.reply .done).enterSeq st).p.CommandOk := by
        intro st hst
        refine (h.reply .done).entered ?_ ?_ hst fun _ => ?_
        · simp [hseq]
        · simp [hmap]
        · rw [Part.ringInFlight_congr (p := v.p) (by simp)]
          exact h.quiet.atRest (.inl hseq)
      dsimp only
      split
      · exact hentered _ (by simp)
      · exact hentered _ (by simp)

theorem ownPause_commandOk (b : List Byte) {v : Ev} (h : v.p.CommandOk) : (ownPause b v).p.CommandOk := by
  have hring : (v.reply .done).p.ringInFlight = v.p.ringInFlight := Part.ringInFlight_congr (by simp)
  have hentered : ∀ st, v.p.disp.seq ≠ .halted → v.p.disp.seq ≠ .stopped → st ≠ .halted →
      (st = .stopped ∨ st = .paused ∨ st = .drained → v.p.ringInFlight = false) →
      ((v.reply .done).enterSeq st).p.CommandOk := by
    intro st hhalted hstopped hst hrest
    refine (h.reply .done).entered (by simpa using hhalted) ?_ hst (by rwa [hring])
    simpa using h.quiet.frozen hstopped
  unfold ownPause
  split
  next hseq =>
    refine hentered _ (by simp [hseq]) (by simp [hseq]) (by split <;> simp) fun hrest => ?_
    cases hr : v.p.ringInFlight with
    | true => simp [hr] at hrest
    | false => rfl
  next hseq =>
    exact hentered _ (by simp [hseq]) (by simp [hseq]) (by simp) fun _ => h.quiet.atRest (by simp [hseq])
  · exact h.reply _
  · exact h.reply _
  · exact h.reply _
  · exact h.refuse _ _
  · exact h.refuse _ _

theorem Ev.resumeFrom_commandOk {v : Ev} (h : v.p.CommandOk) (hhalted : v.p.disp.seq ≠ .halted)
    (hstopped : v.p.disp.seq ≠ .stopped) : v.resumeFrom.p.CommandOk := by
  unfold Ev.resumeFrom
  split
  · exact h.refuse _ _
  · split
    · exact h.refuse _ _
    · refine commandOkKept.judgeKept.judgeState (v := (v.reply .done).enterSeq .running) ?_
      refine (h.reply .done).entered (by simpa using hhalted) ?_ (by simp) (by simp)
      simpa using h.quiet.frozen hstopped

theorem Ev.stopFrom_commandOk {v : Ev} (h : v.p.CommandOk) (hhalted : v.p.disp.seq ≠ .halted)
    (hstopped : v.p.disp.seq ≠ .stopped) : v.stopFrom.p.CommandOk := by
  unfold Ev.stopFrom
  split
  · exact h.refuse _ _
  · have hentered : ((v.reply .done).enterSeq .stopping).p.CommandOk :=
      (h.reply .done).entered (by simpa using hhalted) (by simpa using h.quiet.frozen hstopped) (by simp) (by simp)
    refine commandOkKept.judgeStopped (commandOkKept.takeAll (fun _ h => h) ?_)
    refine commandOkKept.same ?_ (.of_outer (Ev.outer_releaseAll _))
    refine commandOkKept.abortAll ?_ (Ev.outer_abortWithDischarge .stopped)
    exact hentered.congr ⟨rfl, rfl, rfl⟩

theorem ownDirectStep_commandOk (b : List Byte) {v : Ev} (h : v.p.CommandOk) : (ownDirectStep b v).p.CommandOk := by
  unfold ownDirectStep
  split_ifs with hseq hdirect hmap
  · exact h.refuse _ _
  · exact h.refuse _ _
  · exact h.refuse _ _
  · rw [not_not] at hmap
    split
    · exact h.refuse _ _
    · split
      · exact h.refuse _ _
      · refine Ev.map_reply_commandOk ⟨⟨h.halt.halted, h.halt.emptyLog, h.halt.count⟩, fun he => ?_,
          h.quiet.atRest⟩ _
        have hedit : v.p.map.state = .editable := he
        rw [hmap] at hedit
        cases hedit

theorem ownErrlogRead_commandOk (b : List Byte) {v : Ev} (h : v.p.CommandOk) : (ownErrlogRead b v).p.CommandOk := by
  unfold ownErrlogRead
  split
  · exact h.reply _
  next r hr =>
    have hseq : v.p.disp.seq = .halted := h.halt.halted.mpr (by simp [hr])
    dsimp only
    rw [if_pos (by simpa using hseq)]
    rw [Ev.enterSeq_p]
    refine ⟨⟨?_, fun _ => rfl, Nat.zero_le _⟩, fun he => ?_, ?_⟩
    · dsimp only; split <;> simp
    · exact absurd (by simpa using he) (h.quiet.frozen (by simp [hseq]))
    · intro hrest
      have hring : ∀ q : Part, q.disp.inFlight = v.p.disp.inFlight → q.ringInFlight = v.p.ringInFlight :=
        fun q hq => Part.ringInFlight_congr hq
      rw [hring _ (by simp)]
      dsimp only at hrest
      rw [hring _ (by simp)] at hrest
      cases hr : v.p.ringInFlight with
      | true => simp [hr] at hrest
      | false => rfl

theorem owner_commandOk (k : RequestKind) (b : List Byte) (v : Ev) (hk : leavesCommand k = false) (h : v.p.CommandOk) :
    (owner k b v).p.CommandOk := by
  cases k with
  | mapFreeze => exact ownMapFreeze_commandOk b h
  | mapClear => exact ownMapClear_commandOk b h
  | stepCommit => exact ownStepCommit_commandOk b h
  | run => exact ownRun_commandOk b h
  | pause => exact ownPause_commandOk b h
  | directStep => exact ownDirectStep_commandOk b h
  | errlogRead => exact ownErrlogRead_commandOk b h
  | resume =>
    change (ownResume b v).p.CommandOk
    unfold ownResume
    split
    next hseq => exact Ev.resumeFrom_commandOk h (by simp [hseq]) (by simp [hseq])
    next hseq => exact Ev.resumeFrom_commandOk h (by simp [hseq]) (by simp [hseq])
    all_goals exact h.refuse _ _
  | stop =>
    change (ownStop b v).p.CommandOk
    unfold ownStop
    split
    next hseq => exact Ev.stopFrom_commandOk h (by simp [hseq]) (by simp [hseq])
    next hseq => exact Ev.stopFrom_commandOk h (by simp [hseq]) (by simp [hseq])
    next hseq => exact Ev.stopFrom_commandOk h (by simp [hseq]) (by simp [hseq])
    next hseq => exact Ev.stopFrom_commandOk h (by simp [hseq]) (by simp [hseq])
    all_goals exact h.refuse _ _
  | pace =>
    rcases ownPace_sameCommand b v with hsame | ⟨window, holdLimit, block, hsame⟩
    · exact h.congr hsame
    · refine Part.CommandOk.congr (p := v.p.setPace window holdLimit block) ?_ hsame
      exact ⟨⟨h.halt.halted, h.halt.emptyLog, h.halt.count⟩, h.quiet.editable, h.quiet.atRest⟩
  | _ => cases hk

/-- Settles O56: a state is entered with the log as its state says, at rest only with no ring step in flight, and a ring
step is dispatched only in RUNNING. -/
theorem everyStepKeepsTheSequencerInOrder : Obligations.EveryStepKeepsTheSequencerInOrder := by
  intro s t hhalt hquiet hstep
  have h := commandOkKept.step (commandOkKept.owner owner_commandOk) ⟨hhalt, hquiet⟩ hstep
  exact ⟨h.halt, h.quiet⟩

end Sys2Proof.Machine

/-! PROOFS. What the operations of engines, Scanner and matrix leave of the work in hand: the queue, the ring, the steps in
flight, the scan under way, and for each engine its job, whether it is ACTIVE, and that an engine of a scan serves it. -/

namespace Sys2Proof.Machine

/-! ### An engine tuned -/

/-- The step an engine works on. -/
def Engine.job (g : Engine) : Option (Option Nat × StepRecord) := g.work.map fun w => (w.origin, w.record)

/-- An engine of a scan stands in a phase of a group test, never in a re-plan, and does not wait in CONNECT. -/
def Engine.Serves (g : Engine) : Prop := g.scanning = true → g.replan = .none ∧
  g.phase ∈ [some .connect, some .settle, some .integrate, some .resultWait] ∧
  (g.phase = some .connect → g.stillWait = false)

/-- An engine after an act that leaves its work in hand. -/
structure Engine.Tuned (g h : Engine) : Prop where
  job : h.job = g.job
  active : h.state = .active ↔ g.state = .active
  serves : g.Serves → h.Serves

theorem Engine.scanning_of_job {g h : Engine} (hj : h.job = g.job) : h.scanning = g.scanning := by
  unfold Engine.job at hj
  unfold Engine.scanning
  cases hg : g.work with
  | none => rw [hg, Option.map_none, Option.map_eq_none_iff] at hj; rw [hj]
  | some w =>
    rw [hg, Option.map_some, Option.map_eq_some_iff] at hj
    obtain ⟨x, hx, heq⟩ := hj
    have hrecord : x.record = w.record := congrArg Prod.snd heq
    rw [hx]
    simp [hrecord]

theorem Engine.Tuned.refl (g : Engine) : g.Tuned g := ⟨rfl, Iff.rfl, id⟩

theorem Engine.Tuned.trans {g h k : Engine} (hgh : g.Tuned h) (hhk : h.Tuned k) : g.Tuned k :=
  ⟨hhk.job.trans hgh.job, hhk.active.trans hgh.active, fun hs => hhk.serves (hgh.serves hs)⟩

theorem Engine.Tuned.scanning {g h : Engine} (hgh : g.Tuned h) : h.scanning = g.scanning := Engine.scanning_of_job hgh.job

/-- The fields that serving looks at are left, or the still wait is given up. -/
theorem Engine.tuned_of_same {g h : Engine} (hwork : h.work = g.work) (hstate : h.state = g.state)
    (hreplan : h.replan = g.replan) (hphase : h.phase = g.phase) (hstill : h.stillWait = g.stillWait ∨ h.stillWait = false) :
    g.Tuned h := by
  have hjob : h.job = g.job := by rw [Engine.job, Engine.job, hwork]
  refine ⟨hjob, by rw [hstate], fun hs hscan => ?_⟩
  obtain ⟨h1, h2, h3⟩ := hs (Engine.scanning_of_job hjob ▸ hscan)
  refine ⟨hreplan ▸ h1, hphase ▸ h2, fun hc => ?_⟩
  rcases hstill with hstill | hstill
  · rw [hstill]; exact h3 (hphase ▸ hc)
  · exact hstill

/-- A phase of a group test is entered. -/
theorem Engine.tuned_to_phase {g h : Engine} (hwork : h.work = g.work) (hstate : h.state = g.state)
    (hreplan : h.replan = g.replan)
    (hphase : h.phase ∈ [some Phase.connect, some .settle, some .integrate, some .resultWait])
    (hconnect : h.phase = some .connect → h.stillWait = false) : g.Tuned h := by
  have hjob : h.job = g.job := by rw [Engine.job, Engine.job, hwork]
  refine ⟨hjob, by rw [hstate], fun hs hscan => ?_⟩
  obtain ⟨h1, _, _⟩ := hs (Engine.scanning_of_job hjob ▸ hscan)
  exact ⟨hreplan ▸ h1, hphase, hconnect⟩

/-- Nothing is asked of an engine that serves no scan. -/
theorem Engine.tuned_of_not_scanning {g h : Engine} (hjob : h.job = g.job) (hactive : h.state = .active ↔ g.state = .active)
    (hscan : g.Serves → g.scanning = false) : g.Tuned h :=
  ⟨hjob, hactive, fun hs hscan' => absurd (Engine.scanning_of_job hjob ▸ hscan') (by simp [hscan hs])⟩

/-- An engine in a phase that no group test has serves no scan. -/
theorem Engine.not_scanning_of_phase {g : Engine} {ph : Phase} (hphase : g.phase = some ph)
    (hph : ph ∉ [Phase.connect, .settle, .integrate, .resultWait]) (hs : g.Serves) : g.scanning = false := by
  rw [Bool.eq_false_iff]
  intro hscan
  obtain ⟨_, hin, _⟩ := hs hscan
  rw [hphase] at hin
  simp_all

theorem Engine.not_scanning_of_replan {g : Engine} (hreplan : g.replan ≠ .none) (hs : g.Serves) : g.scanning = false := by
  rw [Bool.eq_false_iff]
  exact fun hscan => hreplan (hs hscan).1

theorem Engine.scanning_of_work {g : Engine} {w : Work} (hw : g.work = some w) :
    g.scanning = decide (w.record.kind = .scan) := by simp [Engine.scanning, hw]

/-! ### A part and an event tuned -/

/-- A part after an act that leaves its work in hand. -/
structure Part.Tuned (p q : Part) : Prop where
  nails : q.map.nails = p.map.nails
  ring : q.ring = p.ring
  inFlight : q.disp.inFlight = p.disp.inFlight
  scan : q.scanner.scan = p.scanner.scan
  queue : q.queue = p.queue
  engines : ∀ e, (p.engine e).Tuned (q.engine e)

/-- An event after an act that leaves the work in hand and the completions reported. -/
structure Ev.Tuned (v w : Ev) : Prop where
  part : v.p.Tuned w.p
  completions : w.completions = v.completions

theorem Part.Tuned.refl (p : Part) : p.Tuned p := ⟨rfl, rfl, rfl, rfl, rfl, fun _ => .refl _⟩

theorem Part.Tuned.trans {p q r : Part} (hpq : p.Tuned q) (hqr : q.Tuned r) : p.Tuned r :=
  ⟨hqr.nails.trans hpq.nails, hqr.ring.trans hpq.ring, hqr.inFlight.trans hpq.inFlight, hqr.scan.trans hpq.scan,
    hqr.queue.trans hpq.queue, fun e => (hpq.engines e).trans (hqr.engines e)⟩

theorem Ev.Tuned.refl (v : Ev) : v.Tuned v := ⟨.refl _, rfl⟩

theorem Ev.Tuned.trans {u v w : Ev} (huv : u.Tuned v) (hvw : v.Tuned w) : u.Tuned w :=
  ⟨huv.part.trans hvw.part, hvw.completions.trans huv.completions⟩

/-- Nothing of the work in hand is written. -/
theorem Part.tuned_of_eq {p q : Part} (hnails : q.map.nails = p.map.nails) (hring : q.ring = p.ring)
    (hflight : q.disp.inFlight = p.disp.inFlight) (hscan : q.scanner.scan = p.scanner.scan) (hqueue : q.queue = p.queue)
    (hengines : q.engines = p.engines) : p.Tuned q :=
  ⟨hnails, hring, hflight, hscan, hqueue, fun e => by rw [Part.engine, Part.engine, hengines]; exact .refl _⟩

theorem Part.setEngine_tuned (p : Part) (e : EngineId) {g : Engine} (h : (p.engine e).Tuned g) : p.Tuned (p.setEngine e g) := by
  refine ⟨rfl, rfl, rfl, rfl, rfl, fun f => ?_⟩
  by_cases hf : f = e
  · subst hf; rwa [Part.engine_setEngine_same]
  · rw [Part.engine_setEngine_ne _ _ _ _ hf]; exact .refl _

/-- An engine replaced after acts that left the work in hand. -/
theorem Ev.onEngine_from {u v : Ev} (huv : u.Tuned v) (e : EngineId) {f : Engine → Engine}
    (h : (u.p.engine e).Tuned (f (v.p.engine e))) : u.Tuned (v.onEngine e f) := by
  refine ⟨⟨huv.part.nails, huv.part.ring, huv.part.inFlight, huv.part.scan, huv.part.queue, fun g => ?_⟩, huv.completions⟩
  rw [Ev.onEngine_p]
  by_cases hg : g = e
  · subst hg; rwa [Part.engine_setEngine_same]
  · rw [Part.engine_setEngine_ne _ _ _ _ hg]; exact huv.part.engines g

theorem Ev.onEngine_tuned (v : Ev) (e : EngineId) {f : Engine → Engine} (h : (v.p.engine e).Tuned (f (v.p.engine e))) :
    v.Tuned (v.onEngine e f) := ⟨v.p.setEngine_tuned e h, rfl⟩

theorem Ev.onEngine_same (v : Ev) (e : EngineId) {f : Engine → Engine} (hwork : ∀ g, (f g).work = g.work)
    (hstate : ∀ g, (f g).state = g.state) (hreplan : ∀ g, (f g).replan = g.replan) (hphase : ∀ g, (f g).phase = g.phase)
    (hstill : ∀ g, (f g).stillWait = g.stillWait ∨ (f g).stillWait = false) : v.Tuned (v.onEngine e f) :=
  v.onEngine_tuned e (Engine.tuned_of_same (hwork _) (hstate _) (hreplan _) (hphase _) (hstill _))

/-- A change beside the work in hand. -/
theorem Ev.map_tuned (v : Ev) {f : Part → Part} (h : v.p.Tuned (f v.p)) : v.Tuned (v.map f) := ⟨h, rfl⟩

theorem Ev.look_tuned (v : Ev) : v.Tuned v.look := v.map_tuned (Part.tuned_of_eq rfl rfl rfl rfl rfl rfl)

theorem Ev.foldl_tuned {α : Type} {f : Ev → α → Ev} (hf : ∀ (v : Ev) a, v.Tuned (f v a)) (l : List α) (v : Ev) :
    v.Tuned (l.foldl f v) := by
  induction l generalizing v with
  | nil => exact .refl v
  | cons a l ih => exact (hf v a).trans (ih _)

/-! ### Phases -/

theorem Ev.enterSampling_engine (v : Ev) (e : EngineId) (ph : Phase) :
    ∃ w, v.Tuned w ∧ w.p.engines = v.p.engines ∧
      v.enterSampling e ph = w.onEngine e fun g => { g with phase := some ph }.sendRequest w.p.time := by
  unfold Ev.enterSampling
  dsimp only
  split
  · exact ⟨_, v.map_tuned (Part.tuned_of_eq rfl rfl rfl rfl rfl rfl), rfl, rfl⟩
  · exact ⟨v, .refl v, rfl, rfl⟩

/-- NULL is entered by an engine that serves no scan. -/
theorem Ev.enterSampling_from {u v : Ev} (huv : u.Tuned v) (e : EngineId) (ph : Phase)
    (h : (u.p.engine e).Serves → (u.p.engine e).scanning = false) : u.Tuned (v.enterSampling e ph) := by
  obtain ⟨w, hvw, hengines, heq⟩ := v.enterSampling_engine e ph
  have hsame : w.p.engine e = v.p.engine e := congrArg (·.get e) hengines
  rw [heq]
  refine Ev.onEngine_from (huv.trans hvw) e (Engine.tuned_of_not_scanning ?_ ?_ h)
  · exact (congrArg Engine.job hsame).trans (huv.part.engines e).job
  · rw [hsame]; exact (huv.part.engines e).active

theorem Ev.enterIntegrate_tuned (v : Ev) (e : EngineId) : v.Tuned (v.enterSampling e .integrate) := by
  obtain ⟨w, hvw, hengines, heq⟩ := v.enterSampling_engine e .integrate
  rw [heq]
  exact hvw.trans (w.onEngine_tuned e (Engine.tuned_to_phase rfl rfl rfl (by simp [Engine.sendRequest])
    (by simp [Engine.sendRequest])))

theorem Ev.stillReport_tuned (v : Ev) (e : EngineId) : v.Tuned (v.stillReport e) := by
  unfold Ev.stillReport
  dsimp only
  split
  next hstill =>
    have hcleared : v.Tuned (v.onEngine e fun g => { g with stillWait := false }) :=
      v.onEngine_same e (fun _ => rfl) (fun _ => rfl) (fun _ => rfl) (fun _ => rfl) fun _ => .inr rfl
    split
    next hphase =>
      -- a scan's engine does not wait in CONNECT
      refine Ev.enterSampling_from hcleared e .null fun hs => ?_
      have hconnect : (v.p.engine e).phase = some .connect := by simpa [Ev.onEngine_p] using hphase
      rw [Bool.eq_false_iff]
      intro hscan
      rw [(hs hscan).2.2 hconnect] at hstill
      cases hstill
    · exact hcleared.trans (Ev.enterIntegrate_tuned _ e)
    · exact hcleared
  · exact .refl v

theorem Ev.tellStill_tuned (v : Ev) : v.Tuned v.tellStill := Ev.foldl_tuned Ev.stillReport_tuned _ v

theorem Ev.settleLink_tuned (v : Ev) : v.Tuned v.settleLink := by
  unfold Ev.settleLink
  split
  · dsimp only
    have hchosen : v.Tuned { v with p := (v.p.choose 2).2 } := ⟨Part.tuned_of_eq rfl rfl rfl rfl rfl rfl, rfl⟩
    split
    · exact hchosen.trans ((Ev.tellStill_tuned _).trans (Ev.look_tuned _))
    · exact hchosen.trans (Ev.look_tuned _)
  · dsimp only
    split
    · exact v.look_tuned.trans (Ev.tellStill_tuned _)
    · exact v.look_tuned

/-- A still report is asked for by an engine that serves no scan, or outside CONNECT. -/
theorem Ev.askStill_from {u v : Ev} (huv : u.Tuned v) (e : EngineId)
    (h : (u.p.engine e).Serves → (u.p.engine e).scanning = false ∨ (v.p.engine e).phase ≠ some .connect) :
    u.Tuned (v.askStill e) := by
  have hasked : u.Tuned (v.onEngine e fun g => { g with stillWait := true }) := by
    refine Ev.onEngine_from huv e ?_
    obtain ⟨hjob, hactive, hserves⟩ := huv.part.engines e
    refine ⟨hjob, hactive, fun hs hscan => ?_⟩
    have hscan' : (v.p.engine e).scanning = true := hscan
    obtain ⟨h1, h2, _⟩ := hserves hs hscan'
    refine ⟨h1, h2, fun hc => ?_⟩
    rcases h hs with hno | hphase
    · rw [(huv.part.engines e).scanning, hno] at hscan'; cases hscan'
    · exact absurd hc hphase
  unfold Ev.askStill
  dsimp only
  split
  · exact hasked.trans (Ev.stillReport_tuned _ e)
  · exact hasked

theorem Ev.leaveQuiet_tuned (v : Ev) (e : EngineId) : v.Tuned (v.leaveQuiet e) := by
  unfold Ev.leaveQuiet
  split
  · exact (v.map_tuned (Part.tuned_of_eq rfl rfl rfl rfl rfl rfl)).trans (Ev.settleLink_tuned _)
  · exact .refl v

theorem Ev.enterSettle_tuned (v : Ev) (e : EngineId) : v.Tuned (v.enterSettle e) :=
  v.onEngine_tuned e (Engine.tuned_to_phase rfl rfl rfl (by simp) (by simp))

/-- A discharge is entered by an engine that serves no scan. -/
theorem Ev.enterDischarge_from {u v : Ev} (huv : u.Tuned v) (e : EngineId) (ph : Phase)
    (h : (u.p.engine e).Serves → (u.p.engine e).scanning = false) : u.Tuned (v.enterDischarge e ph) :=
  Ev.onEngine_from huv e
    (Engine.tuned_of_not_scanning (huv.part.engines e).job (huv.part.engines e).active h)

theorem Ev.connectionReady_tuned (v : Ev) (e : EngineId) : v.Tuned (v.connectionReady e) := by
  unfold Ev.connectionReady
  dsimp only
  split
  next w hphase hwork =>
    split
    · exact .refl v
    · have hready : v.Tuned (v.onEngine e fun g => { g with readyMark := true }) :=
        v.onEngine_same e (fun _ => rfl) (fun _ => rfl) (fun _ => rfl) (fun _ => rfl) fun _ => .inl rfl
      have hnot : w.record.kind ≠ .scan → (v.p.engine e).Serves → (v.p.engine e).scanning = false := by
        intro hk _
        simp [Engine.scanning_of_work hwork, hk]
      split
      next hk =>
        have hnot := hnot (by simp [hk])
        split
        · exact hready.trans (Ev.enterSettle_tuned _ e)
        · split
          · exact Ev.askStill_from hready e fun hs => .inl (hnot hs)
          · exact Ev.enterSampling_from hready e .null hnot
      next hk =>
        have hnot := hnot (by simp [hk])
        split
        · exact hready.trans (Ev.enterSettle_tuned _ e)
        · split
          · exact Ev.askStill_from hready e fun hs => .inl (hnot hs)
          · exact Ev.enterSampling_from hready e .null hnot
      · exact hready.trans (Ev.enterSettle_tuned _ e)
      · exact hready.trans (Ev.enterSettle_tuned _ e)
      next hk => exact Ev.enterDischarge_from hready e .discharge (hnot (by simp [hk]))
  · exact .refl v

theorem Ev.judgeReady_tuned (v : Ev) (e : EngineId) : v.Tuned (v.judgeReady e) := by
  unfold Ev.judgeReady
  split
  · exact (v.map_tuned (Part.tuned_of_eq rfl rfl rfl rfl rfl rfl)).trans (Ev.connectionReady_tuned _ e)
  · exact .refl v

theorem Ev.judgeAllReady_tuned (v : Ev) : v.Tuned v.judgeAllReady := Ev.foldl_tuned Ev.judgeReady_tuned _ v

theorem Ev.sendPlan_tuned (v : Ev) (e : EngineId) (plan : List Pair) : v.Tuned (v.sendPlan e plan).1 := by
  unfold Ev.sendPlan
  exact (v.map_tuned (Part.tuned_of_eq rfl rfl rfl rfl rfl rfl)).trans (Ev.look_tuned _)

theorem Ev.turnOff_tuned (v : Ev) (e : EngineId) : v.Tuned (v.turnOff e) := by
  unfold Ev.turnOff
  refine Ev.Tuned.trans ?_ (Ev.leaveQuiet_tuned _ e)
  exact (v.onEngine_same e (f := Engine.quietDown) (fun _ => rfl) (fun _ => rfl) (fun _ => rfl) (fun _ => rfl)
    fun _ => .inr rfl).trans (Ev.map_tuned _ (Part.tuned_of_eq rfl rfl rfl rfl rfl rfl))

/-- An engine turned off with its sums discarded. -/
theorem Ev.turnOff_discard_tuned (v : Ev) (e : EngineId) : v.Tuned ((v.turnOff e).onEngine e Engine.discardSums) :=
  (v.turnOff_tuned e).trans
    (Ev.onEngine_same _ e (fun _ => rfl) (fun _ => rfl) (fun _ => rfl) (fun _ => rfl) fun _ => .inl rfl)

theorem Ev.releaseAll_tuned (v : Ev) : v.Tuned v.releaseAll :=
  (v.map_tuned (Part.tuned_of_eq rfl rfl rfl rfl rfl rfl)).trans (Ev.look_tuned _)

/-- A ramp is ended by an engine that serves no scan. -/
theorem Ev.endRamp_from {u v : Ev} (huv : u.Tuned v) (e : EngineId) (f : Formed) (degraded : Bool)
    (h : (u.p.engine e).Serves → (u.p.engine e).scanning = false) : u.Tuned (v.endRamp e f degraded) := by
  unfold Ev.endRamp
  refine Ev.enterDischarge_from (huv.trans (Ev.Tuned.trans (v := v.onEngine e fun g =>
    { g.quietDown with formed := some f, timeDegraded := degraded }) ?_ ?_)) e .postDischarge h
  · exact v.onEngine_same e (fun _ => rfl) (fun _ => rfl) (fun _ => rfl) (fun _ => rfl) fun _ => .inr rfl
  · exact Ev.map_tuned _ (Part.tuned_of_eq rfl rfl rfl rfl rfl rfl)

theorem Ev.takeCapture_tuned (v : Ev) (e : EngineId) : v.Tuned (v.takeCapture e) := by
  unfold Ev.takeCapture
  dsimp only
  split
  next w hphase _ => exact Ev.endRamp_from (.refl v) e _ _ (Engine.not_scanning_of_phase hphase (by simp))
  · exact .refl v

/-- A ramp is entered by an engine that serves no scan. -/
theorem Ev.enterRamp_from {u v : Ev} (huv : u.Tuned v) (e : EngineId) (crossed : Bool)
    (h : (u.p.engine e).Serves → (u.p.engine e).scanning = false) : u.Tuned (v.enterRamp e crossed) := by
  unfold Ev.enterRamp
  split
  · exact huv
  next w hwork =>
    dsimp only
    have harmed : v.Tuned (v.map fun p => p.setCapture e (Capture.arm p.time crossed)) :=
      v.map_tuned (Part.tuned_of_eq rfl rfl rfl rfl rfl rfl)
    have hentered := Ev.onEngine_from (huv.trans harmed) e (f := fun g =>
      { g.quietDown with phase := some .ramp, stimulus := some g.effCurrent, parted := false,
                         threshold := some w.record.threshold,
                         phaseWait := some ((v.map fun p => p.setCapture e (Capture.arm p.time crossed)).p.dueIn
                           (micros (w.record.rampLimit * 1000))) })
      (Engine.tuned_of_not_scanning ((huv.trans harmed).part.engines e).job ((huv.trans harmed).part.engines e).active h)
    split
    · exact hentered.trans (Ev.takeCapture_tuned _ e)
    · exact hentered

theorem Ev.nextRequest_tuned (v : Ev) (e : EngineId) : v.Tuned (v.nextRequest e) := by
  unfold Ev.nextRequest
  split
  · exact v.onEngine_same e (fun _ => rfl) (fun _ => rfl) (fun _ => rfl) (fun _ => rfl) fun _ => .inl rfl
  · exact .refl v

/-! ### State entries -/

theorem Ev.enterSeq_tuned (v : Ev) (st : SeqState) : v.Tuned (v.enterSeq st) :=
  ⟨Part.tuned_of_eq (by rw [Ev.enterSeq_p]) (by rw [Ev.enterSeq_p]) (by rw [Ev.enterSeq_p]) (by rw [Ev.enterSeq_p])
    (by rw [Ev.enterSeq_p]) (by rw [Ev.enterSeq_p]), v.enterSeq_completions st⟩

theorem Ev.haltingError_tuned (v : Ev) (r : ErrorRecord) : v.Tuned (v.haltingError r) := by
  refine ⟨?_, v.haltingError_completions r⟩
  rcases v.haltingError_p r with ⟨_, h⟩ | ⟨_, h⟩ | h
  · rw [h]; exact Part.tuned_of_eq rfl rfl rfl rfl rfl rfl
  · rw [h]; exact Part.tuned_of_eq rfl rfl rfl rfl rfl rfl
  · rw [h]; exact .refl _

theorem Ev.judgeKept_tuned (u : Ev) : JudgeKept u.Tuned where
  asked _ h := ⟨h.part, h.completions⟩
  halting v r h := h.trans (v.haltingError_tuned r)
  entered v st h _ _ _ _ := h.trans (v.enterSeq_tuned st)

theorem Ev.judgeStopped_tuned (v : Ev) : v.Tuned v.judgeStopped := v.judgeKept_tuned.judgeStopped (.refl v)

theorem Ev.judgeStep_tuned (v : Ev) (c : Completion) : v.Tuned (v.judgeStep c) := v.judgeKept_tuned.judgeStep (.refl v) c

end Sys2Proof.Machine

/-! PROOFS. What an invariant about the work in hand is kept by: one walk through the Scanner, the engines, the Dispatcher
and the acts of an event, for every such invariant. -/

namespace Sys2Proof.Machine

/-! ### Records that join the queue -/

/-- A queue after at most `n` records have joined it and full blocks have left (R165, R168, R171). -/
structure ResultQueue.Within (a b : ResultQueue) (n : Nat) : Prop where
  reserved : b.reserved = a.reserved
  count : b.records.length ≤ a.records.length + n
  bound : (a.block ≠ 0 → a.records.length < a.block) → b.block ≠ 0 → b.records.length < b.block
  number : a.blockNumber < 65536 → b.blockNumber < 65536

theorem Ev.formBlocks_spec (n : Nat) (v : Ev) (h : v.p.queue.records.length ≤ n) :
    ∃ q, (v.formBlocks n).p = { v.p with queue := q } ∧ q.block = v.p.queue.block ∧ q.reserved = v.p.queue.reserved ∧
      q.records.length ≤ v.p.queue.records.length ∧ (q.block ≠ 0 → q.records.length < q.block) ∧
      (v.p.queue.blockNumber < 65536 → q.blockNumber < 65536) ∧ (v.formBlocks n).completions = v.completions := by
  induction n generalizing v with
  | zero => exact ⟨v.p.queue, rfl, rfl, rfl, le_refl _, fun hne => by omega, id, rfl⟩
  | succ n ih =>
    unfold Ev.formBlocks
    split
    next hfull =>
      obtain ⟨hblock, hle⟩ := hfull
      have hshort : (v.p.queue.records.drop v.p.queue.block).length ≤ n := by rw [List.length_drop]; omega
      obtain ⟨q, hp, h1, h2, h3, h4, h5, h6⟩ := ih
        { v with
          p := (v.p.takeBlock v.p.queue.block .full).2
          blocks := v.blocks ++ [.notice (.block (v.p.takeBlock v.p.queue.block .full).1)]
          askEvaluate := true, askRemoval := true } hshort
      refine ⟨q, hp, h1, h2, le_trans h3 ?_, h4, fun _ => h5 (Nat.mod_lt _ (by decide)), h6⟩
      simp [Part.takeBlock]
    next hnot =>
      refine ⟨v.p.queue, rfl, rfl, rfl, le_refl _, fun hne => ?_, id, rfl⟩
      simpa [hne] using hnot

theorem Ev.append_spec (v : Ev) (r : ResultRecord) : ∃ q, (v.append r).p = { v.p with queue := q } ∧
    v.p.queue.Within q 1 ∧ (v.append r).completions = v.completions := by
  have hlength : (v.p.queue.records ++ [{ r with time := v.p.time48 }]).length = v.p.queue.records.length + 1 := by simp
  obtain ⟨q, hp, h1, h2, h3, h4, h5, h6⟩ := Ev.formBlocks_spec (v.p.queue.records.length + 1)
    { v with p := { v.p with queue := { v.p.queue with
      records := v.p.queue.records ++ [{ r with time := v.p.time48 }] } } } hlength.le
  exact ⟨q, hp, ⟨h2, h3.trans hlength.le, fun _ => h4, h5⟩, h6⟩

/-- A final record joins in the place of its reservation (R167). -/
theorem Ev.appendFinal_spec (v : Ev) (r : ResultRecord) : ∃ q, (v.appendFinal r).p = { v.p with queue := q } ∧
    ({ v.p.queue with reserved := v.p.queue.reserved - 1 } : ResultQueue).Within q 1 ∧
    (v.appendFinal r).completions = v.completions :=
  Ev.append_spec (v.map fun p => { p with queue := { p.queue with reserved := p.queue.reserved - 1 } }) r

/-! ### The changes of the work in hand -/

/-- The ring once the step of a slot, if it has one, has ended (R36, R40). -/
def Ring.endedBy (r : Ring) : Option Nat → Ring
  | some i => ((r.setState i .done).advanceNext).retire
  | none => r

/-- The ring once the step of a slot, if it has one, has been dispatched (R36, R64). -/
def Ring.begunBy (r : Ring) : Option Nat → Ring
  | some i => (r.setState i .active).advanceNext
  | none => r

/-- The queue alone has changed, by at most `n` records that joined it. -/
structure Part.Requeued (p q : Part) (n : Nat) : Prop where
  nails : q.map.nails = p.map.nails
  ring : q.ring = p.ring
  inFlight : q.disp.inFlight = p.disp.inFlight
  scan : q.scanner.scan = p.scanner.scan
  queue : p.queue.Within q.queue n
  engines : q.engines = p.engines

/-- A step has ended on its engine, with its record and its slot (R122, R158). -/
structure Part.Ended (p q : Part) (e : EngineId) (origin : Option Nat) : Prop where
  nails : q.map.nails = p.map.nails
  ring : q.ring = p.ring.endedBy origin
  inFlight : q.disp.inFlight = p.disp.inFlight
  queue : ({ p.queue with reserved := p.queue.reserved - 1 } : ResultQueue).Within q.queue 1
  ended : (q.engine e).work = none
  others : ∀ f, f ≠ e → (p.engine f).Tuned (q.engine f)

/-- A step has begun on an engine (R64). -/
structure Part.Began (p q : Part) (e : EngineId) (x : Entry) (w : Work) : Prop where
  nails : q.map.nails = p.map.nails
  ring : q.ring = p.ring.begunBy w.origin
  inFlight : q.disp.inFlight = p.disp.inFlight.set e (some x)
  entry : x.origin = w.origin
  queue : q.queue = { p.queue with reserved := p.queue.reserved + 1 }
  work : (q.engine e).work = some w
  active : (q.engine e).state = .active
  serves : (q.engine e).Serves
  others : ∀ f, f ≠ e → q.engine f = p.engine f

/-- The oldest PENDING step has failed at dispatch (R59). -/
structure Part.Failed (p q : Part) (i : Nat) : Prop where
  nails : q.map.nails = p.map.nails
  ring : q.ring = p.ring.endedBy (some i)
  inFlight : q.disp.inFlight = p.disp.inFlight
  scan : q.scanner.scan = p.scanner.scan
  queue : p.queue.Within q.queue 1
  engines : q.engines = p.engines

/-- What an invariant about the work in hand is kept by on the Scanner's side. -/
structure ScanKept (J : Ev → Prop) : Prop where
  tuned : ∀ {v w : Ev}, J v → v.Tuned w → J w
  requeued : ∀ {v w : Ev} {n : Nat}, J v → n = 0 ∨ (n = 1 ∧ v.p.recordFree = true) → v.p.Requeued w.p n →
    w.completions = v.completions → J w
  scanEnded : ∀ {v w : Ev} {info : ScanInfo} {c : Completion}, J v → v.p.scanner.scan = some info →
    v.p.Ended w.p info.engine info.origin → w.p.scanner.scan = none → w.completions = v.completions ++ [c] →
    c.engine = info.engine → J w

/-- What an invariant about the work in hand is kept by. -/
structure WorkKept (J : Ev → Prop) : Prop extends ScanKept J where
  stepEnded : ∀ {v u : Ev} {e : EngineId} {w : Work} {c : Completion}, J v → (v.p.engine e).work = some w →
    (v.p.QueueOk → w.record.kind ≠ .scan) → v.p.Ended u.p e w.origin → u.p.scanner.scan = v.p.scanner.scan →
    u.completions = v.completions ++ [c] → c.engine = e → J u
  began : ∀ {v u : Ev} {e : EngineId} {x : Entry} {w : Work}, J v → v.completions = [] → u.completions = [] →
    v.p.recordFree = true → (v.p.engine e).state = .idle → (∀ i, w.origin = some i → i ∈ v.p.ring.pendingSlots) →
    v.p.Began u.p e x w → (w.record.kind ≠ .scan → u.p.scanner.scan = v.p.scanner.scan) →
    (w.record.kind = .scan → u.p.scanner.scan = some ⟨w.origin, e, w.record⟩) → J u
  failed : ∀ {v u : Ev} {i : Nat} {rest : List Nat}, J v → v.p.ring.pendingSlots = i :: rest → v.p.recordFree = true →
    v.p.Failed u.p i → u.completions = v.completions → J u
  replanned : ∀ {v : Ev} {e : EngineId} {x y : Entry}, J v → v.p.disp.inFlight.get e = some x → y.origin = x.origin →
    J (v.map fun p => p.setEntry e (some y))
  released : ∀ {v : Ev} {c : Completion} {rest : List Completion}, J v → v.completions = c :: rest →
    J (({ v with completions := rest } : Ev).releaseStep c)
  restarted : ∀ (v : Ev) (cause : ResetCause), J v → J (v.map fun p => p.restart cause)
  discarded : ∀ (v : Ev), J v → J (v.map fun p => p.onRing Ring.discardPending)

/-! ### The Scanner -/

theorem Ev.onScanner_tuned (v : Ev) {f : Scanner → Scanner} (h : (f v.p.scanner).scan = v.p.scanner.scan) :
    v.Tuned (v.onScanner f) := v.map_tuned (Part.tuned_of_eq rfl rfl rfl h rfl rfl)

/-- The end of a scan is nothing, or the end of its step (R158, R159). -/
theorem Ev.endScan_ended (v : Ev) (verdict : Verdict) (cause : Option Cause) (card : Option Nat) (faulted : Bool) :
    (v.p.scanner.scan = none ∧ v.endScan verdict cause card faulted = v) ∨
    ∃ info, v.p.scanner.scan = some info ∧ v.p.Ended (v.endScan verdict cause card faulted).p info.engine info.origin ∧
      (v.endScan verdict cause card faulted).p.scanner.scan = none ∧
      ∃ c, (v.endScan verdict cause card faulted).completions = v.completions ++ [c] ∧ c.engine = info.engine := by
  unfold Ev.endScan
  split
  next h => exact .inl ⟨h, rfl⟩
  next info h =>
    refine .inr ⟨info, h, ?_⟩
    obtain ⟨q, hp, hq, hc⟩ := v.appendFinal_spec (v.p.scanner.summary info verdict cause)
    have hoff := (v.appendFinal (v.p.scanner.summary info verdict cause)).turnOff_tuned info.engine
    dsimp only
    generalize hw : (v.appendFinal (v.p.scanner.summary info verdict cause)).turnOff info.engine = w at hoff ⊢
    have hnails : w.p.map.nails = v.p.map.nails := by rw [hoff.part.nails, hp]
    have hring : w.p.ring = v.p.ring := by rw [hoff.part.ring, hp]
    have hflight : w.p.disp.inFlight = v.p.disp.inFlight := by rw [hoff.part.inFlight, hp]
    have hqueue : w.p.queue = q := by rw [hoff.part.queue, hp]
    have hengines : ∀ f, (v.p.engine f).Tuned (w.p.engine f) := fun f => by
      have := hoff.part.engines f
      rwa [hp] at this
    have hothers : ∀ f, f ≠ info.engine → (v.p.engine f).Tuned
        ((w.onEngine info.engine fun g => g.ended faulted).p.engine f) := fun f hf => by
      rw [Ev.onEngine_p, Part.engine_setEngine_ne _ _ _ _ hf]; exact hengines f
    have hgone : ((w.onEngine info.engine fun g => g.ended faulted).p.engine info.engine).work = none := by
      rw [Ev.onEngine_p, Part.engine_setEngine_same]; rfl
    have hcompletions : w.completions = v.completions := hoff.completions.trans hc
    cases horigin : info.origin with
    | none => exact ⟨⟨hnails, hring, hflight, hqueue ▸ hq, hgone, hothers⟩, rfl, _, congrArg (· ++ [_]) hcompletions, rfl⟩
    | some i =>
      exact ⟨⟨hnails, congrArg (fun r : Ring => ((r.setState i .done).advanceNext).retire) hring, hflight, hqueue ▸ hq,
        hgone, hothers⟩, rfl, _, congrArg (· ++ [_]) hcompletions, rfl⟩

section
variable {J : Ev → Prop} (h : ScanKept J)
include h

theorem ScanKept.endScan {v : Ev} (hv : J v) (verdict : Verdict) (cause : Option Cause) (card : Option Nat)
    (faulted : Bool) : J (v.endScan verdict cause card faulted) := by
  rcases v.endScan_ended verdict cause card faulted with ⟨_, heq⟩ | ⟨info, hscan, hended, hgone, c, hcompletions, hc⟩
  · rwa [heq]
  · exact h.scanEnded hv hscan hended hgone hcompletions hc

theorem ScanKept.onScanner {v : Ev} (hv : J v) {f : Scanner → Scanner} (hf : (f v.p.scanner).scan = v.p.scanner.scan) :
    J (v.onScanner f) := h.tuned hv (v.onScanner_tuned hf)

theorem ScanKept.startTest {v : Ev} (hv : J v) (purpose : TestPurpose) (first last : Nat) :
    J (v.startTest purpose first last) := by
  unfold Ev.startTest
  dsimp only
  split
  next info probe _ _ =>
    split
    · exact h.endScan hv _ _ _ _
    · split
      · exact h.endScan hv _ _ _ _
      next plan _ =>
        refine h.tuned (h.tuned (h.onScanner (h.tuned hv (v.sendPlan_tuned info.engine plan)) rfl)
          (Ev.onEngine_tuned _ info.engine (Engine.tuned_to_phase rfl rfl rfl ?_ ?_))) (Ev.judgeReady_tuned _ info.engine)
        · simp
        · simp [Engine.quietDown]
  · exact hv

theorem ScanKept.appended {v : Ev} (hv : J v) (hfree : v.p.recordFree = true) (r : ResultRecord) : J (v.append r) := by
  obtain ⟨q, hp, hq, hc⟩ := v.append_spec r
  exact h.requeued hv (.inr ⟨rfl, hfree⟩) ⟨by rw [hp], by rw [hp], by rw [hp], by rw [hp], by rw [hp]; exact hq, by rw [hp]⟩ hc

theorem ScanKept.appendPair {v : Ev} (hv : J v) (hfree : v.p.recordFree = true) (partner : Nat) (x : Evidence) :
    J (v.appendPair partner x).1 := by
  unfold Ev.appendPair
  dsimp only
  split
  · exact hv
  next info _ =>
    have hpaired := h.onScanner (h.appended hv hfree (v.p.scanner.pairRecord info partner x))
      (f := fun s => { s.mark partner (.joined (s.netAt (s.probe.getD 0))) with pairs := s.pairs + 1 }) rfl
    split
    · exact h.endScan hpaired _ _ _ _
    · exact hpaired

theorem ScanKept.reportPartner {v : Ev} (hv : J v) (partner : Nat) (x : Evidence) : J (v.reportPartner partner x).1 := by
  unfold Ev.reportPartner
  split
  next hfree => exact h.appendPair hv hfree partner x
  · dsimp only
    have hwaits := h.onScanner hv (f := fun s => { s with state := .waitingSpace, pendingPair := some (partner, x) }) rfl
    split
    · dsimp only
      refine h.tuned hwaits (Ev.onEngine_tuned _ _ (Engine.tuned_to_phase rfl rfl rfl ?_ ?_))
      · simp
      · simp
    · exact hwaits

theorem ScanKept.takeKnownShort {v : Ev} (hv : J v) (entry : StackEntry) (x : Evidence) :
    J (v.takeKnownShort entry x).1 := by
  unfold Ev.takeKnownShort
  split
  · exact hv
  · exact h.reportPartner hv _ x
  · exact h.startTest hv _ _ _

theorem ScanKept.nextWorkAux (n : Nat) {v : Ev} (hv : J v) : J (v.nextWorkAux n) := by
  induction n generalizing v with
  | zero => exact hv
  | succ n ih =>
    unfold Ev.nextWorkAux
    dsimp only
    split
    next top rest _ =>
      have hpopped := h.onScanner hv (f := fun s => { s with stack := rest }) rfl
      split
      next x _ =>
        have htaken := h.takeKnownShort hpopped top x
        split
        · exact ih htaken
        · exact htaken
      · split
        · exact ih hpopped
        · exact h.startTest hpopped _ _ _
    · split
      · exact h.endScan hv _ _ _ _
      next i _ =>
        have hprobed := h.onScanner hv (f := fun s => { s.mark i .probed with probe := some i }) rfl
        split
        · exact h.endScan hprobed _ _ _ _
        · exact h.startTest hprobed _ _ _

theorem ScanKept.nextWork {v : Ev} (hv : J v) : J v.nextWork := h.nextWorkAux _ hv

theorem ScanKept.push {v : Ev} (hv : J v) (x : StackEntry) : J (v.push x) := h.onScanner hv rfl

theorem ScanKept.testReport {v : Ev} (hv : J v) (report : TestReport) : J (v.testReport report) := by
  unfold Ev.testReport
  dsimp only
  split
  next info test _ _ =>
    have hcounted := h.onScanner hv (f := fun s => { s with test := none, tests := s.tests + 1 }) rfl
    split
    · exact h.nextWork (h.push hcounted _)
    · exact h.nextWork hcounted
    · exact h.nextWork (h.push (h.push hcounted _) _)
    · exact h.nextWork (h.push hcounted _)
    next entry x _ _ =>
      have htaken := h.takeKnownShort hcounted entry x
      split
      · exact h.nextWork htaken
      · exact htaken
    · exact h.nextWork hcounted
  · exact hv

theorem ScanKept.scannerRemoval {v : Ev} (hv : J v) : J v.scannerRemoval := by
  unfold Ev.scannerRemoval
  dsimp only
  split
  next partner x _ _ =>
    split
    next hfree =>
      have hreported := h.appendPair (h.onScanner hv (f := fun s => { s with state := .testing, pendingPair := none }) rfl)
        hfree partner x
      split
      · exact h.nextWork hreported
      · exact hreported
    · exact hv
  · exact hv

theorem ScanKept.handRemainder {v : Ev} (hv : J v) : J v.handRemainder := by
  unfold Ev.handRemainder
  split
  next hstand =>
    refine h.requeued (n := 0) hv (.inl rfl) ⟨rfl, rfl, rfl, rfl, ⟨rfl, ?_, ?_, ?_⟩, rfl⟩ rfl
    · simp [Part.takeBlock]
    · intro _ hne; simp only [Part.takeBlock, List.drop_length, List.length_nil] at hne ⊢; omega
    · intro _; exact Nat.mod_lt _ (by decide)
  · exact h.tuned hv ⟨.refl _, rfl⟩

end

end Sys2Proof.Machine

/-! PROOFS. The walk of an invariant about the work in hand through the engines and the Dispatcher, to the close of an
event. -/

namespace Sys2Proof.Machine

theorem Part.QueueOk.engineServes {p : Part} (h : p.QueueOk) (e : EngineId) : (p.engine e).Serves := by
  intro hscan
  unfold Engine.scanning at hscan
  split at hscan
  next w hw => exact h.serving e w hw (by simpa using hscan)
  · cases hscan

/-! ### Completions -/

theorem Engine.not_scanning_of_owesDischarge {g : Engine} (hg : g.owesDischarge = true) : g.scanning = false := by
  simp only [Engine.owesDischarge, Bool.and_eq_true] at hg
  have hcap := hg.1
  unfold Engine.isCap at hcap
  split at hcap
  next w hw =>
    have hk : w.record.kind = .cap := by simpa using hcap
    simp [Engine.scanning_of_work hw, hk]
  · cases hcap

/-- The completion of a step is nothing, or the end of its engine's step (R122). -/
theorem Ev.completeStep_ended (v : Ev) (e : EngineId) (f : Formed) (cause : Option Cause) (card : Option Nat)
    (faulted : Bool) : v.completeStep e f cause card faulted = v ∨
    ∃ w c, (v.p.engine e).work = some w ∧ v.p.Ended (v.completeStep e f cause card faulted).p e w.origin ∧
      (v.completeStep e f cause card faulted).p.scanner.scan = v.p.scanner.scan ∧
      (v.completeStep e f cause card faulted).completions = v.completions ++ [c] ∧ c.engine = e := by
  unfold Ev.completeStep
  split
  · exact .inl rfl
  next w hw =>
    refine .inr ⟨w, ⟨e, w.origin, w.record, f.verdict, cause, card⟩, hw, ?_⟩
    have hoff := v.turnOff_tuned e
    dsimp only
    generalize v.turnOff e = t at hoff ⊢
    obtain ⟨q, hp, hq, hc⟩ := t.appendFinal_spec ((t.p.engine e).finalRecord e w f cause)
    generalize t.appendFinal ((t.p.engine e).finalRecord e w f cause) = u at hp hc ⊢
    have hnails : u.p.map.nails = v.p.map.nails := by rw [hp]; exact hoff.part.nails
    have hring : u.p.ring = v.p.ring := by rw [hp]; exact hoff.part.ring
    have hflight : u.p.disp.inFlight = v.p.disp.inFlight := by rw [hp]; exact hoff.part.inFlight
    have hscan : u.p.scanner.scan = v.p.scanner.scan := by rw [hp]; exact hoff.part.scan
    have hqueue : ({ v.p.queue with reserved := v.p.queue.reserved - 1 } : ResultQueue).Within u.p.queue 1 := by
      rw [hp, ← hoff.part.queue]; exact hq
    have hothers : ∀ g, g ≠ e → (v.p.engine g).Tuned ((u.onEngine e fun g => g.ended faulted).p.engine g) := fun g hg => by
      rw [Ev.onEngine_p, Part.engine_setEngine_ne _ _ _ _ hg, hp]
      exact hoff.part.engines g
    have hgone : ((u.onEngine e fun g => g.ended faulted).p.engine e).work = none := by
      rw [Ev.onEngine_p, Part.engine_setEngine_same]; rfl
    have hcompletions : u.completions = v.completions := hc.trans hoff.completions
    cases w.origin with
    | none => exact ⟨⟨hnails, hring, hflight, hqueue, hgone, hothers⟩, hscan, congrArg (· ++ [_]) hcompletions, rfl⟩
    | some i =>
      exact ⟨⟨hnails, congrArg (fun r : Ring => ((r.setState i .done).advanceNext).retire) hring, hflight, hqueue,
        hgone, hothers⟩, hscan, congrArg (· ++ [_]) hcompletions, rfl⟩

section
variable {J : Ev → Prop} (h : WorkKept J)
include h

/-- A step that serves no scan completes. -/
theorem WorkKept.completeStep {v : Ev} (hv : J v) (e : EngineId) (hnot : v.p.QueueOk → (v.p.engine e).scanning = false)
    (f : Formed) (cause : Option Cause) (card : Option Nat) (faulted : Bool) :
    J (v.completeStep e f cause card faulted) := by
  rcases v.completeStep_ended e f cause card faulted with heq | ⟨w, c, hw, hended, hscan, hcompletions, hc⟩
  · rwa [heq]
  · refine h.stepEnded hv hw (fun hok hk => ?_) hended hscan hcompletions hc
    have := hnot hok
    rw [Engine.scanning_of_work hw] at this
    simp [hk] at this

theorem WorkKept.afterOpen {v : Ev} (hv : J v) (e : EngineId) (hnot : v.p.QueueOk → (v.p.engine e).scanning = false)
    (hnot' : (v.p.engine e).Serves → (v.p.engine e).scanning = false) : J (v.afterOpen e) := by
  unfold Ev.afterOpen
  dsimp only
  split
  · exact hv
  · split
    · exact h.tuned hv (v.onEngine_tuned e (Engine.tuned_of_not_scanning rfl Iff.rfl hnot'))
    · exact h.completeStep hv e hnot _ _ _ _

theorem WorkKept.cardFault {v : Ev} (hv : J v) (e : EngineId) (card : Nat) : J (v.cardFault e card) := by
  unfold Ev.cardFault
  dsimp only
  split
  · have hoff := h.tuned hv (v.turnOff_tuned e)
    split
    · exact h.endScan hoff _ _ _ _
    next hnot => exact h.completeStep hoff e (fun _ => by rw [((v.turnOff_tuned e).part.engines e).scanning]; simpa using hnot) _ _ _ _
  · exact hv

theorem WorkKept.abortNow {v : Ev} (hv : J v) (e : EngineId) (cause : Cause) : J (v.abortNow e cause) := by
  unfold Ev.abortNow
  dsimp only
  have hoff : v.Tuned ((v.onEngine e fun g => { g with abort := some (cause, false) }).turnOff e) :=
    Ev.Tuned.trans (v := v.onEngine e fun g => { g with abort := some (cause, false) })
      (v.onEngine_same e (fun _ => rfl) (fun _ => rfl) (fun _ => rfl) (fun _ => rfl) fun _ => .inl rfl) (Ev.turnOff_tuned _ e)
  split
  · exact h.endScan (h.tuned hv hoff) _ _ _ _
  next hnot => exact h.completeStep (h.tuned hv hoff) e (fun _ => by rw [(hoff.part.engines e).scanning]; simpa using hnot) _ _ _ _

theorem WorkKept.abortWithDischarge {v : Ev} (hv : J v) (cause : Cause) (e : EngineId) :
    J (Ev.abortWithDischarge cause v e) := by
  unfold Ev.abortWithDischarge
  dsimp only
  split
  · exact hv
  · split
    next howes =>
      refine h.tuned hv (Ev.enterDischarge_from ((v.turnOff_tuned e).trans ?_) e .abortDischarge fun _ =>
        Engine.not_scanning_of_owesDischarge howes)
      exact Ev.onEngine_same _ e (fun _ => rfl) (fun _ => rfl) (fun _ => rfl) (fun _ => rfl) fun _ => .inl rfl
    · exact h.abortNow hv e cause

theorem WorkKept.abortWithoutDischarge {v : Ev} (hv : J v) (cause : Cause) (e : EngineId) :
    J (Ev.abortWithoutDischarge cause v e) := by
  unfold Ev.abortWithoutDischarge
  split
  · exact hv
  · exact h.abortNow hv e cause

end

theorem Ev.releaseStep_withCompletions (v : Ev) (c : Completion) (l : List Completion) :
    ({ v with completions := l } : Ev).releaseStep c = { v.releaseStep c with completions := l } := by
  cases hx : v.p.disp.inFlight.get c.engine with
  | none =>
    rw [Ev.releaseStep_of_none hx, Ev.releaseStep_of_none (v := { v with completions := l }) hx]
    unfold Ev.released
    dsimp only
    split
    · split <;> rfl
    · rfl
  | some x =>
    rw [Ev.releaseStep_of_some hx, Ev.releaseStep_of_some (v := { v with completions := l }) hx]
    unfold Ev.released
    dsimp only
    split
    · split <;> rfl
    · rfl

/-- A free order uses free choices alone. -/
theorem freeOrderAux_part {α : Type} (n : Nat) (p : Part) (l : List α) :
    ∃ k, (freeOrderAux n p l).2 = { p with free := k } := by
  induction n generalizing p l with
  | zero => exact ⟨p.free, rfl⟩
  | succ n ih =>
    match l with
    | [] => exact ⟨p.free, rfl⟩
    | [a] => exact ⟨p.free, rfl⟩
    | a :: b :: l =>
      obtain ⟨k, hk⟩ := ih (p.choose (a :: b :: l).length).2 ((a :: b :: l).eraseIdx (p.choose (a :: b :: l).length).1)
      exact ⟨k, hk⟩

section
variable {J : Ev → Prop} (h : WorkKept J)
include h

theorem WorkKept.abortAll {v : Ev} (hv : J v) {abort : Ev → EngineId → Ev} (habort : ∀ v e, J v → J (abort v e)) :
    J (v.abortAll abort) := by
  have hfold : ∀ (es : List EngineId) v, J v → J (es.foldl abort v) := by
    intro es
    induction es with
    | nil => exact fun _ hv => hv
    | cons e es ih => exact fun v hv => ih _ (habort v e hv)
  unfold Ev.abortAll Ev.activeEngines
  dsimp only
  refine hfold _ _ (h.tuned hv ⟨?_, rfl⟩)
  obtain ⟨k, hk⟩ := freeOrderAux_part (EngineId.all.filter fun e => decide ((v.p.engine e).state = .active)).length v.p
    (EngineId.all.filter fun e => decide ((v.p.engine e).state = .active))
  unfold freeOrder
  rw [hk]
  exact Part.tuned_of_eq rfl rfl rfl rfl rfl rfl

theorem WorkKept.takeAll {v : Ev} (hv : J v) {between : Ev → Ev} (hbetween : ∀ u : Ev, u.Tuned (between u)) :
    J (v.takeAll between) := by
  have hreleased : ∀ (cs : List Completion) (v : Ev), J { v with completions := cs } →
      J { cs.foldl Ev.releaseStep v with completions := [] } := by
    intro cs
    induction cs with
    | nil => exact fun _ hv => hv
    | cons c cs ih =>
      intro v hv
      refine ih (v.releaseStep c) ?_
      have hnext : J (({ v with completions := cs } : Ev).releaseStep c) :=
        h.released (v := { v with completions := c :: cs }) hv rfl
      rwa [Ev.releaseStep_withCompletions] at hnext
  have hcleared : ∀ (cs : List Completion) (v : Ev), v.completions = [] → (cs.foldl Ev.releaseStep v).completions = [] := by
    intro cs
    induction cs with
    | nil => exact fun _ hv => hv
    | cons c cs ih => exact fun v hv => ih _ (by rwa [Ev.releaseStep_completions])
  have hall := h.tuned (hreleased v.completions { v with completions := [] } hv)
    (w := v.completions.foldl Ev.releaseStep { v with completions := [] }) ⟨.refl _, hcleared _ _ rfl⟩
  unfold Ev.takeAll
  exact h.tuned hall ((hbetween _).trans (Ev.foldl_tuned Ev.judgeStep_tuned _ _))

end

/-! ### Dispatch -/

/-- Beginning a step is the beginning of its work (R64 steps 1 to 4). -/
theorem Part.beginStep_began (p : Part) (e : EngineId) (x : Entry) :
    ∃ w : Work, w.origin = x.origin ∧ w.record = x.record ∧ p.Began (p.beginStep e x) e x w ∧
      (p.beginStep e x).scanner = p.scanner := by
  refine ⟨⟨x.origin, x.record, x.nails, x.twoWire, x.guardTrimmed⟩, rfl, rfl, ?_⟩
  unfold Part.beginStep
  dsimp only
  generalize (if x.record.kind = .scan then (x.record.current, false)
    else p.effectiveCurrent x.record.current (x.record.high :: x.record.low :: x.guardNets)) = k
  cases horigin : x.origin with
  | none =>
    refine ⟨⟨rfl, rfl, rfl, horigin, rfl, ?_, ?_, ?_, ?_⟩, rfl⟩
    · rw [Part.engine_setEngine_same]; rfl
    · rw [Part.engine_setEngine_same]; rfl
    · rw [Part.engine_setEngine_same]; exact fun _ => ⟨rfl, by simp [Engine.take], fun _ => rfl⟩
    · exact fun f hf => by rw [Part.engine_setEngine_ne _ _ _ _ hf]; rfl
  | some i =>
    refine ⟨⟨rfl, rfl, rfl, horigin, rfl, ?_, ?_, ?_, ?_⟩, rfl⟩
    · rw [Part.engine_setEngine_same]; rfl
    · rw [Part.engine_setEngine_same]; rfl
    · rw [Part.engine_setEngine_same]; exact fun _ => ⟨rfl, by simp [Engine.take], fun _ => rfl⟩
    · exact fun f hf => by rw [Part.engine_setEngine_ne _ _ _ _ hf]; rfl

/-- A dispatch is nothing, or the beginning of the step's work and what leaves the work in hand; a scan goes on to its first
work (R64, R143). -/
theorem Ev.dispatch_begins (v : Ev) (e : EngineId) (origin : Option Nat) (r : StepRecord) :
    v.dispatch e origin r = v ∨ ∃ (u : Ev) (x : Entry) (w : Work), w.origin = origin ∧ w.record = r ∧ x.record = r ∧
      v.p.Began u.p e x w ∧ u.completions = v.completions ∧
      ((r.kind ≠ .scan ∧ u.p.scanner.scan = v.p.scanner.scan ∧ u.Tuned (v.dispatch e origin r)) ∨
        (r.kind = .scan ∧ u.p.scanner.scan = some ⟨origin, e, r⟩ ∧ v.dispatch e origin r = u.nextWork)) := by
  unfold Ev.dispatch
  split
  next hk =>
    obtain ⟨w, hw, hr, hb, _⟩ := v.p.beginStep_began e (v.p.entryOf origin r none)
    exact .inr ⟨(v.map fun p => p.beginStep e (p.entryOf origin r none)).onScanner fun _ =>
        { Scanner.reset with
          state := .testing, scan := some ⟨origin, e, r⟩
          members := (v.map fun p => p.beginStep e (p.entryOf origin r none)).p.scanList r },
      v.p.entryOf origin r none, w, hw, hr, rfl,
      ⟨hb.nails, hb.ring, hb.inFlight, hb.entry, hb.queue, hb.work, hb.active, hb.serves, hb.others⟩, rfl,
      .inr ⟨hk, rfl, rfl⟩⟩
  next hk =>
    split
    · exact .inl rfl
    next nails _ =>
      obtain ⟨w, hw, hr, hb, hscan⟩ := v.p.beginStep_began e (v.p.entryOf origin r (some nails))
      refine .inr ⟨v.map fun p => p.beginStep e (p.entryOf origin r (some nails)),
        v.p.entryOf origin r (some nails), w, hw, hr, rfl, hb, rfl, .inl ⟨hk, congrArg Scanner.scan hscan, ?_⟩⟩
      dsimp only
      refine (Ev.sendPlan_tuned _ e nails.pairs).trans (Ev.Tuned.trans ?_ (Ev.judgeReady_tuned _ e))
      exact Ev.onEngine_same _ e (fun _ => rfl) (fun _ => rfl) (fun _ => rfl) (fun _ => rfl) fun _ => .inl rfl

/-- A scan that has begun reports its own end alone. -/
structure Ev.ScansOn (e : EngineId) (x : Entry) (v : Ev) : Prop where
  completions : ∀ c ∈ v.completions, c.engine = e
  scan : ∀ info, v.p.scanner.scan = some info → info.engine = e
  inFlight : v.p.disp.inFlight.get e = some x

theorem scansOnKept (e : EngineId) (x : Entry) : ScanKept (Ev.ScansOn e x) where
  tuned hv h := ⟨fun c hc => hv.completions c (h.completions ▸ hc), fun i hi => hv.scan i (h.part.scan ▸ hi),
    h.part.inFlight ▸ hv.inFlight⟩
  requeued hv _ h hc := ⟨fun c hc' => hv.completions c (hc ▸ hc'), fun i hi => hv.scan i (h.scan ▸ hi),
    h.inFlight ▸ hv.inFlight⟩
  scanEnded hv hscan h hnone hc he := by
    refine ⟨fun c hc' => ?_, fun i hi => ?_, h.inFlight ▸ hv.inFlight⟩
    · rw [hc, List.mem_append, List.mem_singleton] at hc'
      rcases hc' with hc' | rfl
      · exact hv.completions c hc'
      · rw [he]; exact hv.scan _ hscan
    · rw [hnone] at hi; cases hi

theorem Part.windowFrom_subset (p : Part) (n : Nat) (oldest : Bool) (l : List Nat) :
    p.windowFrom n oldest l ⊆ l := by
  induction l generalizing n oldest with
  | nil => cases n <;> simp [Part.windowFrom]
  | cons i rest ih =>
    cases n with
    | zero => simp [Part.windowFrom]
    | succ n =>
      unfold Part.windowFrom
      split_ifs
      · simp
      · simp
      · exact List.cons_subset_cons i (ih n false)

/-- Every completion reported in an evaluation is that of a scan just dispatched, which lets nothing else run. -/
def Ev.AloneEnded (v : Ev) : Prop :=
  ∀ c ∈ v.completions, ∃ x, v.p.disp.inFlight.get c.engine = some x ∧ x.record.alone = true

theorem Ev.AloneEnded.none {v : Ev} (h : v.AloneEnded) {r : StepRecord} {oldest : Bool}
    (horder : v.p.orderMet r oldest = true) : v.completions = [] := by
  cases hc : v.completions with
  | nil => rfl
  | cons c rest =>
    obtain ⟨x, hx, halone⟩ := h c (hc ▸ List.mem_cons_self)
    simp only [Part.orderMet, Bool.and_eq_true, List.all_eq_true] at horder
    have hnot : (!x.record.alone) = true := horder.2 x (Part.mem_inFlight.mpr ⟨_, hx⟩)
    rw [halone] at hnot
    cases hnot

section
variable {J : Ev → Prop} (h : WorkKept J)
include h

theorem WorkKept.dispatch {v : Ev} (hv : J v) (hnone : v.completions = []) {e : EngineId} {origin : Option Nat}
    {r : StepRecord} (hfree : v.p.recordFree = true) (hidle : (v.p.engine e).state = .idle)
    (hpending : ∀ i, origin = some i → i ∈ v.p.ring.pendingSlots) :
    J (v.dispatch e origin r) ∧ (v.dispatch e origin r).AloneEnded := by
  rcases v.dispatch_begins e origin r with heq | ⟨u, x, w, rfl, rfl, hxr, hb, hc, hrest⟩
  · rw [heq]
    exact ⟨hv, by simp [Ev.AloneEnded, hnone]⟩
  · have hbegan : (w.record.kind ≠ .scan → u.p.scanner.scan = v.p.scanner.scan) →
        (w.record.kind = .scan → u.p.scanner.scan = some ⟨w.origin, e, w.record⟩) → J u :=
      h.began hv hnone (hc.trans hnone) hfree hidle hpending hb
    rcases hrest with ⟨hk, hscan, htuned⟩ | ⟨hk, hscan, heq⟩
    · refine ⟨h.tuned (hbegan (fun _ => hscan) fun hk' => absurd hk' hk) htuned, ?_⟩
      simp [Ev.AloneEnded, htuned.completions, hc, hnone]
    · rw [heq]
      refine ⟨h.nextWork (hbegan (fun hk' => absurd hk hk') fun _ => hscan), fun c hc' => ?_⟩
      have hon : u.ScansOn e x := ⟨by simp [hc, hnone], fun info hi => by rw [hscan] at hi; cases hi; rfl,
        by rw [hb.inFlight, PerEngine.get_set_same]⟩
      have hafter := (scansOnKept e x).nextWork hon
      exact ⟨x, by rw [hafter.completions c hc']; exact hafter.inFlight, by simp [StepRecord.alone, hxr, hk]⟩

theorem WorkKept.endDirect {v : Ev} (hv : J v) (hfree : v.p.recordFree = true) (r : StepRecord) (verdict : Verdict)
    (cause : Cause) : J (v.endDirect r verdict cause) ∧ (v.endDirect r verdict cause).completions = v.completions ∧
      (v.endDirect r verdict cause).p.disp.inFlight = v.p.disp.inFlight := by
  obtain ⟨q, hp, hq, hc⟩ := (v.map Part.reserve).appendFinal_spec (unservedRecord none r verdict cause)
  have hp' : (v.endDirect r verdict cause).p =
      { v.p with queue := q, disp := { v.p.disp with direct := none } } := by
    unfold Ev.endDirect
    dsimp only [Ev.map_p]
    rw [hp]
    rfl
  refine ⟨h.requeued hv (.inr ⟨rfl, hfree⟩) ⟨?_, ?_, ?_, ?_, ?_, ?_⟩ hc, hc, ?_⟩
  all_goals rw [hp']
  exact hq

theorem WorkKept.judgeDirect {v : Ev} (hv : J v) (hnone : v.completions = []) :
    J v.judgeDirect ∧ v.judgeDirect.AloneEnded := by
  rcases v.judgeDirect_cases with heq | ⟨r, verdict, cause, heq, hfree⟩ | ⟨r, e, heq, _, _, hserved, hidle⟩
  · rw [heq]; exact ⟨hv, by simp [Ev.AloneEnded, hnone]⟩
  · obtain ⟨hJ, hc, _⟩ := h.endDirect hv hfree r verdict cause
    rw [heq]; exact ⟨hJ, by simp [Ev.AloneEnded, hc, hnone]⟩
  · rw [heq]
    simp only [Part.served, Bool.and_eq_true] at hserved
    simp only [Part.idleEngines, List.mem_filter, Bool.and_eq_true, decide_eq_true_eq] at hidle
    exact h.dispatch hv hnone hserved.2 hidle.2.2 nofun

theorem WorkKept.judgeFailure {v : Ev} (hv : J v) (halone : v.AloneEnded) :
    J v.judgeFailure ∧ v.judgeFailure.AloneEnded := by
  rcases v.judgeFailure_cases with heq | ⟨i, rest, r, cause, net, _, hpending, _, _, _, hfree, heq⟩
  · rw [heq]; exact ⟨hv, halone⟩
  · obtain ⟨q, hp, hq, hc⟩ := (v.map Part.reserve).appendFinal_spec (unservedRecord (some i) r .fault cause)
    have hfp : (v.failed i r cause).p = ({ v.p.reserve with queue := q } : Part).slotDone i := by
      rw [Ev.failed_p, hp]; rfl
    have hfc : (v.failed i r cause).completions = v.completions := by
      unfold Ev.failed; dsimp only; split <;> exact hc
    have hfailed : J (v.failed i r cause) := h.failed hv hpending hfree
      ⟨by rw [hfp]; rfl, by rw [hfp]; rfl, by rw [hfp]; rfl, by rw [hfp]; rfl, by rw [hfp]; exact hq, by rw [hfp]; rfl⟩ hfc
    have hhalted := (v.failed i r cause).haltingError_tuned ⟨cause, some i, some r.tag, none, none, net, 0⟩
    rw [heq]
    refine ⟨h.tuned hfailed hhalted, fun c hc' => ?_⟩
    rw [hhalted.completions, hfc] at hc'
    obtain ⟨x, hx, hxa⟩ := halone c hc'
    exact ⟨x, by rw [hhalted.part.inFlight, hfp]; exact hx, hxa⟩

theorem WorkKept.evaluate {v : Ev} (hv : J v) (hnone : v.completions = []) : J v.evaluate := by
  obtain ⟨hdirect, halone⟩ := h.judgeDirect hv hnone
  obtain ⟨hfailure, halone⟩ := h.judgeFailure hdirect halone
  refine (Ev.dispatchEligible_keeps (J := fun v => J v ∧ v.AloneEnded) ?_ 5 ⟨hfailure, halone⟩).1
  rintro v i r e nets oldest ⟨hv, halone⟩ hi _ hel hidle
  obtain ⟨_, _, horder, hserved⟩ := Part.eligible_spec hel
  simp only [Part.served, Bool.and_eq_true] at hserved
  simp only [Part.idleEngines, List.mem_filter, Bool.and_eq_true, decide_eq_true_eq] at hidle
  refine h.dispatch hv (halone.none horder) hserved.2 hidle.2.2 fun j hj => ?_
  cases hj
  exact v.p.windowFrom_subset _ _ _ hi

theorem WorkKept.close {v : Ev} (hv : J v) : ∃ u : Ev, J u ∧ u.p.Tuned v.close := by
  refine ⟨v.settle settleFuel, ?_, ?_⟩
  · refine Ev.settle_keeps ?_ ?_ ?_ ?_ _ hv
    · exact fun v c rest hv hc => h.tuned (h.released hv hc) (Ev.judgeStep_tuned _ c)
    · exact fun v hv _ => h.scannerRemoval (h.tuned hv ⟨.refl _, rfl⟩)
    · exact fun v hv hc => h.evaluate (v := { v with askEvaluate := false }) (h.tuned hv ⟨.refl _, rfl⟩) hc
    · exact fun v hv _ => h.handRemainder hv
  · unfold Ev.close
    exact Part.tuned_of_eq (by simp) (by simp) (by simp) (by simp) (by simp) (by simp)

end

end Sys2Proof.Machine

/-! PROOFS. The walk of an invariant about the work in hand through the acts of an event, and the owners that leave the work
in hand as it was. -/

namespace Sys2Proof.Machine

section
variable {J : Ev → Prop} (h : WorkKept J)
include h

/-- Whatever is beside the work in hand may change. -/
theorem WorkKept.beside {v : Ev} (hv : J v) {f : Part → Part} (hf : v.p.Tuned (f v.p)) : J (v.map f) :=
  h.tuned hv (v.map_tuned hf)

/-! ### The interlock -/

theorem WorkKept.undock {v : Ev} (hv : J v) : J v.undock := by
  unfold Ev.undock
  refine h.tuned (h.takeAll (h.tuned (h.abortAll (h.tuned hv ?_) fun v e hv => h.abortWithoutDischarge hv _ e)
    (Ev.map_tuned _ ?_)) fun u => u.haltingError_tuned _) ⟨.refl _, rfl⟩
  · exact (v.map_tuned (Part.tuned_of_eq rfl rfl rfl rfl rfl rfl)).trans
      ((Ev.map_tuned _ (Part.tuned_of_eq rfl rfl rfl rfl rfl rfl)).trans (Ev.look_tuned _))
  · rcases Part.endWaitingDirect_eq _ .fixtureRemoved with heq | ⟨d, _, heq⟩
    · rw [heq]; exact .refl _
    · rw [heq]; exact Part.tuned_of_eq rfl rfl rfl rfl rfl rfl

theorem WorkKept.vacuumLost {v : Ev} (hv : J v) : J v.vacuumLost := by
  have hnoted : ∀ n, v.Tuned ((v.map fun p => p.onLock fun k => { k with vacuum := false }).noteFirst n) :=
    fun _ => ⟨Part.tuned_of_eq rfl rfl rfl rfl rfl rfl, rfl⟩
  unfold Ev.vacuumLost
  dsimp only
  split
  · refine h.tuned (h.tuned (h.takeAll (h.tuned (h.tuned (h.abortAll (h.tuned hv (hnoted _)) fun v e hv =>
      h.abortWithDischarge hv _ e) (Ev.map_tuned _ ?_)) (Ev.releaseAll_tuned _)) fun u => u.haltingError_tuned _)
      (Ev.judgeStopped_tuned _)) ⟨.refl _, rfl⟩
    rcases Part.endWaitingDirect_eq _ .vacuumLost with heq | ⟨d, _, heq⟩
    · rw [heq]; exact .refl _
    · rw [heq]; exact Part.tuned_of_eq rfl rfl rfl rfl rfl rfl
  · exact h.tuned hv (hnoted _)

theorem WorkKept.debounced (line : FixtureLine) {v : Ev} (hv : J v) : J (v.debounced line) := by
  unfold Ev.debounced
  dsimp only
  split
  · exact hv
  next due _ =>
    have hbegun := h.beside hv (f := fun p => (p.reach due).onLock fun k =>
      k.setLine line ⟨(v.p.lock.line line).raw, (v.p.lock.line line).raw, none⟩)
      (Part.tuned_of_eq rfl rfl rfl rfl rfl rfl)
    unfold Ev.lineEvent
    split
    · exact h.tuned hbegun ⟨Part.tuned_of_eq rfl rfl rfl rfl rfl rfl, rfl⟩
    · exact h.undock hbegun
    · exact h.tuned hbegun ⟨Part.tuned_of_eq rfl rfl rfl rfl rfl rfl, rfl⟩
    · exact h.vacuumLost hbegun

/-! ### The engines -/

theorem WorkKept.endIntegrate {v : Ev} (hv : J v) (e : EngineId) : J (v.endIntegrate e) := by
  have hoff : v.Tuned (v.onEngine e fun g => { g with interval := none, stimulus := none }) :=
    v.onEngine_same e (fun _ => rfl) (fun _ => rfl) (fun _ => rfl) (fun _ => rfl) fun _ => .inl rfl
  unfold Ev.endIntegrate
  dsimp only
  split
  · exact h.tuned hv hoff
  next w hw =>
    split
    · exact h.testReport (h.tuned hv (hoff.trans (Ev.leaveQuiet_tuned _ e))) _
    next hk =>
      exact h.completeStep (h.tuned hv hoff) e (fun _ => by simp [Engine.scanning_of_work hw, hk]) _ _ _ _

theorem WorkKept.sampleArrives (e : EngineId) (sequence : Nat) (code : Int) {v : Ev} (hv : J v) :
    J (v.sampleArrives e sequence code) := by
  unfold Ev.sampleArrives
  dsimp only
  split
  · have htaken : J (v.onEngine e fun g => { g with request := none, timeout := none, clip := g.clip || isClip code }) :=
      h.tuned hv (v.onEngine_same e (fun _ => rfl) (fun _ => rfl) (fun _ => rfl) (fun _ => rfl) fun _ => .inl rfl)
    split
    · have hadded := h.tuned htaken (Ev.onEngine_same _ e (f := fun g =>
        { g with nullSum := g.nullSum + code, nullCount := g.nullCount + 1 }) (fun _ => rfl) (fun _ => rfl) (fun _ => rfl)
        (fun _ => rfl) fun _ => .inl rfl)
      split
      · refine h.tuned (h.tuned (h.tuned hadded ?_) (Ev.leaveQuiet_tuned _ e)) (Ev.enterSettle_tuned _ e)
        exact Ev.onEngine_same _ e (fun _ => rfl) (fun _ => rfl) (fun _ => rfl) (fun _ => rfl) fun _ => .inl rfl
      · exact h.tuned hadded (Ev.nextRequest_tuned _ e)
    · have hadded := h.tuned htaken (Ev.onEngine_same _ e (f := fun g =>
        { g with sampleSum := g.sampleSum + code, sampleCount := g.sampleCount + 1 }) (fun _ => rfl) (fun _ => rfl)
        (fun _ => rfl) (fun _ => rfl) fun _ => .inl rfl)
      split
      · exact h.endIntegrate hadded e
      · exact h.tuned hadded (Ev.nextRequest_tuned _ e)
    · exact htaken
  · exact hv

theorem WorkKept.intervalEnds (e : EngineId) {v : Ev} (hv : J v) : J (v.intervalEnds e) := by
  unfold Ev.intervalEnds
  split
  · exact hv
  next due _ =>
    have hended := h.tuned (h.beside hv (f := fun p => p.reach due) (Part.tuned_of_eq rfl rfl rfl rfl rfl rfl))
      (Ev.onEngine_same _ e (f := fun g => { g with interval := none }) (fun _ => rfl) (fun _ => rfl) (fun _ => rfl)
        (fun _ => rfl) fun _ => .inl rfl)
    dsimp only
    split
    · exact h.tuned hended (Ev.nextRequest_tuned _ e)
    · exact hended

theorem WorkKept.sampleTimesOut (e : EngineId) {v : Ev} (hv : J v) : J (v.sampleTimesOut e) := by
  unfold Ev.sampleTimesOut
  dsimp only
  split
  · exact hv
  next due _ =>
    have hoff : v.Tuned (((v.map fun p => p.reach due).turnOff e).onEngine e Engine.discardSums) :=
      (v.map_tuned (f := fun p => p.reach due) (Part.tuned_of_eq rfl rfl rfl rfl rfl rfl)).trans
        (Ev.turnOff_discard_tuned _ e)
    split
    · exact h.endScan (h.tuned hv hoff) _ _ _ _
    next hnot =>
      exact h.completeStep (h.tuned hv hoff) e (fun _ => by rw [(hoff.part.engines e).scanning]; simpa using hnot) _ _ _ _

theorem WorkKept.complianceReported (e : EngineId) {v : Ev} (hv : J v) : J (v.complianceReported e) := by
  unfold Ev.complianceReported
  dsimp only
  split
  · exact hv
  · split
    next hphase => exact h.tuned hv (Ev.endRamp_from (.refl v) e _ _ (Engine.not_scanning_of_phase hphase (by simp)))
    · have hoff := v.turnOff_discard_tuned e
      split
      · exact h.testReport (h.tuned hv hoff) _
      next hnot =>
        have hnot' : (((v.turnOff e).onEngine e Engine.discardSums).p.engine e).scanning = false := by
          rw [(hoff.part.engines e).scanning]; simpa using hnot
        exact h.afterOpen (h.tuned hv hoff) e (fun _ => hnot') fun _ => hnot'

theorem WorkKept.settled (e : EngineId) {v : Ev} (hv : J v) : J (v.settled e) := by
  unfold Ev.settled
  dsimp only
  split
  next due hphase _ =>
    have hended : v.Tuned ((v.map fun p => p.reach due).onEngine e fun g => { g with phaseWait := none }) :=
      (v.map_tuned (f := fun p => p.reach due) (Part.tuned_of_eq rfl rfl rfl rfl rfl rfl)).trans
        (Ev.onEngine_same _ e (fun _ => rfl) (fun _ => rfl) (fun _ => rfl) (fun _ => rfl) fun _ => .inl rfl)
    split
    · refine h.tuned hv (Ev.askStill_from hended e fun _ => .inr ?_)
      simp [Ev.onEngine_p, show (v.p.reach due).engine e = v.p.engine e from rfl, hphase]
    · exact h.tuned hv (hended.trans (Ev.enterIntegrate_tuned _ e))
  · exact hv

theorem WorkKept.discharged (e : EngineId) (crossed : Bool) {v : Ev} (hv : J v) : J (v.discharged e crossed) := by
  unfold Ev.discharged
  dsimp only
  split
  next due hphase _ =>
    exact h.tuned hv (Ev.enterRamp_from (v.map_tuned (Part.tuned_of_eq rfl rfl rfl rfl rfl rfl)) e crossed
      (Engine.not_scanning_of_phase hphase (by simp)))
  · exact hv

theorem WorkKept.rampLimited (e : EngineId) {v : Ev} (hv : J v) : J (v.rampLimited e) := by
  unfold Ev.rampLimited
  dsimp only
  split
  next due hphase _ =>
    exact h.tuned hv (Ev.endRamp_from (v.map_tuned (Part.tuned_of_eq rfl rfl rfl rfl rfl rfl)) e _ _
      (Engine.not_scanning_of_phase hphase (by simp)))
  · exact hv

theorem WorkKept.postDischarged (e : EngineId) {v : Ev} (hv : J v) : J (v.postDischarged e) := by
  unfold Ev.postDischarged
  dsimp only
  split
  next due f hphase _ _ =>
    have hended : v.Tuned ((v.map fun p => p.reach due).onEngine e fun g =>
        { g with phaseWait := none, dischargePath := false }) :=
      (v.map_tuned (f := fun p => p.reach due) (Part.tuned_of_eq rfl rfl rfl rfl rfl rfl)).trans
        (Ev.onEngine_same _ e (fun _ => rfl) (fun _ => rfl) (fun _ => rfl) (fun _ => rfl) fun _ => .inl rfl)
    have hphase' : (((v.map fun p => p.reach due).onEngine e fun g =>
        { g with phaseWait := none, dischargePath := false }).p.engine e).phase = some .postDischarge := by
      simp [Ev.onEngine_p, show (v.p.reach due).engine e = v.p.engine e from rfl, hphase]
    have hnot := Engine.not_scanning_of_phase hphase' (by simp)
    split
    · exact h.afterOpen (h.tuned hv hended) e (fun hok => hnot (hok.engineServes e)) hnot
    · exact h.completeStep (h.tuned hv hended) e (fun hok => hnot (hok.engineServes e)) _ _ _ _
  · exact hv

theorem WorkKept.abortDischarged (e : EngineId) {v : Ev} (hv : J v) : J (v.abortDischarged e) := by
  unfold Ev.abortDischarged
  dsimp only
  split
  next due hphase _ =>
    refine h.completeStep (h.beside hv (Part.tuned_of_eq rfl rfl rfl rfl rfl rfl)) e (fun hok => ?_) _ _ _ _
    have hserves : (v.p.engine e).Serves := hok.engineServes e
    exact Engine.not_scanning_of_phase hphase (by simp) hserves
  · exact hv

theorem WorkKept.crossed (e : EngineId) {v : Ev} (hv : J v) : J (v.crossed e) := by
  unfold Ev.crossed
  dsimp only
  split
  · exact h.tuned (h.beside hv (Part.tuned_of_eq rfl rfl rfl rfl rfl rfl)) (Ev.takeCapture_tuned _ e)
  · exact hv

theorem WorkKept.replanAsked (e : EngineId) {v : Ev} (hv : J v) : J (v.replanAsked e) := by
  unfold Ev.replanAsked
  dsimp only
  split
  next hasked =>
    have hnot := Engine.not_scanning_of_replan (g := v.p.engine e) (by rw [hasked]; simp)
    have hdeclined : J (v.onEngine e fun g => { g with replan := .declined }) :=
      h.tuned hv (v.onEngine_tuned e (Engine.tuned_of_not_scanning rfl Iff.rfl hnot))
    split
    · exact hdeclined
    next x hx =>
      split
      · exact hdeclined
      next n _ =>
        split
        · exact hdeclined
        · split
          · exact hdeclined
          next y hy =>
            have hreplanned := h.replanned hv hx (Part.replanned_keeps hy).1
            refine h.tuned hreplanned ((Ev.onEngine_from (Ev.sendPlan_tuned _ e _) e ?_).trans (Ev.judgeReady_tuned _ e))
            obtain ⟨hjob, hactive, _⟩ := (Ev.sendPlan_tuned (v.map fun p => p.setEntry e (some y)) e
              ((y.nails.map Nails.pairs).getD [])).part.engines e
            exact Engine.tuned_of_not_scanning hjob hactive hnot
  · exact hv

theorem WorkKept.replanTaken (e : EngineId) {v : Ev} (hv : J v) : J (v.replanTaken e) := by
  unfold Ev.replanTaken
  split
  next hreplan =>
    exact h.completeStep hv e (fun hok => Engine.not_scanning_of_replan (by rw [hreplan]; simp) (hok.engineServes e)) _ _ _ _
  next x hreplan _ =>
    refine h.tuned hv (v.onEngine_tuned e (Engine.tuned_of_not_scanning ?_ Iff.rfl
      (Engine.not_scanning_of_replan (by rw [hreplan]; simp))))
    unfold Engine.job
    cases (v.p.engine e).work <;> rfl
  · exact hv

/-! ### The matrix -/

theorem WorkKept.ackTimesOut {v : Ev} (hv : J v) : J v.ackTimesOut := by
  unfold Ev.ackTimesOut
  split
  next card image start _ =>
    have hfailed : ∀ n t, J (((v.map fun p => p.reach (start + Config.ackTimeoutTicks)).noteFirst n).map fun p =>
        { p with relay := { p.relay.failCard card with expired := t } }) := fun n t =>
      h.tuned hv ⟨Part.tuned_of_eq rfl rfl rfl rfl rfl rfl, rfl⟩
    refine h.tuned (h.tuned (h.tuned (h.tuned ?_ (Ev.foldl_tuned Ev.judgeReady_tuned _ _)) (Ev.settleLink_tuned _))
      (Ev.judgeStopped_tuned _)) ⟨.refl _, rfl⟩
    split
    · exact h.cardFault (hfailed _ _) _ _
    · exact hfailed _ _
  · exact hv

theorem WorkKept.queryEnds (answered : Bool) {v : Ev} (hv : J v) : J (v.queryEnds answered) := by
  unfold Ev.queryEnds
  split
  next position start openDue _ =>
    dsimp only
    split
    · exact h.tuned hv ⟨Part.tuned_of_eq rfl rfl rfl rfl rfl rfl, rfl⟩
    · unfold Ev.enumerated
      dsimp only
      refine h.tuned ?_ (Ev.settleLink_tuned _)
      exact h.tuned hv ⟨Part.tuned_of_eq rfl rfl rfl rfl rfl rfl, rfl⟩
  · exact hv

theorem WorkKept.acknowledged {v : Ev} (hv : J v) : J v.acknowledged := by
  unfold Ev.acknowledged
  split
  · split
    · exact h.tuned (h.beside hv (Part.tuned_of_eq rfl rfl rfl rfl rfl rfl)) (Ev.settleLink_tuned _)
    · exact hv
  · exact hv

theorem WorkKept.motionEnds (card : Nat) {v : Ev} (hv : J v) : J (v.motionEnds card) := by
  unfold Ev.motionEnds
  dsimp only
  split
  · exact h.tuned (h.tuned (h.tuned (h.beside hv (Part.tuned_of_eq rfl rfl rfl rfl rfl rfl)) (Ev.judgeAllReady_tuned _))
      (Ev.settleLink_tuned _)) (Ev.judgeStopped_tuned _)
  · exact hv

theorem WorkKept.allOpenEnds {v : Ev} (hv : J v) : J v.allOpenEnds := by
  unfold Ev.allOpenEnds
  split
  · exact h.beside hv (Part.tuned_of_eq rfl rfl rfl rfl rfl rfl)
  · exact h.tuned (h.tuned (h.tuned (h.beside hv (Part.tuned_of_eq rfl rfl rfl rfl rfl rfl)) (Ev.judgeAllReady_tuned _))
      (Ev.settleLink_tuned _)) (Ev.judgeStopped_tuned _)
  · exact hv

theorem WorkKept.holdExpires (e : EngineId) {v : Ev} (hv : J v) : J (v.holdExpires e) := by
  unfold Ev.holdExpires
  split
  · exact hv
  · exact h.tuned (h.beside hv (Part.tuned_of_eq rfl rfl rfl rfl rfl rfl)) (Ev.look_tuned _)

/-! ### The sequencer's requests -/

theorem WorkKept.stopFrom {v : Ev} (hv : J v) : J v.stopFrom := by
  unfold Ev.stopFrom
  split
  · exact h.tuned hv ⟨by rw [Ev.refuse_p]; exact .refl _, by simp⟩
  · have hentered : J ((v.reply .done).enterSeq .stopping) :=
      h.tuned (h.tuned hv ⟨by rw [Ev.reply_p]; exact .refl _, by simp⟩) (Ev.enterSeq_tuned _ _)
    exact h.tuned (h.takeAll (h.tuned (h.abortAll (h.discarded _ hentered) fun v e hv => h.abortWithDischarge hv _ e)
      (Ev.releaseAll_tuned _)) Ev.Tuned.refl) (Ev.judgeStopped_tuned _)

end

/-! ### The owners -/

/-- The owners that write the tables, the ring, the queue, or abort engines. -/
def writesWork : RequestKind → Bool
  | .mapNails | .mapUnmark | .mapClear | .stepWrite | .stepCommit | .ringReset | .stop | .resultsRead | .pace => true
  | _ => false

theorem Ev.refuse_tuned (v : Ev) (st : Status) (detail : Option Nat) : v.Tuned (v.refuse st detail) :=
  ⟨by rw [Ev.refuse_p]; exact .refl _, by simp⟩

theorem Ev.reply_tuned (v : Ev) (body : Reply) : v.Tuned (v.reply body) := ⟨by rw [Ev.reply_p]; exact .refl _, by simp⟩

theorem Ev.map_reply_tuned (v : Ev) {f : Part → Part} (hf : v.p.Tuned (f v.p)) (body : Reply) :
    v.Tuned ((v.map f).reply body) := (v.map_tuned hf).trans (Ev.reply_tuned _ body)

theorem Ev.judgeState_tuned (v : Ev) : v.Tuned v.judgeState := v.judgeKept_tuned.judgeState (.refl v)

theorem Ev.resumeFrom_tuned (v : Ev) : v.Tuned v.resumeFrom := by
  unfold Ev.resumeFrom
  split
  · exact v.refuse_tuned _ _
  · split
    · exact v.refuse_tuned _ _
    · have hentered := ((v.reply_tuned .done).trans (Ev.enterSeq_tuned _ .running)).trans (Ev.judgeState_tuned _)
      exact ⟨hentered.part, hentered.completions⟩

theorem Engine.cleared_tuned {g : Engine} (hg : g.state = .faulted) : g.Tuned g.cleared :=
  ⟨rfl, by simp [Engine.cleared, hg], id⟩

/-- Every other owner leaves the work in hand. -/
theorem owner_tuned {k : RequestKind} (hk : writesWork k = false) (b : List Byte) (v : Ev) : v.Tuned (owner k b v) := by
  have hrefuse := v.refuse_tuned
  have hwrite : ∀ (f : Part → Part) body, v.p.Tuned (f v.p) → v.Tuned ((v.map f).reply body) :=
    fun f body hf => v.map_reply_tuned hf body
  cases k with
  | fixtureQuery => exact v.reply_tuned _
  | status => exact v.reply_tuned _
  | timeRead => exact v.reply_tuned _
  | describe => exact v.reply_tuned _
  | partReset =>
    change v.Tuned (ownPartReset b v)
    unfold ownPartReset
    exact (v.reply_tuned .done).trans (Ev.map_tuned _ (Part.tuned_of_eq rfl rfl rfl rfl rfl rfl))
  | mapCursor =>
    change v.Tuned (ownMapCursor b v)
    unfold ownMapCursor
    dsimp only
    split
    · exact hrefuse _ _
    · exact hwrite _ _ (Part.tuned_of_eq rfl rfl rfl rfl rfl rfl)
  | mapRead =>
    change v.Tuned (ownMapRead b v)
    unfold ownMapRead
    dsimp only
    split
    · exact hrefuse _ _
    · exact hwrite _ _ (Part.tuned_of_eq rfl rfl rfl rfl rfl rfl)
  | mapNetattr =>
    change v.Tuned (ownMapNetattr b v)
    unfold ownMapNetattr
    dsimp only
    split_ifs
    · exact hrefuse _ _
    · exact hrefuse _ _
    · exact hwrite _ _ (Part.tuned_of_eq rfl rfl rfl rfl rfl rfl)
  | mapIdentity =>
    change v.Tuned (ownMapIdentity b v)
    unfold ownMapIdentity
    split
    · exact hrefuse _ _
    · exact hwrite _ _ (Part.tuned_of_eq rfl rfl rfl rfl rfl rfl)
  | mapFreeze =>
    change v.Tuned (ownMapFreeze b v)
    unfold ownMapFreeze
    split
    · exact hrefuse _ _
    · exact hwrite _ _ (Part.tuned_of_eq rfl rfl rfl rfl rfl rfl)
  | stepRead =>
    change v.Tuned (ownStepRead b v)
    unfold ownStepRead
    dsimp only
    split
    · exact hrefuse _ _
    · exact v.reply_tuned _
  | templateWrite =>
    change v.Tuned (ownTemplateWrite b v)
    unfold ownTemplateWrite
    dsimp only
    split_ifs
    · exact hrefuse _ _
    · exact hrefuse _ _
    · exact hrefuse _ _
    · exact hrefuse _ _
    · exact hrefuse _ _
    · exact hwrite _ _ (Part.tuned_of_eq rfl rfl rfl rfl rfl rfl)
  | templateRead =>
    change v.Tuned (ownTemplateRead b v)
    unfold ownTemplateRead
    dsimp only
    split
    · exact hrefuse _ _
    · exact v.reply_tuned _
  | run =>
    change v.Tuned (ownRun b v)
    unfold ownRun
    split_ifs
    · exact hrefuse _ _
    · exact hrefuse _ _
    · exact hrefuse _ _
    · split
      · exact hrefuse _ _
      · have hentered := fun st => (v.reply_tuned .done).trans (Ev.enterSeq_tuned _ st)
        dsimp only
        split
        · exact hentered _
        · exact ⟨(hentered .running).part, (hentered .running).completions⟩
  | pause =>
    have hentered := fun st => (v.reply_tuned .done).trans (Ev.enterSeq_tuned _ st)
    change v.Tuned (ownPause b v)
    unfold ownPause
    split
    · exact hentered _
    · exact hentered _
    · exact v.reply_tuned _
    · exact v.reply_tuned _
    · exact v.reply_tuned _
    · exact hrefuse _ _
    · exact hrefuse _ _
  | resume =>
    change v.Tuned (ownResume b v)
    unfold ownResume
    split
    · exact v.resumeFrom_tuned
    · exact v.resumeFrom_tuned
    all_goals exact hrefuse _ _
  | directStep =>
    change v.Tuned (ownDirectStep b v)
    unfold ownDirectStep
    split_ifs
    · exact hrefuse _ _
    · exact hrefuse _ _
    · exact hrefuse _ _
    · split
      · exact hrefuse _ _
      next r _ =>
        split
        · exact hrefuse _ _
        · have hset := hwrite (fun p => { p with disp := { p.disp with direct := some ⟨r, none⟩ } }) .done
            (Part.tuned_of_eq rfl rfl rfl rfl rfl rfl)
          exact ⟨hset.part, hset.completions⟩
  | relayQuery =>
    change v.Tuned (ownRelayQuery b v)
    unfold ownRelayQuery
    dsimp only
    split
    · exact hrefuse _ _
    · exact v.reply_tuned _
  | engineClear =>
    change v.Tuned (ownEngineClear b v)
    unfold ownEngineClear
    split
    · exact hrefuse _ _
    next e _ =>
      split
      · exact hrefuse _ _
      next hstate =>
        have hcleared := (v.onEngine_tuned e (Engine.cleared_tuned (by simpa using hstate))).trans (Ev.reply_tuned _ .done)
        exact ⟨hcleared.part, hcleared.completions⟩
  | errlogRead =>
    change v.Tuned (ownErrlogRead b v)
    unfold ownErrlogRead
    split
    · exact v.reply_tuned _
    next r _ =>
      have hread : ∀ body, v.Tuned ((v.reply body).map fun p => { p with log := ⟨none, 0⟩ }) := fun body =>
        (v.reply_tuned body).trans (Ev.map_tuned _ (Part.tuned_of_eq rfl rfl rfl rfl rfl rfl))
      dsimp only
      split
      · exact (hread _).trans (Ev.enterSeq_tuned _ _)
      · exact hread _
  | mapNails => cases hk
  | mapUnmark => cases hk
  | mapClear => cases hk
  | stepWrite => cases hk
  | stepCommit => cases hk
  | ringReset => cases hk
  | stop => cases hk
  | resultsRead => cases hk
  | pace => cases hk

section
variable {J : Ev → Prop} (h : WorkKept J)
include h

theorem WorkKept.ownResultsRead (b : List Byte) {v : Ev} (hv : J v) : J (ownResultsRead b v) := by
  unfold Machine.ownResultsRead
  dsimp only
  split
  · exact h.tuned hv (v.refuse_tuned _ _)
  · have htaken : J (v.map fun p => { p with queue :=
        { p.queue with records := v.p.queue.records.drop (byteAt b 0) } }) := by
      refine h.requeued (n := 0) hv (.inl rfl) ⟨rfl, rfl, rfl, rfl, ⟨rfl, ?_, ?_, id⟩, rfl⟩ rfl
      · simp
      · intro hshort hblock
        exact lt_of_le_of_lt (by simp) (hshort hblock)
    split
    · exact h.tuned htaken (Ev.reply_tuned _ _)
    · exact h.tuned (h.tuned htaken (Ev.reply_tuned _ _)) ⟨.refl _, rfl⟩

theorem WorkKept.ownPace (b : List Byte) {v : Ev} (hv : J v) : J (ownPace b v) := by
  unfold Machine.ownPace
  dsimp only
  split
  · exact h.tuned hv (v.refuse_tuned _ _)
  · refine h.tuned (v := if _ then _ else _) ?_ ⟨.refl _, rfl⟩
    split
    · obtain ⟨q, hp, _, h2, h3, h4, h5, h6⟩ := Ev.formBlocks_spec
        (((v.map fun p => p.setPace (byteAt b 0) (u32At b 1) (byteAt b 5)).reply
          (.settings (byteAt b 0) (u32At b 1) (byteAt b 5))).p.queue.records.length + 1)
        ((v.map fun p => p.setPace (byteAt b 0) (u32At b 1) (byteAt b 5)).reply
          (.settings (byteAt b 0) (u32At b 1) (byteAt b 5))) (Nat.le_succ _)
      simp only [Ev.reply_p] at hp h2 h3 h5
      refine h.requeued (n := 0) hv (.inl rfl) ⟨?_, ?_, ?_, ?_, ⟨?_, ?_, fun _ => ?_, ?_⟩, ?_⟩ (h6.trans (by simp))
      all_goals simp only [Ev.reply_p, hp]
      · simp
      · simp
      · simp [Part.setPace]
      · simp
      · exact h2
      · exact h3
      · exact h4
      · exact h5
      · simp
    next hsame =>
      refine h.tuned hv (v.map_reply_tuned (Part.tuned_of_eq (by simp) (by simp) rfl (by simp) ?_ (by simp)) _)
      have hblock : byteAt b 5 = v.p.queue.block := by simpa using hsame
      simp [Part.setPace, hblock]

theorem WorkKept.ownStop (b : List Byte) {v : Ev} (hv : J v) : J (ownStop b v) := by
  unfold Machine.ownStop
  split
  · exact h.stopFrom hv
  · exact h.stopFrom hv
  · exact h.stopFrom hv
  · exact h.stopFrom hv
  all_goals exact h.tuned hv (v.refuse_tuned _ _)

/-- The owners are to keep the invariant only where they write the tables or the ring. -/
theorem WorkKept.owner {K : Part → Prop}
    (hwrites : ∀ k ∈ [RequestKind.mapNails, .mapUnmark, .mapClear, .stepWrite, .stepCommit, .ringReset], ∀ b v,
      J v → K v.p → J (owner k b v)) (k : RequestKind) (b : List Byte) (v : Ev) (hv : J v) (hK : K v.p) :
    J (Machine.owner k b v) := by
  cases hk : writesWork k with
  | false => exact h.tuned hv (owner_tuned hk b v)
  | true =>
    cases k with
    | stop => exact h.ownStop b hv
    | resultsRead => exact h.ownResultsRead b hv
    | pace => exact h.ownPace b hv
    | mapNails => exact hwrites _ (by simp) b v hv hK
    | mapUnmark => exact hwrites _ (by simp) b v hv hK
    | mapClear => exact hwrites _ (by simp) b v hv hK
    | stepWrite => exact hwrites _ (by simp) b v hv hK
    | stepCommit => exact hwrites _ (by simp) b v hv hK
    | ringReset => exact hwrites _ (by simp) b v hv hK
    | _ => cases hk

/-! ### Every act -/

/-- What the event begins with of the part, kept but for the link, holds until a request reaches its owner. -/
theorem WorkKept.takeFrames {K : Part → Prop} (hlink : ∀ p l, K p → K { p with link := l })
    (howner : ∀ k b (v : Ev), J v → K v.p → J (Machine.owner k b v)) (n : Nat) {v : Ev} (hv : J v) (hK : K v.p) :
    J (v.takeFrames n) := by
  induction n generalizing v with
  | zero => exact hv
  | succ n ih =>
    unfold Ev.takeFrames
    split
    next f rest _ _ =>
      have hshort : v.Tuned (v.map fun p => p.onLink fun l => { l with buffer := rest }) :=
        v.map_tuned (Part.tuned_of_eq rfl rfl rfl rfl rfl rfl)
      dsimp only
      split
      · exact ih (h.tuned hv hshort) (hlink _ _ hK)
      · have htaken := h.tuned (h.tuned hv hshort) (Ev.map_tuned _
          (f := fun p => p.onLink fun l => { l with inProgress := some ⟨f.number, f.kind, false⟩ })
          (Part.tuned_of_eq rfl rfl rfl rfl rfl rfl))
        have hKtaken : K ((v.map fun p => p.onLink fun l => { l with buffer := rest }).map fun p =>
          p.onLink fun l => { l with inProgress := some ⟨f.number, f.kind, false⟩ }).p := hlink _ _ (hlink _ _ hK)
        generalize ((v.map fun p => p.onLink fun l => { l with buffer := rest }).map fun p =>
          p.onLink fun l => { l with inProgress := some ⟨f.number, f.kind, false⟩ }) = u at htaken hKtaken ⊢
        unfold Ev.judgeRequest
        split
        · exact h.tuned htaken (u.refuse_tuned _ _)
        · split
          · exact h.tuned htaken (u.refuse_tuned _ _)
          · split
            · split
              · exact h.tuned htaken (u.refuse_tuned _ _)
              · exact howner _ _ _ htaken hKtaken
            · exact howner _ _ _ htaken hKtaken
    · exact hv

theorem WorkKept.offer {K : Part → Prop} (hlink : ∀ p l, K p → K { p with link := l })
    (howner : ∀ k b (v : Ev), J v → K v.p → J (Machine.owner k b v)) (f : InFrame) {v : Ev} (hv : J v) (hK : K v.p) :
    J (v.offer f) := by
  unfold Ev.offer
  split
  · exact h.takeFrames hlink howner _ (h.beside hv (Part.tuned_of_eq rfl rfl rfl rfl rfl rfl)) (hlink _ _ hK)
  · exact hv

theorem WorkKept.sent {K : Part → Prop} (hlink : ∀ p l, K p → K { p with link := l })
    (howner : ∀ k b (v : Ev), J v → K v.p → J (Machine.owner k b v)) {v : Ev} (hv : J v) (hK : K v.p) : J v.sent := by
  have hdropped : J (v.map Part.dropSent) := h.beside hv (Part.tuned_of_eq rfl rfl rfl rfl rfl rfl)
  unfold Ev.sent
  split
  · exact hv
  · split
    · split
      · split
        · exact h.restarted v _ hv
        · exact h.takeFrames hlink howner _ (h.beside hv (Part.tuned_of_eq rfl rfl rfl rfl rfl rfl))
            (hlink _ _ (hlink _ _ hK))
      · exact hdropped
    · exact hdropped

/-- Each act of an event keeps an invariant about the work in hand that the owners keep. -/
theorem WorkKept.act {K : Part → Prop} (hlink : ∀ p l, K p → K { p with link := l })
    (howner : ∀ k b (v : Ev), J v → K v.p → J (Machine.owner k b v)) {f : Ev → Ev} (hf : EventAct f) {v : Ev}
    (hv : J v) (hK : K v.p) : J (f v) := by
  have hbeside : ∀ g : Part → Part, v.p.Tuned (g v.p) → J (v.map g) := fun g hg => h.beside hv hg
  cases hf with
  | powerOn => exact h.restarted v _ hv
  | takeByte b =>
    have hreceived := hbeside (fun p => p.onLink fun l => { l with
      receiver := (v.p.link.receiver.next b).1, interByte := l.receiver.waitAfter b p.time l.interByte })
      (Part.tuned_of_eq rfl rfl rfl rfl rfl rfl)
    unfold Ev.takeByte
    dsimp only
    split
    · exact h.offer hlink howner _ hreceived (hlink _ _ hK)
    · exact hreceived
  | interByteEnds =>
    unfold Ev.interByteEnds
    split
    · exact hv
    · exact hbeside _ (Part.tuned_of_eq rfl rfl rfl rfl rfl rfl)
  | sent => exact h.sent hlink howner hv hK
  | offer f => exact h.offer hlink howner f hv hK
  | rawChange line asserted => exact hbeside _ (Part.tuned_of_eq rfl rfl rfl rfl rfl rfl)
  | debounced line => exact h.debounced line hv
  | identityTransferred transfer =>
    unfold Ev.identityTransferred
    dsimp only
    split
    · obtain ⟨due, heq⟩ := v.p.reachTransfer_eq transfer
      refine h.tuned (hbeside (fun p => p.reachTransfer transfer) ?_) ⟨Part.tuned_of_eq rfl rfl rfl rfl rfl rfl, rfl⟩
      rw [heq]
      exact Part.tuned_of_eq rfl rfl rfl rfl rfl rfl
    · exact hv
  | identityLimited =>
    unfold Ev.identityLimited
    split
    · exact hv
    · exact h.tuned hv ⟨Part.tuned_of_eq rfl rfl rfl rfl rfl rfl, rfl⟩
  | edge => exact hbeside _ (Part.tuned_of_eq rfl rfl rfl rfl rfl rfl)
  | loss =>
    unfold Ev.loss
    split
    · exact h.tuned hv ⟨Part.tuned_of_eq rfl rfl rfl rfl rfl rfl, rfl⟩
    · exact hbeside _ (Part.tuned_of_eq rfl rfl rfl rfl rfl rfl)
    · exact hv
  | verified =>
    unfold Ev.verified
    split
    · exact hv
    · exact h.tuned hv ⟨Part.tuned_of_eq rfl rfl rfl rfl rfl rfl, rfl⟩
  | queryEnds answered => exact h.queryEnds answered hv
  | acknowledged => exact h.acknowledged hv
  | ackTimesOut => exact h.ackTimesOut hv
  | motionEnds card => exact h.motionEnds card hv
  | allOpenEnds => exact h.allOpenEnds hv
  | holdExpires e => exact h.holdExpires e hv
  | sampleArrives e n code => exact h.sampleArrives e n code hv
  | intervalEnds e => exact h.intervalEnds e hv
  | sampleTimesOut e => exact h.sampleTimesOut e hv
  | complianceReported e => exact h.complianceReported e hv
  | crossed e => exact h.crossed e hv
  | settled e => exact h.settled e hv
  | discharged e crossed => exact h.discharged e crossed hv
  | rampLimited e => exact h.rampLimited e hv
  | postDischarged e => exact h.postDischarged e hv
  | abortDischarged e => exact h.abortDischarged e hv
  | replanAsked e => exact h.replanAsked e hv
  | replanTaken e => exact h.replanTaken e hv

/-- Every step keeps an invariant of the part that the events keep as `J`. -/
theorem WorkKept.step {I K : Part → Prop} (hstart : ∀ p, I p → J (Ev.start p)) (hend : ∀ v, J v → I v.p)
    (hI : ∀ {p q : Part}, I p → p.Tuned q → I q) (hlink : ∀ p l, K p → K { p with link := l })
    (hfree : ∀ p n, K p → K { p with free := n })
    (hwrites : ∀ k ∈ [RequestKind.mapNails, .mapUnmark, .mapClear, .stepWrite, .stepCommit, .ringReset], ∀ b v,
      J v → K v.p → J (Machine.owner k b v))
    {s t : State} (hs : I s.part) (hK : K s.part) (hstep : step s = .next t) : I t.part := by
  rcases step_cases hstep with ⟨c, n, ht⟩ | ⟨card, due, n, ht⟩ | ⟨_, ht⟩
  · rw [ht]
    have hacted := h.act hlink (h.owner hwrites) (eventAct_actOf c) (v := Ev.start { s.part with free := n })
      (hstart _ (hI hs (Part.tuned_of_eq rfl rfl rfl rfl rfl rfl))) (hfree _ n hK)
    obtain ⟨u, hu, htuned⟩ := h.close hacted
    exact hI (hend u hu) htuned
  · rw [ht]; exact hI hs (Part.tuned_of_eq rfl rfl rfl rfl rfl rfl)
  · rw [ht]; exact hI hs (Part.tuned_of_eq rfl rfl rfl rfl rfl rfl)

end

end Sys2Proof.Machine

/-! PROOFS. The Result Queue keeps its bounds and its reservations are those of the steps the engines hold (R165, R167, R168,
R171). -/

namespace Sys2Proof.Machine

/-! ### How many engines hold work -/

theorem Part.worksHeld_congr {p q : Part} (h : ∀ e, (q.engine e).work.isSome = (p.engine e).work.isSome) :
    q.worksHeld = p.worksHeld := by
  unfold Part.worksHeld
  simp only [h]

theorem Part.worksHeld_eq (p : Part) : p.worksHeld = (p.engine .me0).work.isSome.toNat +
    (p.engine .me1).work.isSome.toNat + (p.engine .me2).work.isSome.toNat + (p.engine .me3).work.isSome.toNat := by
  unfold Part.worksHeld
  simp only [EngineId.all, ← List.countP_eq_length_filter, List.countP_cons, List.countP_nil, Bool.toNat, cond_eq_ite]
  omega

/-- An engine takes work, and the others keep theirs. -/
theorem Part.worksHeld_succ {p q : Part} {e : EngineId} (hp : (p.engine e).work.isSome = false)
    (hq : (q.engine e).work.isSome = true) (h : ∀ f, f ≠ e → (q.engine f).work.isSome = (p.engine f).work.isSome) :
    q.worksHeld = p.worksHeld + 1 := by
  rw [Part.worksHeld_eq, Part.worksHeld_eq]
  cases e with
  | me0 => rw [hp, hq, h .me1 nofun, h .me2 nofun, h .me3 nofun]; simp only [Bool.toNat_true, Bool.toNat_false]; omega
  | me1 => rw [hp, hq, h .me0 nofun, h .me2 nofun, h .me3 nofun]; simp only [Bool.toNat_true, Bool.toNat_false]; omega
  | me2 => rw [hp, hq, h .me0 nofun, h .me1 nofun, h .me3 nofun]; simp only [Bool.toNat_true, Bool.toNat_false]; omega
  | me3 => rw [hp, hq, h .me0 nofun, h .me1 nofun, h .me2 nofun]; rfl

theorem Engine.Tuned.work_isSome {g h : Engine} (hgh : g.Tuned h) : h.work.isSome = g.work.isSome := by
  have hjob := congrArg Option.isSome hgh.job
  simpa [Engine.job] using hjob

theorem Engine.Tuned.work_none {g h : Engine} (hgh : g.Tuned h) (hg : g.work = none) : h.work = none := by
  have hsome := hgh.work_isSome
  rw [hg] at hsome
  simpa using hsome

theorem Engine.Tuned.work_some {g h : Engine} (hgh : g.Tuned h) {w : Work} (hg : g.work = some w) :
    ∃ x, h.work = some x ∧ x.origin = w.origin ∧ x.record = w.record := by
  have hjob := hgh.job
  simp only [Engine.job, hg, Option.map_some, Option.map_eq_some_iff] at hjob
  obtain ⟨x, hx, heq⟩ := hjob
  exact ⟨x, hx, congrArg Prod.fst heq, congrArg Prod.snd heq⟩

/-! ### What the invariant is kept by -/

/-- An engine that holds a scan's work serves it, and one that is not ACTIVE holds none. -/
theorem Part.QueueOk.of_engines {q : Part} (hfits : q.queue.records.length + q.queue.reserved ≤ Config.records)
    (hreserved : q.queue.reserved = q.worksHeld) (hblock : q.queue.block ≠ 0 → q.queue.records.length < q.queue.block)
    (hnumber : q.queue.blockNumber < 65536) (hidle : ∀ e, (q.engine e).state ≠ .active → (q.engine e).work = none)
    (hscan : ∀ info, q.scanner.scan = some info → (q.engine info.engine).scanning = true)
    (hserves : ∀ e, (q.engine e).Serves) : q.QueueOk := by
  refine ⟨hfits, hreserved, hblock, hnumber, hidle, fun info hi => ?_, fun e w hw hk => hserves e ?_⟩
  · have hon := hscan info hi
    unfold Engine.scanning at hon
    split at hon
    next w hw => exact ⟨w, hw, by simpa using hon⟩
    · cases hon
  · simp [Engine.scanning_of_work hw, hk]

theorem Part.QueueOk.scanning {p : Part} (h : p.QueueOk) {info : ScanInfo} (hi : p.scanner.scan = some info) :
    (p.engine info.engine).scanning = true := by
  obtain ⟨w, hw, hk⟩ := h.scan info hi
  simp [Engine.scanning_of_work hw, hk]

/-- The work in hand stands, and the queue keeps its bounds with its reservations. -/
theorem Part.QueueOk.requeued {p q : Part} (h : p.QueueOk) (hengines : ∀ e, (p.engine e).Tuned (q.engine e))
    (hscan : q.scanner.scan = p.scanner.scan) {n : Nat} (hqueue : p.queue.Within q.queue n)
    (hfree : n = 0 ∨ (n = 1 ∧ p.recordFree = true)) : q.QueueOk := by
  refine .of_engines ?_ ?_ (hqueue.bound h.block) (hqueue.number h.number) (fun e he => ?_) (fun info hi => ?_)
    fun e => (hengines e).serves (h.engineServes e)
  · have hfits := h.fits
    have hcount := hqueue.count
    rw [hqueue.reserved]
    rcases hfree with rfl | ⟨rfl, hfree⟩
    · omega
    · have : p.queue.records.length + p.queue.reserved < Config.records := by simpa [Part.recordFree] using hfree
      omega
  · rw [hqueue.reserved, h.reserved]
    exact (Part.worksHeld_congr fun e => (hengines e).work_isSome).symm
  · exact (hengines e).work_none (h.idle e fun ha => he ((hengines e).active.mpr ha))
  · rw [hscan] at hi
    rw [(hengines _).scanning]
    exact h.scanning hi

theorem ResultQueue.Within.refl (a : ResultQueue) : a.Within a 0 := ⟨rfl, le_refl _, id, id⟩

theorem Part.QueueOk.tuned {p q : Part} (h : p.QueueOk) (hpq : p.Tuned q) : q.QueueOk :=
  h.requeued hpq.engines hpq.scan (n := 0) (hpq.queue ▸ .refl _) (.inl rfl)

/-- The step of an engine that held work has ended. -/
theorem Part.QueueOk.ended {p q : Part} (h : p.QueueOk) {e : EngineId} {origin : Option Nat} (hpq : p.Ended q e origin)
    (hwork : (p.engine e).work.isSome = true)
    (hscan : ∀ info, q.scanner.scan = some info → info.engine ≠ e ∧ p.scanner.scan = some info) : q.QueueOk := by
  have hheld : p.worksHeld = q.worksHeld + 1 :=
    Part.worksHeld_succ (e := e) (by rw [hpq.ended]; rfl) hwork fun f hf => ((hpq.others f hf).work_isSome).symm
  have hreserved := h.reserved
  have hreserved' := hpq.queue.reserved
  have hcount := hpq.queue.count
  dsimp only at hreserved' hcount
  refine .of_engines ?_ (by omega) (hpq.queue.bound h.block) (hpq.queue.number h.number) (fun f hf => ?_)
    (fun info hi => ?_) fun f => ?_
  · have hfits := h.fits
    omega
  · by_cases hfe : f = e
    · rw [hfe]; exact hpq.ended
    · exact (hpq.others f hfe).work_none (h.idle f fun ha => hf ((hpq.others f hfe).active.mpr ha))
  · obtain ⟨hne, hi⟩ := hscan info hi
    rw [(hpq.others _ hne).scanning]
    exact h.scanning hi
  · by_cases hfe : f = e
    · rw [hfe]; intro hs; simp [Engine.scanning, hpq.ended] at hs
    · exact (hpq.others f hfe).serves (h.engineServes f)

/-- A step has begun on an IDLE engine with a free record. -/
theorem Part.QueueOk.began {p q : Part} (h : p.QueueOk) {e : EngineId} {x : Entry} {w : Work} (hpq : p.Began q e x w)
    (hfree : p.recordFree = true) (hidle : (p.engine e).state = .idle)
    (hmeasures : w.record.kind ≠ .scan → q.scanner.scan = p.scanner.scan)
    (hscans : w.record.kind = .scan → q.scanner.scan = some ⟨w.origin, e, w.record⟩) : q.QueueOk := by
  have hnone : (p.engine e).work = none := h.idle e (by simp [hidle])
  have hheld : q.worksHeld = p.worksHeld + 1 :=
    Part.worksHeld_succ (by rw [hnone]; rfl) (by rw [hpq.work]; rfl) fun f hf => by rw [hpq.others f hf]
  have hfits : p.queue.records.length + p.queue.reserved < Config.records := by simpa [Part.recordFree] using hfree
  refine .of_engines ?_ ?_ ?_ ?_ (fun f hf => ?_) (fun info hi => ?_) fun f => ?_
  · rw [hpq.queue]; dsimp only; omega
  · rw [hpq.queue, hheld]; exact congrArg (· + 1) h.reserved
  · rw [hpq.queue]; exact h.block
  · rw [hpq.queue]; exact h.number
  · by_cases hfe : f = e
    · rw [hfe] at hf; exact absurd hpq.active hf
    · rw [hpq.others f hfe] at hf ⊢; exact h.idle f hf
  · by_cases hk : w.record.kind = .scan
    · rw [hscans hk] at hi
      cases hi
      simp [Engine.scanning_of_work hpq.work, hk]
    · rw [hmeasures hk] at hi
      have hon := h.scanning hi
      by_cases hie : info.engine = e
      · simp [hie, Engine.scanning, hnone] at hon
      · rwa [hpq.others _ hie]
  · by_cases hfe : f = e
    · rw [hfe]; exact hpq.serves
    · rw [hpq.others f hfe]; exact h.engineServes f

theorem Part.restart_queueOk (p : Part) (cause : ResetCause) : (p.restart cause).QueueOk := by
  have hnone : ∀ e, (p.restart cause).engine e = Engine.reset := fun e => by cases e <;> rfl
  refine .of_engines (Nat.zero_le _) ?_ (fun hb => absurd rfl hb) (Nat.zero_lt_succ _) (fun e _ => ?_) nofun fun e => ?_
  · rw [Part.worksHeld_eq, hnone, hnone, hnone, hnone]; rfl
  · rw [hnone]; rfl
  · rw [hnone]; intro hs; cases hs

theorem queueOkKept : WorkKept fun v => v.p.QueueOk where
  tuned hv h := hv.tuned h.part
  requeued hv hfree h _ := hv.requeued (fun e => by rw [Part.engine, Part.engine, h.engines]; exact .refl _) h.scan h.queue hfree
  scanEnded hv hscan h hnone _ _ := by
    obtain ⟨w, hw, _⟩ := hv.scan _ hscan
    exact hv.ended h (by rw [hw]; rfl) fun i hi => by rw [hnone] at hi; cases hi
  stepEnded {v u e w c} hv hw hk h hscan _ _ := by
    refine hv.ended h (by rw [hw]; rfl) fun info hi => ?_
    rw [hscan] at hi
    refine ⟨fun he => hk hv ?_, hi⟩
    obtain ⟨x, hx, hxk⟩ := hv.scan info hi
    rw [he, hw] at hx
    cases hx
    exact hxk
  began hv _ _ hfree hidle _ h hmeasures hscans := hv.began h hfree hidle hmeasures hscans
  failed hv _ hfree h _ :=
    hv.requeued (fun e => by rw [Part.engine, Part.engine, h.engines]; exact .refl _) h.scan h.queue (.inr ⟨rfl, hfree⟩)
  replanned hv _ _ := ⟨hv.fits, hv.reserved, hv.block, hv.number, hv.idle, hv.scan, hv.serving⟩
  released {v c rest} hv _ := by
    obtain ⟨nails, heq⟩ := ({ v with completions := rest } : Ev).releaseStep_p c
    rw [heq]
    exact ⟨hv.fits, hv.reserved, hv.block, hv.number, hv.idle, hv.scan, hv.serving⟩
  restarted v cause _ := v.p.restart_queueOk cause
  discarded v hv := ⟨hv.fits, hv.reserved, hv.block, hv.number, hv.idle, hv.scan, hv.serving⟩

/-! ### The owners that write the tables -/

/-- The owners that write the nail table or the ring leave the queue, the engines and the Scanner. -/
theorem owner_tables {k : RequestKind}
    (hk : k ∈ [RequestKind.mapNails, .mapUnmark, .mapClear, .stepWrite, .stepCommit, .ringReset]) (b : List Byte)
    (v : Ev) : (owner k b v).p.queue = v.p.queue ∧ (owner k b v).p.engines = v.p.engines ∧
      (owner k b v).p.scanner = v.p.scanner ∧ (owner k b v).completions = v.completions := by
  have hrefuse : ∀ st d, (v.refuse st d).p.queue = v.p.queue ∧ (v.refuse st d).p.engines = v.p.engines ∧
      (v.refuse st d).p.scanner = v.p.scanner ∧ (v.refuse st d).completions = v.completions := by simp
  have hreply : ∀ (f : Part → Part) body, (f v.p).queue = v.p.queue → (f v.p).engines = v.p.engines →
      (f v.p).scanner = v.p.scanner → ((v.map f).reply body).p.queue = v.p.queue ∧
        ((v.map f).reply body).p.engines = v.p.engines ∧ ((v.map f).reply body).p.scanner = v.p.scanner ∧
        ((v.map f).reply body).completions = v.completions := by
    intro f body h1 h2 h3
    simp [h1, h2, h3]
  have hrun : ∀ run, (v.p.writeRun run).queue = v.p.queue ∧ (v.p.writeRun run).engines = v.p.engines ∧
      (v.p.writeRun run).scanner = v.p.scanner := by
    intro run
    obtain ⟨nails, heq⟩ := v.p.writeRun_steady run
    rw [heq]
    exact ⟨rfl, rfl, rfl⟩
  simp only [List.mem_cons, List.not_mem_nil, or_false] at hk
  rcases hk with rfl | rfl | rfl | rfl | rfl | rfl
  · change (ownMapNails b v).p.queue = _ ∧ (ownMapNails b v).p.engines = _ ∧ (ownMapNails b v).p.scanner = _ ∧
      (ownMapNails b v).completions = _
    unfold ownMapNails
    dsimp only
    split_ifs
    · exact hrefuse _ _
    · exact hrefuse _ _
    · exact hrefuse _ _
    · exact hrefuse _ _
    · split
      · exact hrefuse _ _
      · split
        · exact hrefuse _ _
        · exact hrefuse _ _
        · exact hreply _ _ (hrun _).1 (hrun _).2.1 (hrun _).2.2
  · obtain ⟨nails, heq⟩ := Part.foldl_setNail_eq (fun x => { x.2 with condition := .good }) v.p.map.suspects v.p
    have hqueue := congrArg Part.queue heq
    have hengines := congrArg Part.engines heq
    have hscanner := congrArg Part.scanner heq
    exact hreply _ _ hqueue hengines hscanner
  · change (ownMapClear b v).p.queue = _ ∧ (ownMapClear b v).p.engines = _ ∧ (ownMapClear b v).p.scanner = _ ∧
      (ownMapClear b v).completions = _
    unfold ownMapClear
    split_ifs
    · exact hrefuse _ _
    · exact hrefuse _ _
    · exact hreply _ _ rfl rfl rfl
  · change (ownStepWrite b v).p.queue = _ ∧ (ownStepWrite b v).p.engines = _ ∧ (ownStepWrite b v).p.scanner = _ ∧
      (ownStepWrite b v).completions = _
    unfold ownStepWrite
    dsimp only
    split_ifs
    · exact hrefuse _ _
    · exact hrefuse _ _
    · exact hrefuse _ _
    · split
      · exact hrefuse _ _
      · exact hreply _ _ rfl rfl rfl
  · change (ownStepCommit b v).p.queue = _ ∧ (ownStepCommit b v).p.engines = _ ∧ (ownStepCommit b v).p.scanner = _ ∧
      (ownStepCommit b v).completions = _
    unfold ownStepCommit
    dsimp only
    split_ifs
    · exact hrefuse _ _
    · exact hrefuse _ _
    · exact hrefuse _ _
    · split
      · exact hrefuse _ _
      · rw [Ev.commitReported_eq]
        dsimp only
        split <;> simp [Ev.enterSeq_p]
  · change (ownRingReset b v).p.queue = _ ∧ (ownRingReset b v).p.engines = _ ∧ (ownRingReset b v).p.scanner = _ ∧
      (ownRingReset b v).completions = _
    unfold ownRingReset
    split
    · exact hrefuse _ _
    · exact hreply _ _ rfl rfl rfl

theorem owner_queueOk {k : RequestKind}
    (hk : k ∈ [RequestKind.mapNails, .mapUnmark, .mapClear, .stepWrite, .stepCommit, .ringReset]) (b : List Byte)
    {v : Ev} (h : v.p.QueueOk) : (owner k b v).p.QueueOk := by
  obtain ⟨hqueue, hengines, hscanner, _⟩ := owner_tables hk b v
  refine h.requeued (n := 0) (fun e => by rw [Part.engine, Part.engine, hengines]; exact .refl _) (by rw [hscanner])
    (hqueue ▸ .refl _) (.inl rfl)

/-- Settles O59: each record joins where one is free or in the place of its reservation, and a reservation is taken and
given back with the work of its engine. -/
theorem everyStepKeepsTheResultQueue : Obligations.EveryStepKeepsTheResultQueue := by
  intro s t hs hstep
  exact queueOkKept.step (I := Part.QueueOk) (K := fun _ => True) (fun _ h => h) (fun _ h => h) (fun h hpq => h.tuned hpq)
    (fun _ _ _ => trivial) (fun _ _ _ => trivial) (fun k hk b v hv _ => owner_queueOk hk b hv) hs trivial hstep

end Sys2Proof.Machine

/-! PROOFS. The ring (R36, R38 to R43): where positions stand from HEAD, what NEXT seeks, what a retirement sweep clears, and
that every ring operation keeps slots and positions in order. -/

namespace Sys2Proof.Machine

/-! ### Places in the ring -/

theorem Ring.offset_lt (r : Ring) (i : Nat) : r.offset i < 1024 := Nat.mod_lt _ (by decide)

theorem Ring.live_eq_offset (r : Ring) : r.live = r.offset r.commit := rfl

theorem Ring.isLive_iff (r : Ring) (i : Nat) : r.isLive i = true ↔ r.offset i < r.live := by
  simp [Ring.isLive, Ring.offset]

/-- The slot at a place counted from HEAD. -/
theorem Ring.offset_eq_iff {r : Ring} (hr : r.InRange) {i k : Nat} (hi : i < 1024) (hk : k < 1024) :
    r.offset i = k ↔ i = (r.head + k) % 1024 := by
  have hhead := hr.positions.1
  simp only [Ring.offset, Config.slots] at hhead ⊢
  omega

theorem Ring.offset_inj {r : Ring} (hr : r.InRange) {i j : Nat} (hi : i < 1024) (hj : j < 1024)
    (h : r.offset i = r.offset j) : i = j := by
  rw [(Ring.offset_eq_iff hr hi (r.offset_lt j)).mp h, ← (Ring.offset_eq_iff hr hj (r.offset_lt j)).mp rfl]

theorem Ring.offset_head {r : Ring} (hr : r.InRange) : r.offset r.head = 0 := by
  have hhead := hr.positions.1
  simp only [Ring.offset, Config.slots] at hhead ⊢
  omega

theorem ringNext_lt (i : Nat) : ringNext i < 1024 := Nat.mod_lt _ (by decide)

/-- The next slot stands one place on, but after the last place. -/
theorem Ring.offset_ringNext {r : Ring} (hr : r.InRange) {i : Nat} (hi : i < 1024) (hlast : r.offset i < 1023) :
    r.offset (ringNext i) = r.offset i + 1 := by
  have hhead := hr.positions.1
  simp only [Ring.offset, ringNext, Config.slots] at hhead hlast ⊢
  omega

theorem Ring.live_le (r : Ring) : r.live ≤ 1023 := Nat.le_of_lt_succ (r.offset_lt r.commit)

/-- A position up to COMMIT is COMMIT or holds a live slot. -/
theorem Ring.offset_lt_live {r : Ring} (hr : r.InRange) {i : Nat} (hi : i < 1024) (hle : r.offset i ≤ r.live)
    (hne : i ≠ r.commit) : r.offset i < r.live :=
  lt_of_le_of_ne hle fun h => hne (Ring.offset_inj hr hi hr.positions.2.2 h)

/-- The slots of a run are those of its places. -/
theorem mem_ringRun {r : Ring} (hr : r.InRange) {a n i : Nat} (ha : a < 1024) (hn : r.offset a + n ≤ 1024) :
    i ∈ ringRun a n ↔ i < 1024 ∧ r.offset a ≤ r.offset i ∧ r.offset i < r.offset a + n := by
  have hhead := hr.positions.1
  simp only [ringRun, List.mem_map, List.mem_range, Config.slots, Ring.offset] at hhead hn ⊢
  constructor
  · rintro ⟨k, hk, rfl⟩
    omega
  · rintro ⟨hi, h1, h2⟩
    exact ⟨(i + 1024 - a) % 1024, by omega, by omega⟩

/-! ### A slot written -/

@[simp] theorem Ring.setState_head (r : Ring) (i : Nat) (st : SlotState) : (r.setState i st).head = r.head := rfl
@[simp] theorem Ring.setState_next (r : Ring) (i : Nat) (st : SlotState) : (r.setState i st).next = r.next := rfl
@[simp] theorem Ring.setState_commit (r : Ring) (i : Nat) (st : SlotState) : (r.setState i st).commit = r.commit := rfl
@[simp] theorem Ring.setState_offset (r : Ring) (i j : Nat) (st : SlotState) : (r.setState i st).offset j = r.offset j := rfl
@[simp] theorem Ring.setState_live (r : Ring) (i : Nat) (st : SlotState) : (r.setState i st).live = r.live := rfl

theorem Ring.lookup_setSlot {r : Ring} (hr : r.InRange) (i j : Nat) (x : Slot) :
    lookup .unlisted (r.setSlot i x).slots j = if j = i then x else lookup .unlisted r.slots j := lookup_store hr.table

theorem Ring.stateOf_setSlot {r : Ring} (hr : r.InRange) (i j : Nat) (x : Slot) :
    (r.setSlot i x).stateOf j = if j = i then x.state else r.stateOf j := by
  rw [Ring.stateOf, Ring.lookup_setSlot hr]
  split <;> rfl

theorem Ring.stateOf_setState {r : Ring} (hr : r.InRange) (i j : Nat) (st : SlotState) :
    (r.setState i st).stateOf j = if j = i then st else r.stateOf j := Ring.stateOf_setSlot hr i j _

theorem Ring.record_setState {r : Ring} (hr : r.InRange) (i j : Nat) (st : SlotState) :
    (lookup Slot.unlisted (r.setState i st).slots j).record = (lookup Slot.unlisted r.slots j).record := by
  rw [Ring.setState, Ring.lookup_setSlot hr]
  split
  next h => rw [h]
  · rfl

theorem Ring.InRange.setSlot {r : Ring} (hr : r.InRange) (i : Nat) (x : Slot) : (r.setSlot i x).InRange :=
  ⟨tableWf_store hr.table i x, hr.positions⟩

theorem Ring.InRange.setState {r : Ring} (hr : r.InRange) (i : Nat) (st : SlotState) : (r.setState i st).InRange :=
  hr.setSlot i _

/-! ### The order of the ring but for HEAD -/

/-- The ring in order, but that HEAD may stand at a DONE slot: what a retirement sweep begins with. -/
structure Ring.Sound (r : Ring) : Prop where
  range : r.InRange
  order : r.offset r.next ≤ r.live
  live : ∀ i, i < 1024 → r.offset i < r.live →
    r.stateOf i = .pending ∨ r.stateOf i = .active ∨ r.stateOf i = .done
  free : ∀ i, i < 1024 → r.live ≤ r.offset i → r.stateOf i = .empty ∨ r.stateOf i = .staged
  passed : ∀ i, i < 1024 → r.offset i < r.offset r.next → r.stateOf i = .active ∨ r.stateOf i = .done
  nextPending : r.next ≠ r.commit → r.stateOf r.next = .pending
  records : ∀ i, (lookup Slot.unlisted r.slots i).record.isSome ↔ r.stateOf i ≠ .empty

theorem Ring.Ok.sound {r : Ring} (h : r.Ok) : r.Sound :=
  ⟨h.range, h.order, h.live, h.free, h.passed, h.nextPending, h.records⟩

theorem Ring.Sound.ok {r : Ring} (h : r.Sound) (hhead : r.head ≠ r.commit → r.stateOf r.head ≠ .done) : r.Ok :=
  ⟨h.range, h.order, h.live, h.free, h.passed, h.nextPending, hhead, h.records⟩

/-- A slot that is PENDING, ACTIVE or DONE is live. -/
theorem Ring.Sound.isLive {r : Ring} (h : r.Sound) {i : Nat} (hi : i < 1024)
    (hst : r.stateOf i = .pending ∨ r.stateOf i = .active ∨ r.stateOf i = .done) : r.offset i < r.live := by
  refine Classical.byContradiction fun hnot => ?_
  rcases h.free i hi (not_lt.mp hnot) with hf | hf <;> simp [hf] at hst

/-! ### Seeking NEXT (R36) -/

/-- What the seek finds from a position: the first PENDING slot before COMMIT, or COMMIT. -/
theorem Ring.seekPending_spec {r : Ring} (hr : r.InRange) (n : Nat) {i : Nat} (hi : i < 1024) (hle : r.offset i ≤ r.live)
    (hn : r.live - r.offset i ≤ n) :
    r.seekPending n i < 1024 ∧ r.offset i ≤ r.offset (r.seekPending n i) ∧ r.offset (r.seekPending n i) ≤ r.live ∧
      (∀ m, m < 1024 → r.offset i ≤ r.offset m → r.offset m < r.offset (r.seekPending n i) → r.stateOf m ≠ .pending) ∧
      (r.seekPending n i ≠ r.commit → r.stateOf (r.seekPending n i) = .pending) := by
  have hcommit := hr.positions.2.2
  induction n generalizing i with
  | zero =>
    have heq : r.offset i = r.live := by omega
    have hic : i = r.commit := Ring.offset_inj hr hi hcommit heq
    subst hic
    exact ⟨hi, le_refl _, hle, fun m _ h1 h2 => absurd h2 (not_lt.mpr h1), fun hne => absurd rfl hne⟩
  | succ n ih =>
    unfold Ring.seekPending
    split
    next hic =>
      subst hic
      exact ⟨hi, le_refl _, hle, fun m _ h1 h2 => absurd h2 (not_lt.mpr h1), fun hne => absurd rfl hne⟩
    next hic =>
      have hlt := Ring.offset_lt_live hr hi hle hic
      split
      next hp => exact ⟨hi, le_refl _, hle, fun m _ h1 h2 => absurd h2 (not_lt.mpr h1), fun _ => hp⟩
      next hp =>
        have hstep := Ring.offset_ringNext hr hi (lt_of_lt_of_le hlt r.live_le)
        obtain ⟨h1, h2, h3, h4, h5⟩ := ih (ringNext_lt i) (by omega) (by omega)
        refine ⟨h1, by omega, h3, fun m hm hle' hlt' => ?_, h5⟩
        rcases Nat.eq_or_lt_of_le hle' with heq | hlt''
        · rw [← Ring.offset_inj hr hi hm heq]; exact hp
        · exact h4 m hm (by omega) hlt'

@[simp] theorem Ring.advanceNext_head (r : Ring) : r.advanceNext.head = r.head := rfl
@[simp] theorem Ring.advanceNext_commit (r : Ring) : r.advanceNext.commit = r.commit := rfl
@[simp] theorem Ring.advanceNext_slots (r : Ring) : r.advanceNext.slots = r.slots := rfl
@[simp] theorem Ring.advanceNext_stateOf (r : Ring) (i : Nat) : r.advanceNext.stateOf i = r.stateOf i := rfl

theorem Ring.seekPending_lt {r : Ring} (hcommit : r.commit < 1024) (n : Nat) {i : Nat} (hi : i < 1024) :
    r.seekPending n i < 1024 := by
  induction n generalizing i with
  | zero => exact hcommit
  | succ n ih =>
    unfold Ring.seekPending
    split
    · exact hcommit
    · split
      · exact hi
      · exact ih (ringNext_lt i)

theorem Ring.InRange.advanceNext {r : Ring} (hr : r.InRange) : r.advanceNext.InRange := by
  obtain ⟨hhead, hnext, hcommit⟩ := hr.positions
  exact ⟨hr.table, hhead, Ring.seekPending_lt hcommit _ hnext, hcommit⟩

/-- A slot that leaves PENDING or ACTIVE for ACTIVE or DONE, with NEXT moved on. -/
theorem Ring.Sound.leave {r : Ring} (h : r.Sound) {i : Nat} (hi : i < 1024) {st : SlotState}
    (hold : r.stateOf i = .pending ∨ r.stateOf i = .active) (hst : st = .active ∨ st = .done) :
    ((r.setState i st).advanceNext).Sound := by
  have hr := h.range
  have hr' := hr.setState i st
  have hstate := Ring.stateOf_setState hr i (st := st)
  have hlive : r.offset i < r.live := h.isLive hi (by rcases hold with ho | ho <;> simp [ho])
  obtain ⟨_, h2, h3, h4, h5⟩ := Ring.seekPending_spec hr' 1024 (i := r.next) hr.positions.2.1 h.order
    (le_trans (Nat.sub_le _ _) (le_of_lt (lt_of_le_of_lt r.live_le (by decide))))
  have hpassed : ∀ m, m < 1024 → r.offset m < r.live → (r.setState i st).stateOf m ≠ .pending →
      (r.setState i st).stateOf m = .active ∨ (r.setState i st).stateOf m = .done := by
    intro m hm hml hp
    rw [hstate] at hp ⊢
    split at hp
    next hmi => rw [if_pos hmi]; exact hst
    next hmi =>
      rw [if_neg hmi]
      rcases h.live m hm hml with h' | h' | h'
      · exact absurd h' hp
      · exact .inl h'
      · exact .inr h'
  refine ⟨hr'.advanceNext, h3, fun m hm hml => ?_, fun m hm hml => ?_, fun m hm hml => ?_, h5, fun m => ?_⟩
  · rw [Ring.advanceNext_stateOf, hstate]
    split
    · exact .inr hst
    · exact h.live m hm hml
  · rw [Ring.advanceNext_stateOf, hstate, if_neg]
    · exact h.free m hm hml
    · rintro rfl; exact absurd hlive (not_lt.mpr hml)
  · have hml' : r.offset m < r.live := lt_of_lt_of_le hml h3
    refine hpassed m hm hml' ?_
    rcases Nat.lt_or_ge (r.offset m) (r.offset r.next) with hlt | hge
    · rw [hstate]
      split
      · rcases hst with rfl | rfl <;> simp
      · rcases h.passed m hm hlt with h' | h' <;> simp [h']
    · exact h4 m hm hge hml
  · rw [Ring.advanceNext_stateOf, Ring.advanceNext_slots, Ring.record_setState hr, h.records m, hstate]
    split
    next hmi =>
      subst hmi
      rcases hold with ho | ho <;> rcases hst with rfl | rfl <;> simp [ho]
    · exact Iff.rfl

/-! ### The retirement sweep (R40) -/

/-- The ring once the DONE slot at HEAD has become EMPTY. -/
def Ring.retireOne (r : Ring) : Ring := { r.setSlot r.head .unlisted with head := ringNext r.head }

theorem Ring.stateOf_retireOne {r : Ring} (hr : r.InRange) (j : Nat) :
    r.retireOne.stateOf j = if j = r.head then .empty else r.stateOf j := Ring.stateOf_setSlot hr r.head j .unlisted

theorem Ring.InRange.retireOne {r : Ring} (hr : r.InRange) : r.retireOne.InRange :=
  ⟨tableWf_store hr.table _ _, ringNext_lt _, hr.positions.2⟩

theorem Ring.offset_retireOne {r : Ring} (hr : r.InRange) {i : Nat} (hi : i < 1024) :
    r.retireOne.offset i = if r.offset i = 0 then 1023 else r.offset i - 1 := by
  have hhead := hr.positions.1
  rcases Nat.eq_zero_or_pos (r.offset i) with h0 | h0
  · rw [if_pos h0]
    simp only [Ring.offset, Ring.retireOne, ringNext, Config.slots] at h0 hhead ⊢
    omega
  · rw [if_neg (Nat.pos_iff_ne_zero.mp h0)]
    simp only [Ring.offset, Ring.retireOne, ringNext, Config.slots] at h0 hhead ⊢
    omega

theorem Ring.live_retireOne {r : Ring} (hr : r.InRange) (hne : r.head ≠ r.commit) : r.retireOne.live = r.live - 1 := by
  have hlive : r.offset r.commit ≠ 0 := fun h =>
    hne (Ring.offset_inj hr hr.positions.1 hr.positions.2.2 ((Ring.offset_head hr).trans h.symm))
  have hoff := Ring.offset_retireOne hr hr.positions.2.2
  rw [if_neg hlive] at hoff
  exact hoff

theorem Ring.Sound.retireOne {r : Ring} (h : r.Sound) (hne : r.head ≠ r.commit) (hdone : r.stateOf r.head = .done) :
    r.retireOne.Sound := by
  have hr := h.range
  obtain ⟨hhead, hnext, hcommit⟩ := hr.positions
  have hlive : 0 < r.live := Nat.pos_of_ne_zero fun h0 =>
    hne (Ring.offset_inj hr hhead hcommit ((Ring.offset_head hr).trans h0.symm))
  have hlive' := Ring.live_retireOne hr hne
  have hnextHead : r.next ≠ r.head := by
    intro heq
    have hp := h.nextPending (heq ▸ hne)
    rw [heq, hdone] at hp
    cases hp
  have hnext0 : r.offset r.next ≠ 0 := fun h0 =>
    hnextHead (Ring.offset_inj hr hnext hhead (h0.trans (Ring.offset_head hr).symm))
  have horder := h.order
  have hat : ∀ m, m < 1024 → r.offset m = 0 → m = r.head := fun m hm h0 =>
    Ring.offset_inj hr hm hhead (h0.trans (Ring.offset_head hr).symm)
  have hshift : ∀ m, m < 1024 → ∀ k, r.retireOne.offset m < k → k ≤ 1023 → m ≠ r.head ∧ r.offset m < k + 1 := by
    intro m hm k hlt hk
    rw [Ring.offset_retireOne hr hm] at hlt
    split at hlt
    · omega
    next h0 => exact ⟨fun heq => h0 (heq ▸ Ring.offset_head hr), by omega⟩
  refine ⟨hr.retireOne, ?_, fun m hm hml => ?_, fun m hm hml => ?_, fun m hm hml => ?_, fun hnc => ?_, fun m => ?_⟩
  · rw [hlive']
    change r.retireOne.offset r.next ≤ _
    rw [Ring.offset_retireOne hr hnext, if_neg hnext0]
    omega
  · rw [hlive'] at hml
    obtain ⟨hmh, hlt⟩ := hshift m hm _ hml (le_trans (Nat.sub_le _ _) r.live_le)
    rw [Ring.stateOf_retireOne hr, if_neg hmh]
    exact h.live m hm (by omega)
  · rw [Ring.stateOf_retireOne hr]
    split
    · exact .inl rfl
    next hmh =>
      rw [hlive', Ring.offset_retireOne hr hm, if_neg fun h0 => hmh (hat m hm h0)] at hml
      have h0 : r.offset m ≠ 0 := fun h0 => hmh (hat m hm h0)
      exact h.free m hm (by omega)
  · change r.retireOne.offset m < r.retireOne.offset r.next at hml
    rw [Ring.offset_retireOne hr hnext, if_neg hnext0] at hml
    obtain ⟨hmh, hlt⟩ := hshift m hm _ hml (by have := r.offset_lt r.next; omega)
    rw [Ring.stateOf_retireOne hr, if_neg hmh]
    exact h.passed m hm (by omega)
  · change r.retireOne.stateOf r.next = _
    rw [Ring.stateOf_retireOne hr, if_neg hnextHead]
    exact h.nextPending hnc
  · rw [Ring.stateOf_retireOne hr]
    change (lookup Slot.unlisted (r.setSlot r.head .unlisted).slots m).record.isSome ↔ _
    rw [Ring.lookup_setSlot hr]
    split
    · simp [Slot.unlisted]
    · exact h.records m

/-- What a retirement sweep leaves: positions but HEAD, order, and every slot but DONE ones, which it may empty; and with
turns enough HEAD does not stand at a DONE slot. -/
theorem Ring.retireFrom_spec (n : Nat) {r : Ring} (h : r.Sound) :
    (r.retireFrom n).Sound ∧ (r.retireFrom n).next = r.next ∧ (r.retireFrom n).commit = r.commit ∧
      (∀ j, (r.retireFrom n).stateOf j = r.stateOf j ∨ (r.stateOf j = .done ∧ (r.retireFrom n).stateOf j = .empty)) ∧
      (r.live ≤ n → (r.retireFrom n).head ≠ (r.retireFrom n).commit →
        (r.retireFrom n).stateOf (r.retireFrom n).head ≠ .done) := by
  induction n generalizing r with
  | zero =>
    refine ⟨h, rfl, rfl, fun j => .inl rfl, fun hl hne => absurd ?_ hne⟩
    have h0 : r.offset r.commit = 0 := Nat.le_zero.mp hl
    exact Ring.offset_inj h.range h.range.positions.1 h.range.positions.2.2 ((Ring.offset_head h.range).trans h0.symm)
  | succ n ih =>
    unfold Ring.retireFrom
    split
    next hc => exact ⟨h, rfl, rfl, fun j => .inl rfl, fun _ hne => absurd hc hne⟩
    next hne =>
      split
      next hdone =>
        obtain ⟨h1, h2, h3, h4, h5⟩ := ih (h.retireOne hne hdone)
        refine ⟨h1, h2, h3, fun j => ?_, fun hl => h5 ?_⟩
        · have hone := Ring.stateOf_retireOne h.range j
          rcases h4 j with hj | ⟨hj, hj'⟩
          · by_cases hjh : j = r.head
            · rw [if_pos hjh] at hone
              exact .inr ⟨hjh ▸ hdone, hj.trans hone⟩
            · rw [if_neg hjh] at hone
              exact .inl (hj.trans hone)
          · by_cases hjh : j = r.head
            · rw [if_pos hjh, hj] at hone; cases hone
            · rw [if_neg hjh] at hone
              exact .inr ⟨hone ▸ hj, hj'⟩
        · rw [Ring.live_retireOne h.range hne]; omega
      next hnot => exact ⟨h, rfl, rfl, fun j => .inl rfl, fun _ _ => hnot⟩

theorem Ring.Sound.retire {r : Ring} (h : r.Sound) : r.retire.Ok := by
  obtain ⟨hs, _, _, _, hhead⟩ := Ring.retireFrom_spec 1024 h
  exact hs.ok (hhead (le_trans r.live_le (by decide)))

/-- A sweep leaves every slot but DONE ones. -/
theorem Ring.Sound.stateOf_retire {r : Ring} (h : r.Sound) (j : Nat) :
    r.retire.stateOf j = r.stateOf j ∨ (r.stateOf j = .done ∧ r.retire.stateOf j = .empty) := by
  obtain ⟨_, _, _, hstate, _⟩ := Ring.retireFrom_spec 1024 h
  exact hstate j

theorem Ring.InRange.retireFrom (n : Nat) {r : Ring} (hr : r.InRange) : (r.retireFrom n).InRange := by
  induction n generalizing r with
  | zero => exact hr
  | succ n ih =>
    unfold Ring.retireFrom
    split
    · exact hr
    · split
      · exact ih hr.retireOne
      · exact hr

/-! ### The operations -/

theorem Ring.reset_ok : Ring.reset.Ok where
  range := ⟨rfl, by decide⟩
  order := le_refl _
  live i _ h := absurd h (by simp [Ring.live, Ring.reset])
  free i _ _ := .inl rfl
  passed i _ h := absurd h (by simp [Ring.offset, Ring.reset])
  nextPending h := absurd rfl h
  headNotDone h := absurd rfl h
  records i := by simp [Ring.stateOf, Ring.reset, lookup, Slot.unlisted]

/-- A record staged in a slot that is not live. -/
theorem Ring.Ok.stage {r : Ring} (h : r.Ok) {i : Nat} (record : StepRecord) (hfree : r.isLive i = false) :
    (r.setSlot i ⟨.staged, some record⟩).Ok := by
  have hr := h.range
  have hnot : ¬ r.offset i < r.live := fun hlt => by simp [(r.isLive_iff i).mpr hlt] at hfree
  have hstate := Ring.stateOf_setSlot hr i (x := ⟨.staged, some record⟩)
  have hne : ∀ j, r.offset j < r.live → j ≠ i := fun j hj heq => hnot (heq ▸ hj)
  refine ⟨hr.setSlot _ _, h.order, fun j hj hl => ?_, fun j hj hl => ?_, fun j hj hl => ?_, fun hnc => ?_, fun hnc => ?_,
    fun j => ?_⟩
  · rw [hstate, if_neg (hne j hl)]; exact h.live j hj hl
  · rw [hstate]
    split
    · exact .inr rfl
    · exact h.free j hj hl
  · rw [hstate, if_neg (hne j (lt_of_lt_of_le hl h.order))]; exact h.passed j hj hl
  · change (r.setSlot i _).stateOf r.next = _
    rw [hstate, if_neg (hne _ (Ring.offset_lt_live hr hr.positions.2.1 h.order hnc))]
    exact h.nextPending hnc
  · change (r.setSlot i _).stateOf r.head ≠ _
    have hle : r.offset r.head ≤ r.live := by rw [Ring.offset_head hr]; exact Nat.zero_le _
    rw [hstate, if_neg (hne _ (Ring.offset_lt_live hr hr.positions.1 hle hnc))]
    exact h.headNotDone hnc
  · rw [hstate, Ring.lookup_setSlot hr]
    split
    · simp
    · exact h.records j

/-- Slots given one state, one after another. -/
theorem Ring.foldl_setState_spec (st : SlotState) (l : List Nat) {r : Ring} (hr : r.InRange) :
    let q := l.foldl (fun r i => r.setState i st) r
    q.InRange ∧ q.head = r.head ∧ q.next = r.next ∧ q.commit = r.commit ∧
      (∀ j, q.stateOf j = if j ∈ l then st else r.stateOf j) ∧
      ∀ j, (lookup Slot.unlisted q.slots j).record = (lookup Slot.unlisted r.slots j).record := by
  induction l generalizing r with
  | nil => exact ⟨hr, rfl, rfl, rfl, by simp, fun _ => rfl⟩
  | cons i l ih =>
    obtain ⟨h1, h2, h3, h4, h5, h6⟩ := ih (hr.setState i st)
    refine ⟨h1, h2, h3, h4, fun j => ?_, fun j => (h6 j).trans (Ring.record_setState hr i j st)⟩
    rw [List.foldl_cons, h5, Ring.stateOf_setState hr]
    by_cases hji : j = i
    · simp [hji]
    · simp [hji]

/-- Where COMMIT stands after a run. -/
theorem Ring.offset_commit {r : Ring} (hr : r.InRange) {c : Nat} (hc : c < 1024) (hroom : r.live + r.commitCount c ≤ 1023) :
    r.offset c = r.live + r.commitCount c := by
  obtain ⟨hhead, _, hcommit⟩ := hr.positions
  simp only [Ring.offset, Ring.live, Ring.commitCount, Config.slots] at hhead hcommit hroom ⊢
  omega

theorem Ring.commitCount_pos {r : Ring} (hr : r.InRange) {c : Nat} (hc : c < 1024) (hne : c ≠ r.commit) :
    0 < r.commitCount c := by
  have hcommit := hr.positions.2.2
  simp only [Ring.commitCount, Config.slots] at hcommit ⊢
  omega

/-- A run of STAGED slots committed. -/
theorem Ring.Ok.commitTo {r : Ring} (h : r.Ok) {c : Nat} (hc : c < 1024) (hne : c ≠ r.commit)
    (hroom : r.live + r.commitCount c ≤ 1023) (hstaged : ∀ i ∈ ringRun r.commit (r.commitCount c), r.stateOf i = .staged) :
    (r.commitTo c).Ok := by
  have hr := h.range
  obtain ⟨hhead, hnext, hcommit⟩ := hr.positions
  have hoff := Ring.offset_commit hr hc hroom
  have hpos := Ring.commitCount_pos hr hc hne
  have hmem : ∀ j, j ∈ ringRun r.commit (r.commitCount c) ↔ j < 1024 ∧ r.live ≤ r.offset j ∧
      r.offset j < r.live + r.commitCount c := fun j => mem_ringRun hr hcommit (by rw [← r.live_eq_offset]; omega)
  obtain ⟨h1, h2, h3, h4, h5, h6⟩ := Ring.foldl_setState_spec .pending (ringRun r.commit (r.commitCount c)) hr
  have hstate : ∀ j, (r.commitTo c).stateOf j = if j ∈ ringRun r.commit (r.commitCount c) then .pending else r.stateOf j := h5
  have hoffset : ∀ j, (r.commitTo c).offset j = r.offset j := fun j => by
    unfold Ring.offset; rw [show (r.commitTo c).head = r.head from h2]
  have hlive : (r.commitTo c).live = r.live + r.commitCount c :=
    ((r.commitTo c).live_eq_offset.trans (hoffset c)).trans hoff
  have hfirst : r.commit ∈ ringRun r.commit (r.commitCount c) :=
    (hmem _).mpr ⟨hcommit, le_of_eq r.live_eq_offset, by rw [← r.live_eq_offset]; omega⟩
  refine ⟨⟨h1.table, h2 ▸ hhead, h3 ▸ hnext, hc⟩, ?_, fun j hj hl => ?_, fun j hj hl => ?_, fun j hj hl => ?_,
    fun hnc => ?_, fun hnc => ?_, fun j => ?_⟩
  · rw [hlive, show (r.commitTo c).next = r.next from h3, hoffset]; exact le_trans h.order (Nat.le_add_right _ _)
  · rw [hlive, hoffset] at hl
    rw [hstate]
    split
    · exact .inl rfl
    next hnot => exact h.live j hj (by by_contra hge; exact hnot ((hmem j).mpr ⟨hj, by omega, hl⟩))
  · rw [hlive, hoffset] at hl
    rw [hstate, if_neg fun hin => by rw [hmem] at hin; omega]
    exact h.free j hj (by omega)
  · rw [show (r.commitTo c).next = r.next from h3, hoffset, hoffset] at hl
    have horder := h.order
    rw [hstate, if_neg fun hin => by rw [hmem] at hin; omega]
    exact h.passed j hj hl
  · rw [show (r.commitTo c).next = r.next from h3, hstate]
    split
    · rfl
    next hnot => exact h.nextPending fun heq => hnot (heq ▸ hfirst)
  · rw [show (r.commitTo c).head = r.head from h2, hstate]
    split
    · simp
    next hnot => exact h.headNotDone fun heq => hnot (heq ▸ hfirst)
  · rw [show (lookup Slot.unlisted (r.commitTo c).slots j).record = _ from h6 j, h.records j, hstate]
    split
    next hin => simp [hstaged j hin]
    · exact Iff.rfl

/-- The PENDING slots are those from NEXT on. -/
theorem Ring.mem_pendingSlots {r : Ring} (h : r.Sound) (i : Nat) :
    i ∈ r.pendingSlots ↔ i < 1024 ∧ r.stateOf i = .pending := by
  have hr := h.range
  obtain ⟨hhead, hnext, hcommit⟩ := hr.positions
  have horder := h.order
  have hlen : (r.commit + Config.slots - r.next) % Config.slots = r.live - r.offset r.next := by
    simp only [Ring.live, Ring.offset, Config.slots] at hhead hnext hcommit horder ⊢
    omega
  simp only [Ring.pendingSlots, List.mem_filter, decide_eq_true_eq, hlen]
  rw [mem_ringRun hr hnext (by have := r.live_le; omega)]
  constructor
  · rintro ⟨⟨hi, _, _⟩, hp⟩
    exact ⟨hi, hp⟩
  · rintro ⟨hi, hp⟩
    have hl := h.isLive hi (.inl hp)
    refine ⟨⟨hi, ?_, by omega⟩, hp⟩
    refine Classical.byContradiction fun hnot => ?_
    rcases h.passed i hi (not_le.mp hnot) with hs | hs <;> simp [hs] at hp

/-- A PENDING slot becomes ACTIVE. -/
theorem Ring.Ok.begin {r : Ring} (h : r.Ok) {i : Nat} (hi : i ∈ r.pendingSlots) : ((r.setState i .active).advanceNext).Ok := by
  obtain ⟨hlt, hp⟩ := (Ring.mem_pendingSlots h.sound i).mp hi
  refine (h.sound.leave hlt (.inl hp) (.inl rfl)).ok fun hne => ?_
  change (r.setState i .active).stateOf r.head ≠ .done
  rw [Ring.stateOf_setState h.range]
  split
  · simp
  · exact h.headNotDone hne

/-- A slot becomes DONE, and the sweep retires what it can. -/
theorem Ring.Ok.finish {r : Ring} (h : r.Ok) {i : Nat} (hi : i < 1024) (hst : r.stateOf i = .active ∨ r.stateOf i = .pending) :
    (((r.setState i .done).advanceNext).retire).Ok := (h.sound.leave hi hst.symm (.inr rfl)).retire

/-- The ring whose PENDING slots have been made DONE and whose NEXT stands at COMMIT. -/
def Ring.discarded (r : Ring) : Ring :=
  { r.pendingSlots.foldl (fun r i => r.setState i .done) r with next := r.commit }

theorem Ring.Sound.stateOf_discarded {r : Ring} (h : r.Sound) (j : Nat) :
    r.discarded.stateOf j = if j ∈ r.pendingSlots then .done else r.stateOf j := by
  obtain ⟨_, _, _, _, hstate, _⟩ := Ring.foldl_setState_spec .done r.pendingSlots h.range
  exact hstate j

theorem Ring.Sound.discarded {r : Ring} (h : r.Sound) : r.discarded.Sound := by
  obtain ⟨h1, h2, h3, h4, _, h6⟩ := Ring.foldl_setState_spec .done r.pendingSlots h.range
  have hstate := h.stateOf_discarded
  obtain ⟨hhead, hnext, hcommit⟩ := h.range.positions
  have hoffset : ∀ j, r.discarded.offset j = r.offset j := fun j => by
    unfold Ring.offset; rw [show r.discarded.head = r.head from h2]
  have hlive : r.discarded.live = r.live := by
    rw [Ring.live_eq_offset, hoffset, show r.discarded.commit = r.commit from h4]; rfl
  refine ⟨⟨h1.table, h2 ▸ hhead, hcommit, h4 ▸ hcommit⟩, ?_, fun j hj hl => ?_, fun j hj hl => ?_, fun j hj hl => ?_,
    fun hnc => absurd h4.symm hnc, fun j => ?_⟩
  · rw [hlive, hoffset]; exact le_refl _
  · rw [hlive, hoffset] at hl
    rw [hstate]
    split
    · exact .inr (.inr rfl)
    · exact h.live j hj hl
  · rw [hlive, hoffset] at hl
    rw [hstate, if_neg]
    · exact h.free j hj hl
    · intro hin
      have hp := ((Ring.mem_pendingSlots h j).mp hin).2
      rcases h.free j hj hl with hf | hf <;> simp [hf] at hp
  · rw [hoffset, hoffset] at hl
    rw [hstate]
    split
    · exact .inr rfl
    next hnot =>
      rw [Ring.mem_pendingSlots h] at hnot
      rcases h.live j hj hl with hp | hs | hs
      · exact absurd ⟨hj, hp⟩ hnot
      · exact .inl hs
      · exact .inr hs
  · rw [show (lookup Slot.unlisted r.discarded.slots j).record = _ from h6 j, h.records j, hstate]
    split
    next hin => simp [((Ring.mem_pendingSlots h j).mp hin).2]
    · exact Iff.rfl

theorem Ring.discardPending_eq (r : Ring) : r.discardPending = r.discarded.retire := rfl

/-- After a STOP HEAD stands at an ACTIVE slot, or no slot is live (R42). -/
theorem Ring.Sound.discardPending_head {r : Ring} (h : r.Sound) (hnone : ∀ i, i < 1024 → r.stateOf i ≠ .active) :
    r.discardPending.head = r.commit := by
  have hd := h.discarded
  obtain ⟨hsound, hnext, hcommit, hstate, hhead⟩ := Ring.retireFrom_spec 1024 hd
  have hcommit' : r.discarded.commit = r.commit := by
    obtain ⟨_, _, _, h4, _⟩ := Ring.foldl_setState_spec .done r.pendingSlots h.range
    exact h4
  rw [Ring.discardPending_eq]
  change (r.discarded.retireFrom 1024).head = r.commit
  refine Classical.byContradiction fun hne => ?_
  have hne' : (r.discarded.retireFrom 1024).head ≠ (r.discarded.retireFrom 1024).commit := by
    rw [hcommit, hcommit']; exact hne
  have hr := hsound.range
  have hlive : (r.discarded.retireFrom 1024).offset (r.discarded.retireFrom 1024).head <
      (r.discarded.retireFrom 1024).live :=
    Ring.offset_lt_live hr hr.positions.1 (by rw [Ring.offset_head hr]; exact Nat.zero_le _) hne'
  have hnotDone := hhead (le_trans r.discarded.live_le (by decide)) hne'
  have hpassed := hsound.passed _ hr.positions.1 (by
    rw [hnext, show r.discarded.next = (r.discarded.retireFrom 1024).commit by rw [hcommit, hcommit']; rfl]
    exact hlive)
  rcases hpassed with hactive | hdone
  · rcases hstate (r.discarded.retireFrom 1024).head with heq | ⟨_, heq⟩
    · rw [heq, h.stateOf_discarded] at hactive
      split at hactive
      · cases hactive
      · exact hnone _ hr.positions.1 hactive
    · rw [heq] at hactive; cases hactive
  · exact hnotDone hdone

/-- Settles O21. -/
theorem ringOperationsKeepTheRingInOrder : Obligations.RingOperationsKeepTheRingInOrder := by
  refine ⟨Ring.reset_ok, fun r h => ⟨fun _ record _ hfree => h.stage record hfree,
    fun c hc hne hroom hstaged => h.commitTo hc hne hroom hstaged, fun i hi => h.begin hi,
    fun i hi hst => h.finish hi hst, h.sound.discarded.retire, ?_, ?_, h.sound.discardPending_head⟩⟩
  · obtain ⟨_, hnext, _⟩ := Ring.retireFrom_spec 1024 h.sound.discarded
    exact hnext
  · obtain ⟨_, _, hcommit, _⟩ := Ring.retireFrom_spec 1024 h.sound.discarded
    obtain ⟨_, _, _, h4, _⟩ := Ring.foldl_setState_spec .done r.pendingSlots h.range
    exact hcommit.trans h4

end Sys2Proof.Machine

/-! PROOFS. The nail table (R1, R2, R8, R9): a net's nail list, the nails that a run leaves on a net, and the check of
MAP_NAILS that no net takes a ninth. -/

namespace Sys2Proof.Machine

/-! ### A net's nail list -/

/-- The keys of a table in canonical form rise. -/
theorem tableFrom_keys {α : Type} [DecidableEq α] {d : α} {t : List (Nat × α)} :
    ∀ {lo : Nat}, tableFrom d lo t = true → (t.map (·.1)).Pairwise (· < ·) ∧ ∀ x ∈ t, lo ≤ x.1 := by
  induction t with
  | nil => intro _ _; exact ⟨.nil, nofun⟩
  | cons x rest ih =>
    intro lo ht
    simp only [tableFrom, Bool.and_eq_true, decide_eq_true_eq] at ht
    obtain ⟨⟨hlo, _⟩, hrest⟩ := ht
    obtain ⟨hpair, hle⟩ := ih hrest
    refine ⟨List.pairwise_cons.mpr ⟨fun k hk => ?_, hpair⟩, fun y hy => ?_⟩
    · obtain ⟨y, hy, rfl⟩ := List.mem_map.mp hk
      exact hle y hy
    · rcases List.mem_cons.mp hy with rfl | hy
      · exact hlo
      · have := hle y hy
        omega

theorem Part.mem_nailsOf {p : Part} (h : tableWf NailEntry.unlisted p.map.nails = true) (net n : Nat) :
    n ∈ p.nailsOf net ↔ net ≠ 0 ∧ (p.nail n).net = net := by
  unfold Part.nailsOf
  split
  next h0 => simp [h0]
  next h0 =>
    simp only [List.mem_map, List.mem_filter, beq_iff_eq]
    constructor
    · rintro ⟨⟨m, x⟩, ⟨hx, hnet⟩, rfl⟩
      have hne : x ≠ NailEntry.unlisted := by rintro rfl; exact h0 hnet.symm
      exact ⟨h0, by rw [Part.nail, (mem_iff_lookup hne h).mp hx]; exact hnet⟩
    · rintro ⟨_, hnet⟩
      have hne : p.nail n ≠ NailEntry.unlisted := by intro heq; rw [heq] at hnet; exact h0 hnet.symm
      exact ⟨(n, p.nail n), ⟨(mem_iff_lookup hne h).mpr rfl, hnet⟩, rfl⟩

theorem Part.nailsOf_rise {p : Part} (h : tableWf NailEntry.unlisted p.map.nails = true) (net : Nat) :
    (p.nailsOf net).Pairwise (· < ·) := by
  unfold Part.nailsOf
  split
  · exact .nil
  · exact (tableFrom_keys h).1.sublist (List.filter_sublist.map _)

theorem Part.nailsOf_nodup {p : Part} (h : tableWf NailEntry.unlisted p.map.nails = true) (net : Nat) :
    (p.nailsOf net).Nodup := (p.nailsOf_rise h net).imp fun hlt => Nat.ne_of_lt hlt

/-- Settles O11. -/
theorem nailListsFollowTheNailTable : Obligations.NailListsFollowTheNailTable :=
  fun _ h net => ⟨fun n => Part.mem_nailsOf h net n, Part.nailsOf_rise h net⟩

/-- A list of distinct numbers is no longer than one that holds them all. -/
theorem length_le_of_nodup_subset {l m : List Nat} (hl : l.Nodup) (h : ∀ n ∈ l, n ∈ m) : l.length ≤ m.length :=
  (hl.subperm h).length_le

/-- The nail table in order, by what its nails read as. -/
theorem Part.NailsOk.of_nail {p : Part} (htable : tableWf NailEntry.unlisted p.map.nails = true)
    (hnets : ∀ n, (p.nail n).net ≤ Config.maxNet)
    (height : ∀ net, net ≠ 0 → ∀ l : List Nat, l.Nodup → (∀ n ∈ l, (p.nail n).net = net) → l.length ≤ 8) : p.NailsOk where
  table := htable
  nets x hx := by
    by_cases hd : x.2 = NailEntry.unlisted
    · rw [hd]; exact Nat.zero_le _
    · have hread := (mem_iff_lookup (k := x.1) hd htable).mp hx
      have hnet := hnets x.1
      rwa [Part.nail, hread] at hnet
  eight net := by
    by_cases h0 : net = 0
    · simp [Part.nailsOf, h0]
    · exact height net h0 _ (p.nailsOf_nodup htable net) fun n hn => ((Part.mem_nailsOf htable net n).mp hn).2

theorem Part.NailsOk.net_le {p : Part} (h : p.NailsOk) (n : Nat) : (p.nail n).net ≤ Config.maxNet := by
  by_cases hd : p.nail n = NailEntry.unlisted
  · rw [hd]; exact Nat.zero_le _
  · exact h.nets (n, p.nail n) ((mem_iff_lookup hd h.table).mpr rfl)

theorem Part.NailsOk.length_le {p : Part} (h : p.NailsOk) {net : Nat} (h0 : net ≠ 0) {l : List Nat} (hl : l.Nodup)
    (hnet : ∀ n ∈ l, (p.nail n).net = net) : l.length ≤ 8 :=
  le_trans (length_le_of_nodup_subset hl fun n hn => (Part.mem_nailsOf h.table net n).mpr ⟨h0, hnet n hn⟩) (h.eight net)

/-- A table whose nails keep their nets stays in order. -/
theorem Part.NailsOk.of_nets {p q : Part} (h : p.NailsOk) (htable : tableWf NailEntry.unlisted q.map.nails = true)
    (hnet : ∀ n, (q.nail n).net = (p.nail n).net) : q.NailsOk :=
  .of_nail htable (fun n => hnet n ▸ h.net_le n)
    fun _ h0 _ hl hm => h.length_le h0 hl fun n hn => (hnet n).symm.trans (hm n hn)

/-! ### A run of nails -/

/-- A run of `count` nails from `first`, each with the entry of its place. -/
def numbered (first count : Nat) (f : Nat → NailEntry) : List (Nat × NailEntry) :=
  (List.range count).map fun i => (first + i, f i)

theorem mem_numbered {first count : Nat} {f : Nat → NailEntry} {x : Nat × NailEntry} :
    x ∈ numbered first count f ↔ first ≤ x.1 ∧ x.1 < first + count ∧ x.2 = f (x.1 - first) := by
  simp only [numbered, List.mem_map, List.mem_range]
  constructor
  · rintro ⟨i, hi, rfl⟩
    exact ⟨Nat.le_add_right _ _, Nat.add_lt_add_left hi _, congrArg f (Nat.add_sub_cancel_left ..).symm⟩
  · obtain ⟨n, y⟩ := x
    rintro ⟨h1, h2, h3⟩
    dsimp only at h1 h2 h3
    exact ⟨n - first, by omega, by rw [Nat.add_sub_cancel' h1, h3]⟩

theorem numbered_keys (first count : Nat) (f : Nat → NailEntry) : ((numbered first count f).map (·.1)).Nodup := by
  simp only [numbered, List.map_map]
  exact List.nodup_range.map fun a b h => Nat.add_left_cancel h

theorem runOf_map_range (first count : Nat) (f : Nat → NailEntry) :
    runOf first ((List.range count).map f) = numbered first count f := by
  simp [runOf, numbered, List.zip_map']

/-- The nails of a net once the arrivals up to nail `k` have come: those that the run leaves there, and the arrivals
(assumption log 15). -/
def Part.landed (p : Part) (run : List (Nat × NailEntry)) (k net : Nat) : List Nat :=
  p.keptNails run net ++ (run.filter fun y => decide (y.1 ≤ k) && p.arrives y net).map (·.1)

theorem Part.landed_length (p : Part) (run : List (Nat × NailEntry)) (k net : Nat) :
    (p.landed run k net).length =
      (p.keptNails run net).length + (run.filter fun y => decide (y.1 ≤ k) && p.arrives y net).length := by
  simp [Part.landed]

/-- The net of a nail once the arrivals up to nail `k` have come; 0 for one that has left and not arrived. -/
def Part.netAt (p : Part) (first count : Nat) (f : Nat → NailEntry) (k n : Nat) : Nat :=
  if first ≤ n ∧ n < first + count ∧ (f (n - first)).net ≠ (p.nail n).net then (if n ≤ k then (f (n - first)).net else 0)
  else (p.nail n).net

section
variable {p : Part} (h : tableWf NailEntry.unlisted p.map.nails = true) {first count : Nat} {f : Nat → NailEntry}
include h

theorem Part.mem_keptNails {net : Nat} (h0 : net ≠ 0) (n : Nat) : n ∈ p.keptNails (numbered first count f) net ↔
    (p.nail n).net = net ∧ (first ≤ n ∧ n < first + count → (f (n - first)).net = net) := by
  simp only [Part.keptNails, List.mem_filter, p.mem_nailsOf h, List.all_eq_true, Bool.or_eq_true, decide_eq_true_eq]
  constructor
  · rintro ⟨⟨_, hold⟩, hall⟩
    refine ⟨hold, fun hin => ?_⟩
    rcases hall (n, f (n - first)) (mem_numbered.mpr ⟨hin.1, hin.2, rfl⟩) with hne | heq
    · exact absurd rfl hne
    · exact heq
  · rintro ⟨hold, hin⟩
    refine ⟨⟨h0, hold⟩, fun x hx => ?_⟩
    obtain ⟨h1, h2, heq⟩ := mem_numbered.mp hx
    by_cases hxn : x.1 = n
    · subst hxn; exact .inr (heq ▸ hin ⟨h1, h2⟩)
    · exact .inl hxn

theorem Part.mem_landed {k net : Nat} (h0 : net ≠ 0) (n : Nat) :
    n ∈ p.landed (numbered first count f) k net ↔ p.netAt first count f k n = net := by
  have harrived : n ∈ ((numbered first count f).filter fun y => decide (y.1 ≤ k) && p.arrives y net).map (·.1) ↔
      (first ≤ n ∧ n < first + count) ∧ n ≤ k ∧ (f (n - first)).net = net ∧ (p.nail n).net ≠ net := by
    simp only [List.mem_map, List.mem_filter, mem_numbered, Part.arrives, Bool.and_eq_true, decide_eq_true_eq]
    constructor
    · rintro ⟨y, ⟨⟨h1, h2, heq⟩, h3, h4, h5⟩, rfl⟩
      exact ⟨⟨h1, h2⟩, h3, heq ▸ h4, h5⟩
    · rintro ⟨⟨h1, h2⟩, h3, h4, h5⟩
      exact ⟨(n, f (n - first)), ⟨⟨h1, h2, rfl⟩, h3, h4, h5⟩, rfl⟩
  rw [Part.landed, List.mem_append, p.mem_keptNails h h0, harrived, Part.netAt]
  by_cases hin : first ≤ n ∧ n < first + count
  · by_cases hsame : (f (n - first)).net = (p.nail n).net
    · rw [if_neg fun hc => hc.2.2 hsame, hsame]
      constructor
      · rintro (⟨hold, _⟩ | ⟨_, _, hold, hne⟩)
        · exact hold
        · exact absurd hold hne
      · exact fun hold => .inl ⟨hold, fun _ => hold⟩
    · rw [if_pos ⟨hin.1, hin.2, hsame⟩]
      split
      next hk =>
        constructor
        · rintro (⟨_, hnew⟩ | ⟨_, _, hnew, _⟩)
          · exact hnew hin
          · exact hnew
        · exact fun hnew => .inr ⟨hin, hk, hnew, fun hold => hsame (hnew.trans hold.symm)⟩
      next hk =>
        constructor
        · rintro (⟨hold, hnew⟩ | ⟨_, hle, _⟩)
          · exact absurd ((hnew hin).trans hold.symm) hsame
          · exact absurd hle hk
        · exact fun heq => absurd heq.symm h0
  · rw [if_neg fun hc => hin ⟨hc.1, hc.2.1⟩]
    constructor
    · rintro (⟨hold, _⟩ | ⟨hc, _⟩)
      · exact hold
      · exact absurd hc hin
    · exact fun hold => .inl ⟨hold, fun hc => absurd hc hin⟩

theorem Part.landed_nodup {k net : Nat} (h0 : net ≠ 0) : (p.landed (numbered first count f) k net).Nodup := by
  refine List.nodup_append.mpr ⟨(p.nailsOf_nodup h net).filter _, ?_, fun a ha b hb hab => ?_⟩
  · exact (numbered_keys first count f).sublist (List.filter_sublist.map _)
  · obtain ⟨y, hy, rfl⟩ := List.mem_map.mp hb
    simp only [List.mem_filter, Part.arrives, Bool.and_eq_true, decide_eq_true_eq] at hy
    have hold := ((p.mem_keptNails h h0 a).mp ha).1
    rw [hab] at hold
    exact hy.2.2.2 hold

/-- Nine nails on a net, counted. -/
theorem Part.landed_over_iff {k net : Nat} (h0 : net ≠ 0) : 8 < (p.landed (numbered first count f) k net).length ↔
    ∃ l : List Nat, l.Nodup ∧ l.length = 9 ∧ ∀ n ∈ l, p.netAt first count f k n = net := by
  constructor
  · intro hover
    refine ⟨(p.landed (numbered first count f) k net).take 9, (p.landed_nodup h h0).sublist (List.take_sublist _ _),
      by rw [List.length_take]; omega, fun n hn => (p.mem_landed h h0 n).mp (List.mem_of_mem_take hn)⟩
  · rintro ⟨l, hl, hlen, hnet⟩
    have := length_le_of_nodup_subset hl fun n hn => (p.mem_landed h h0 (k := k) n).mpr (hnet n hn)
    omega

end

/-- A nail of the run that arrives on its net and brings a ninth there (R8 check 7). -/
def Part.bringsNinth (p : Part) (run : List (Nat × NailEntry)) (x : Nat × NailEntry) : Bool :=
  decide (x.2.net ≠ 0) && p.arrives x x.2.net && decide (8 < (p.landed run x.1 x.2.net).length)

theorem Part.overfullNail_eq (p : Part) (run : List (Nat × NailEntry)) :
    p.overfullNail run = (run.find? (p.bringsNinth run)).map (·.1) := by
  unfold Part.overfullNail
  congr 2
  funext x
  rw [Part.bringsNinth, Part.landed_length]
  rfl

/-- Where the run as a whole would leave nine nails on a net, the last nail to arrive there brings a ninth. -/
theorem Part.exists_bringsNinth {p : Part} (h : p.NailsOk) {run : List (Nat × NailEntry)} {k net : Nat} (h0 : net ≠ 0)
    (hk : ∀ x ∈ run, x.1 ≤ k) (hover : 8 < (p.landed run k net).length) : ∃ x ∈ run, p.bringsNinth run x = true := by
  have hkept : (p.keptNails run net).length ≤ 8 := le_trans (List.length_filter_le _ _) (h.eight net)
  rw [p.landed_length] at hover
  obtain ⟨x, hx, hmax⟩ := Finset.exists_max_image (run.filter fun y => decide (y.1 ≤ k) && p.arrives y net).toFinset (·.1)
    (List.toFinset_nonempty_iff _ |>.mpr (List.ne_nil_of_length_pos (by omega)))
  obtain ⟨hrun, harrives⟩ := List.mem_filter.mp (List.mem_toFinset.mp hx)
  have ha : p.arrives x net = true := by simpa [hk x hrun] using harrives
  have hnet : x.2.net = net := (by simpa [Part.arrives] using ha : _ ∧ _).1
  have hsame : (run.filter fun y => decide (y.1 ≤ x.1) && p.arrives y net) =
      run.filter fun y => decide (y.1 ≤ k) && p.arrives y net := by
    refine List.filter_congr fun y hy => ?_
    by_cases ha : p.arrives y net = true
    · have hle := hmax y (List.mem_toFinset.mpr (List.mem_filter.mpr ⟨hy, by simp [hk y hy, ha]⟩))
      simp [hle, hk y hy]
    · simp [ha]
  refine ⟨x, hrun, ?_⟩
  rw [Part.bringsNinth, hnet, ha, Part.landed_length, hsame]
  simpa [h0] using hover

/-! ### MAP_NAILS reads and writes its run -/

/-- The entry that a MAP_NAILS body gives in place `i`, where it is one the request takes (R8 check 5). -/
def givenEntry (b : List Byte) (i : Nat) : NailEntry :=
  ⟨u16At b (1 + 3 * i), if byteAt b (3 + 3 * i) = 0 then .good else .disabled⟩

/-- What R8 check 5 asks of the entry in place `i`. -/
def EntryLegal (b : List Byte) (i : Nat) : Prop :=
  u16At b (1 + 3 * i) ≤ 2047 ∧ (byteAt b (3 + 3 * i) = 0 ∨ byteAt b (3 + 3 * i) = 2)

theorem nailEntryAt_eq_some_iff (b : List Byte) (i : Nat) (x : NailEntry) :
    nailEntryAt b (1 + 3 * i) = some x ↔ EntryLegal b i ∧ givenEntry b i = x := by
  have hoffset : 1 + 3 * i + 2 = 3 + 3 * i := by omega
  unfold nailEntryAt EntryLegal givenEntry
  simp only [Config.maxNet, hoffset]
  by_cases hnet : 2047 < u16At b (1 + 3 * i)
  · rw [if_pos hnet]
    simp only [reduceCtorEq, false_iff]
    rintro ⟨⟨hle, _⟩, _⟩
    exact absurd hnet (not_lt.mpr hle)
  · rw [if_neg hnet]
    have hle := not_lt.mp hnet
    split
    next h0 => simp [h0, hle]
    next h2 => simp [h2, hle]
    next h0 h2 =>
      simp only [reduceCtorEq, false_iff]
      rintro ⟨⟨_, hc | hc⟩, _⟩
      · exact h0 hc
      · exact h2 hc

theorem mapNailsEntries_eq_some_iff (b : List Byte) (count : Nat) (entries : List NailEntry) :
    mapNailsEntries b count = some entries ↔
      (∀ i, i < count → EntryLegal b i) ∧ entries = (List.range count).map (givenEntry b) := by
  rw [mapNailsEntries, mapM_eq_some_iff]
  constructor
  · intro heq
    have hpoint : ∀ i, i < count → ∃ x, entries[i]? = some x ∧ EntryLegal b i ∧ givenEntry b i = x := fun i hi => by
      have hat := congrArg (·[i]?) heq
      simp only [List.getElem?_map, List.getElem?_range hi, Option.map_some] at hat
      cases hx : entries[i]? with
      | none => rw [hx] at hat; cases hat
      | some x =>
        rw [hx] at hat
        exact ⟨x, rfl, (nailEntryAt_eq_some_iff b i x).mp (Option.some.inj hat)⟩
    have hlen : entries.length = count := by simpa using (congrArg List.length heq).symm
    refine ⟨fun i hi => ?_, List.ext_getElem? fun i => ?_⟩
    · obtain ⟨_, _, hlegal, _⟩ := hpoint i hi
      exact hlegal
    · by_cases hi : i < count
      · obtain ⟨x, hx, _, hgiven⟩ := hpoint i hi
        rw [hx, List.getElem?_map, List.getElem?_range hi, Option.map_some, hgiven]
      · rw [List.getElem?_eq_none (by omega), List.getElem?_eq_none (by simpa using hi)]
  · rintro ⟨hlegal, rfl⟩
    rw [List.map_map]
    exact List.map_congr_left fun i hi =>
      (nailEntryAt_eq_some_iff b i _).mpr ⟨hlegal i (List.mem_range.mp hi), rfl⟩

/-- A run written: the cursor moves past it, and its nails read as given (R9). -/
theorem Part.writeRun_spec {p : Part} (h : tableWf NailEntry.unlisted p.map.nails = true) (first count : Nat)
    (f : Nat → NailEntry) :
    ∃ nails, p.writeRun (numbered first count f) =
        { p with map := { p.map with nails := nails, cursor := p.map.cursor + count } } ∧
      tableWf NailEntry.unlisted nails = true ∧
      ∀ n, lookup .unlisted nails n = if first ≤ n ∧ n < first + count then f (n - first) else p.nail n := by
  obtain ⟨nails, heq⟩ := Part.foldl_setNail_eq (fun x => x.2) (numbered first count f) p
  have hnails : nails = ((numbered first count f).foldl (fun p x => p.setNail x.1 x.2) p).map.nails :=
    (congrArg (·.map.nails) heq).symm
  refine ⟨nails, ?_, hnails ▸ Part.foldl_setNail_wf _ _ p h, fun n => ?_⟩
  · rw [Part.writeRun, heq, numbered, List.length_map, List.length_range]
    rfl
  · have hread := Part.nail_foldl_setNail (fun x => x.2) (fun m => f (m - first)) (numbered first count f) p h
      (fun x hx => (mem_numbered.mp hx).2.2) n
    rw [hnails]
    refine hread.trans ?_
    have hmem : n ∈ (numbered first count f).map (·.1) ↔ first ≤ n ∧ n < first + count := by
      simp only [List.mem_map, mem_numbered]
      constructor
      · rintro ⟨x, ⟨h1, h2, _⟩, rfl⟩
        exact ⟨h1, h2⟩
      · rintro ⟨h1, h2⟩
        exact ⟨(n, f (n - first)), ⟨h1, h2, rfl⟩, rfl⟩
    simp only [hmem]

/-- A run that passes the checks of MAP_NAILS leaves the nail table in order. -/
theorem Part.NailsOk.writeRun {p : Part} (h : p.NailsOk) {first count : Nat} {f : Nat → NailEntry}
    (hnets : ∀ i, i < count → (f i).net ≤ Config.maxNet) (hover : p.overfullNail (numbered first count f) = none) :
    (p.writeRun (numbered first count f)).NailsOk := by
  obtain ⟨nails, heq, htable, hread⟩ := p.writeRun_spec h.table first count f
  rw [heq]
  refine .of_nail htable (fun n => ?_) fun net h0 l hl hnet => ?_
  · change (lookup .unlisted nails n).net ≤ _
    rw [hread]
    split
    next hin => exact hnets _ (by omega)
    · exact h.net_le n
  · refine Classical.byContradiction fun hnot => ?_
    have hall : ∀ x ∈ numbered first count f, x.1 ≤ first + count := fun x hx => (mem_numbered.mp hx).2.1.le
    have hlanded : ∀ n ∈ l, n ∈ p.landed (numbered first count f) (first + count) net := fun n hn => by
      rw [p.mem_landed h.table h0, ← hnet n hn]
      change _ = (lookup NailEntry.unlisted nails n).net
      rw [hread, Part.netAt]
      by_cases hin : first ≤ n ∧ n < first + count
      · by_cases hsame : (f (n - first)).net = (p.nail n).net
        · rw [if_neg fun hc => hc.2.2 hsame, if_pos hin, hsame]
        · rw [if_pos ⟨hin.1, hin.2, hsame⟩, if_pos hin.2.le, if_pos hin]
      · rw [if_neg fun hc => hin ⟨hc.1, hc.2.1⟩, if_neg hin]
    have hlong := length_le_of_nodup_subset hl hlanded
    obtain ⟨x, hx, hninth⟩ := Part.exists_bringsNinth h h0 hall (k := first + count) (net := net) (by omega)
    rw [Part.overfullNail_eq, Option.map_eq_none_iff, List.find?_eq_none] at hover
    exact hover x hx hninth

theorem ownMapNails_nailsOk (b : List Byte) {v : Ev} (h : v.p.NailsOk) : (ownMapNails b v).p.NailsOk := by
  unfold ownMapNails
  dsimp only
  split_ifs
  · simpa using h
  · simpa using h
  · simpa using h
  · simpa using h
  · split
    · simpa using h
    next entries hentries =>
      obtain ⟨hlegal, rfl⟩ := (mapNailsEntries_eq_some_iff _ _ _).mp hentries
      rw [runOf_map_range]
      split
      · simpa using h
      · simpa using h
      next hover =>
        rw [Ev.reply_p]
        exact h.writeRun (fun i hi => (hlegal i hi).1) hover

theorem Part.unmarked_nailsOk {p : Part} (h : p.NailsOk) : p.unmarked.NailsOk := by
  obtain ⟨nails, heq, htable, hread⟩ := p.unmarked_spec h.table
  rw [heq]
  refine h.of_nets htable fun n => ?_
  change (lookup .unlisted nails n).net = _
  rw [hread]
  split <;> rfl

/-! ### MAP_NAILS -/

/-- A request whose length is right or free, taken at once, leaves the part that its owner's act closes with (R186). -/
theorem exec_requestOf_taken {s : State} {number : Byte} {body : List Byte} (k : RequestKind) (h : s.Serving number)
    (hl : k.bodyLength = some body.length ∨ k.bodyLength = none) {q : Part}
    (hq : (owner k body (Ev.start (s.part.taking number k.code))).close = q) :
    exec (requestOf k number body) s = .next { s with part := q } := by
  rw [exec_requestOf, offerRequest_serving s number k body h hl, hq]

/-- What MAP_NAILS answers to a run whose entries are legal (R8 checks 6 and 7, R9). -/
def Part.nailsAnswer (p : Part) (number : Byte) (run : List (Nat × NailEntry)) : Part :=
  match p.absentNail run, p.overfullNail run with
  | some n, _ => p.refusedWith number 0x11 .nailAbsent (some n)
  | none, some n => p.refusedWith number 0x11 .netFull (some n)
  | none, none => (p.writeRun run).repliedWith number 0x11 .done

theorem Part.writeRun_taking (p : Part) (number kind : Byte) (run : List (Nat × NailEntry)) :
    (p.taking number kind).writeRun run = (p.writeRun run).taking number kind := by
  unfold Part.writeRun
  exact congrArg (fun p : Part => p.onMap fun m => { m with cursor := m.cursor + run.length })
    (List.foldl_hom (fun p : Part => p.taking number kind) (fun _ _ => rfl))

/-- What MAP_NAILS answers to a body of its length whose run fits (R8 checks 5 to 7, R9). -/
def Part.runAnswer (p : Part) (number : Byte) (b : List Byte) : Part :=
  match mapNailsEntries b (byteAt b 0) with
  | none => p.refusedWith number 0x11 .badValue none
  | some entries => p.nailsAnswer number (runOf p.map.cursor entries)

/-- MAP_NAILS's checks in their order, and the run written (R8, R9). -/
theorem ownMapNails_close (p : Part) (number : Byte) (b : List Byte) :
    (ownMapNails b (Ev.start (p.taking number 0x11))).close =
      if p.map.state = .frozen then p.refusedWith number 0x11 .mapFrozen none
      else if b.length ≠ 1 + 3 * byteAt b 0 then p.refusedWith number 0x11 .badLength none
      else if byteAt b 0 = 0 ∨ 64 < byteAt b 0 then p.refusedWith number 0x11 .badValue none
      else if 4096 < p.map.cursor + byteAt b 0 then p.refusedWith number 0x11 .badValue none
      else p.runAnswer number b := by
  have hempty : (b = [] ∨ b.length ≠ 1 + 3 * byteAt b 0) ↔ b.length ≠ 1 + 3 * byteAt b 0 := by
    refine or_iff_right_of_imp fun hb => ?_
    rw [hb, List.length_nil]
    omega
  have hrefuse := fun st d => Ev.close_refuse_taking p number 0x11 st d
  have hpart : (Ev.start (p.taking number 0x11)).p = p.taking number 0x11 := rfl
  have hmap : (p.taking number 0x11).map = p.map := rfl
  have habsent : ∀ run, (p.taking number 0x11).absentNail run = p.absentNail run := fun _ => rfl
  have hover : ∀ run, (p.taking number 0x11).overfullNail run = p.overfullNail run := fun _ => rfl
  unfold ownMapNails Part.runAnswer
  simp only [hempty, hpart, hmap, habsent, hover, Config.nails]
  split_ifs
  · exact hrefuse _ _
  · exact hrefuse _ _
  · exact hrefuse _ _
  · exact hrefuse _ _
  · cases mapNailsEntries b (byteAt b 0) with
    | none => exact hrefuse _ _
    | some entries =>
      unfold Part.nailsAnswer
      dsimp only
      cases p.absentNail (runOf p.map.cursor entries) with
      | some n => exact hrefuse _ _
      | none =>
        cases p.overfullNail (runOf p.map.cursor entries) with
        | some n => exact hrefuse _ _
        | none => exact Ev.close_reply_taking p _ number 0x11 _ .done (p.writeRun_taking number 0x11 _)

/-- What is first found in a numbered run stands at the first place that meets the condition. -/
theorem find?_numbered_eq_some {first count : Nat} {f : Nat → NailEntry} {P : Nat × NailEntry → Bool} {i : Nat}
    (hi : i < count) (hP : P (first + i, f i) = true) (hfirst : ∀ j, j < i → P (first + j, f j) = false) :
    ((numbered first count f).find? P).map (·.1) = some (first + i) := by
  have hfind : (List.range count).find? (P ∘ fun i => (first + i, f i)) = some i :=
    List.find?_range_eq_some.mpr ⟨hP, List.mem_range.mpr hi, fun j hj => by simp [hfirst j hj]⟩
  rw [numbered, List.find?_map, hfind]
  rfl

theorem find?_numbered_eq_none {first count : Nat} {f : Nat → NailEntry} {P : Nat × NailEntry → Bool}
    (h : ∀ i, i < count → P (first + i, f i) = false) : ((numbered first count f).find? P).map (·.1) = none := by
  rw [Option.map_eq_none_iff, List.find?_eq_none]
  intro x hx
  obtain ⟨i, hi, rfl⟩ := List.mem_map.mp hx
  simp [h i (List.mem_range.mp hi)]

/-- Settles O13: the entries of a legal body are a numbered run, of which each check names the first nail it finds; the nails
on a net after the arrivals up to one nail are counted by `Part.landed`. -/
theorem mapNailsChecksTheWholeRunThenWritesIt : Obligations.MapNailsChecksTheWholeRunThenWritesIt := by
  intro s number body hserving hok count first net condition old absent netWith nineOn full refused counted inRange legal
  have hexec := exec_requestOf_taken .mapNails (body := body) hserving (.inr rfl)
    (ownMapNails_close s.part number body)
  have hcounted : counted → s.part.map.state ≠ .frozen ∧ ¬ body.length ≠ 1 + 3 * byteAt body 0 :=
    fun hc => ⟨fun hf => (by cases hc.1.symm.trans hf), not_not.mpr hc.2⟩
  have hrange : inRange → exec (.mapNails number body) s =
      .next { s with part := s.part.runAnswer number body } := by
    rintro ⟨hc, h1, h64, hfit⟩
    obtain ⟨he, hlen⟩ := hcounted hc
    refine hexec.trans ?_
    rw [if_neg he, if_neg hlen, if_neg (by omega), if_neg (not_lt.mpr hfit)]
  have hlegal : legal → exec (.mapNails number body) s =
      .next { s with part := s.part.nailsAnswer number (numbered first count (givenEntry body)) } := by
    rintro ⟨hin, hall⟩
    rw [hrange hin, Part.runAnswer, (mapNailsEntries_eq_some_iff body count _).mpr ⟨hall, rfl⟩]
    dsimp only
    rw [runOf_map_range]
  let run := numbered first count (givenEntry body)
  have hfull : ∀ i, i < count → (s.part.bringsNinth run (first + i, givenEntry body i) = true ↔ full i) := fun i hi => by
    have hnine : net i ≠ 0 → (8 < (s.part.landed run (first + i) (net i)).length ↔ _) :=
      fun h0 => Part.landed_over_iff hok.table (k := first + i) h0
    rw [Part.bringsNinth, Part.arrives]
    simp only [Bool.and_eq_true, decide_eq_true_eq, true_and]
    constructor
    · rintro ⟨⟨h0, hne⟩, hover⟩
      exact ⟨hi, Ne.symm hne, h0, (hnine h0).mp hover⟩
    · rintro ⟨_, hne, h0, hl⟩
      exact ⟨⟨h0, Ne.symm hne⟩, (hnine h0).mpr hl⟩
  have habsentAt : ∀ i, i < count → ((decide ((givenEntry body i).net ≠ 0) &&
      decide ((s.part.card (cardOf (first + i))).status = .absent)) = true ↔ absent i) := fun i hi => by
    simp only [Bool.and_eq_true, decide_eq_true_eq]
    exact ⟨fun ⟨h0, ha⟩ => ⟨hi, h0, ha⟩, fun ⟨_, h0, ha⟩ => ⟨h0, ha⟩⟩
  have hnoAbsent : (∀ i, ¬ absent i) → s.part.absentNail run = none := fun hnone =>
    find?_numbered_eq_none fun i hi => Bool.eq_false_iff.mpr fun ha => hnone i ((habsentAt i hi).mp ha)
  refine ⟨fun hf => ?_, fun he hlen => ?_, fun hc hnot => ?_, fun hin hnot => ?_, fun hl i hi hfirst => ?_,
    fun hl hnone i hi hfirst => ?_, fun hl m hm => ?_, fun hl hnone hnotFull => ?_⟩
  · exact hexec.trans (by rw [if_pos hf])
  · refine hexec.trans ?_
    rw [if_neg (fun hf => by cases he.symm.trans hf), if_pos hlen]
  · obtain ⟨he, hlen⟩ := hcounted hc
    refine hexec.trans ?_
    rw [if_neg he, if_neg hlen]
    split
    · rfl
    next hcount =>
      rw [if_pos]
      refine Classical.byContradiction fun hfit => hnot ⟨hc, ?_, ?_, not_lt.mp hfit⟩
      · exact Nat.pos_of_ne_zero fun h0 => hcount (.inl h0)
      · exact not_lt.mp fun h64 => hcount (.inr h64)
  · refine (hrange hin).trans ?_
    rw [Part.runAnswer]
    cases hentries : mapNailsEntries body (byteAt body 0) with
    | none => rfl
    | some entries => exact absurd ⟨hin, ((mapNailsEntries_eq_some_iff _ _ _).mp hentries).1⟩ hnot
  · have hfound : s.part.absentNail run = some (first + i) :=
      find?_numbered_eq_some hi.1 ((habsentAt i hi.1).mpr hi)
        fun j hj => Bool.eq_false_iff.mpr fun ha => hfirst j hj ((habsentAt j (hj.trans hi.1)).mp ha)
    refine (hlegal hl).trans ?_
    rw [Part.nailsAnswer, show s.part.absentNail (numbered first count (givenEntry body)) = _ from hfound]
  · have hfound : s.part.overfullNail run = some (first + i) := by
      rw [Part.overfullNail_eq]
      exact find?_numbered_eq_some hi.1 ((hfull i hi.1).mpr hi)
        fun j hj => Bool.eq_false_iff.mpr fun ha => hfirst j hj ((hfull j (hj.trans hi.1)).mp ha)
    refine (hlegal hl).trans ?_
    rw [Part.nailsAnswer, show s.part.absentNail (numbered first count (givenEntry body)) = _ from hnoAbsent hnone,
      show s.part.overfullNail (numbered first count (givenEntry body)) = _ from hfound]
  · obtain ⟨h0, hnine⟩ := hm
    obtain ⟨hin, _⟩ := hl
    obtain ⟨_, h1, _⟩ := hin
    obtain ⟨x, hx, hninth⟩ := Part.exists_bringsNinth hok h0 (k := first + (count - 1))
      (run := run) (fun x hx => by have := (mem_numbered.mp hx).2.1; omega)
      ((Part.landed_over_iff hok.table h0).mpr hnine)
    obtain ⟨i, hi, rfl⟩ := List.mem_map.mp hx
    exact ⟨i, (hfull i (List.mem_range.mp hi)).mp hninth⟩
  · obtain ⟨nails, heq, htable, hread⟩ := s.part.writeRun_spec hok.table first count (givenEntry body)
    have hover : s.part.overfullNail run = none := by
      rw [Part.overfullNail_eq]
      exact find?_numbered_eq_none fun i hi => Bool.eq_false_iff.mpr fun ha => hnotFull i ((hfull i hi).mp ha)
    refine ⟨nails, htable, hread, (hlegal hl).trans ?_⟩
    rw [Part.nailsAnswer, show s.part.absentNail (numbered first count (givenEntry body)) = _ from hnoAbsent hnone,
      show s.part.overfullNail (numbered first count (givenEntry body)) = _ from hover, heq]

end Sys2Proof.Machine

/-! PROOFS. The tables: every step keeps the nail table in form and the ring in order with the steps the engines hold (R1, R2,
R36, R39, R40, R43, R64). -/

namespace Sys2Proof.Machine

/-! ### SUSPECT marks (R67) -/

/-- All that making the nails of a list SUSPECT does: each that is GOOD becomes SUSPECT on its net. -/
theorem Part.foldl_suspect_spec (l : List Nat) {p : Part} (h : tableWf NailEntry.unlisted p.map.nails = true) :
    ∃ nails, l.foldl (fun p n =>
        if (p.nail n).condition = .good then p.setNail n { p.nail n with condition := .suspect } else p) p =
        { p with map := { p.map with nails := nails } } ∧
      tableWf NailEntry.unlisted nails = true ∧
      ∀ m, lookup .unlisted nails m =
        if m ∈ l ∧ (p.nail m).condition = .good then ⟨(p.nail m).net, .suspect⟩ else p.nail m := by
  induction l generalizing p with
  | nil => exact ⟨p.map.nails, rfl, h, fun m => by simp [Part.nail]⟩
  | cons n l ih =>
    rw [List.foldl_cons]
    by_cases hgood : (p.nail n).condition = .good
    · rw [if_pos hgood]
      obtain ⟨nails, heq, htable, hread⟩ := ih (p.setNail_wf h n { p.nail n with condition := .suspect })
      refine ⟨nails, heq, htable, fun m => ?_⟩
      rw [hread, p.nail_setNail h]
      by_cases hm : m = n
      · subst hm; simp [hgood]
      · simp [hm]
    · rw [if_neg hgood]
      obtain ⟨nails, heq, htable, hread⟩ := ih h
      refine ⟨nails, heq, htable, fun m => ?_⟩
      rw [hread]
      by_cases hm : m = n
      · subst hm; simp [hgood]
      · simp [hm]

/-- The SUSPECT marks of a completion: the GOOD nails that a successful retry replaced. -/
theorem Part.markReplaced_spec {p : Part} (h : tableWf NailEntry.unlisted p.map.nails = true) (x : Entry)
    (verdict : Verdict) :
    ∃ nails, p.markReplaced x verdict = { p with map := { p.map with nails := nails } } ∧
      tableWf NailEntry.unlisted nails = true ∧
      ∀ m, lookup .unlisted nails m =
        if x.retrying = true ∧ verdict ≠ .openCircuit ∧ m ∈ x.excluded ∧ (p.nail m).condition = .good
        then ⟨(p.nail m).net, .suspect⟩ else p.nail m := by
  unfold Part.markReplaced
  by_cases hmark : x.retrying ∧ verdict ≠ .openCircuit
  · rw [if_pos hmark]
    obtain ⟨nails, heq, htable, hread⟩ := p.foldl_suspect_spec x.excluded h
    exact ⟨nails, heq, htable, fun m => by rw [hread]; simp [hmark.1, hmark.2]⟩
  · rw [if_neg hmark]
    refine ⟨p.map.nails, rfl, h, fun m => ?_⟩
    rw [if_neg fun hc => hmark ⟨hc.1, hc.2.1⟩]
    rfl

theorem Part.NailsOk.markReplaced {p : Part} (h : p.NailsOk) (x : Entry) (verdict : Verdict) :
    (p.markReplaced x verdict).NailsOk := by
  obtain ⟨nails, heq, htable, hread⟩ := p.markReplaced_spec h.table x verdict
  rw [heq]
  refine h.of_nets htable fun n => ?_
  change (lookup .unlisted nails n).net = _
  rw [hread]
  split <;> rfl

theorem Part.NailsOk.of_eq {p q : Part} (h : p.NailsOk) (hq : q.map.nails = p.map.nails) : q.NailsOk :=
  h.of_nets (hq ▸ h.table) fun n => by rw [Part.nail, Part.nail, hq]

theorem Part.NailsOk.of_empty {p : Part} (h : p.map.nails = []) : p.NailsOk := by
  have hnail : ∀ n, (p.nail n).net = 0 := fun n => by rw [Part.nail, h]; rfl
  refine .of_nail (by rw [h]; rfl) (fun n => by rw [hnail]; exact Nat.zero_le _) fun net h0 l _ hl => ?_
  cases l with
  | nil => exact Nat.zero_le _
  | cons n _ => exact absurd ((hl n List.mem_cons_self).symm.trans (hnail n)) h0

theorem Ev.releaseStep_nailsOk {v : Ev} (c : Completion) (h : v.p.NailsOk) : (v.releaseStep c).p.NailsOk := by
  cases hx : v.p.disp.inFlight.get c.engine with
  | none => rw [Ev.releaseStep_of_none hx, Ev.released_p]; exact h.of_eq rfl
  | some x => rw [Ev.releaseStep_of_some hx, Ev.released_p]; exact (h.markReplaced x c.verdict).of_eq rfl

/-! ### The ring of steps that begin and end -/

theorem Ring.InRange.endedBy {r : Ring} (h : r.InRange) (origin : Option Nat) : (r.endedBy origin).InRange := by
  cases origin with
  | none => exact h
  | some i => exact (h.setState i .done).advanceNext.retireFrom _

theorem Ring.InRange.begunBy {r : Ring} (h : r.InRange) (origin : Option Nat) : (r.begunBy origin).InRange := by
  cases origin with
  | none => exact h
  | some i => exact (h.setState i .active).advanceNext

theorem Ring.InRange.discardPending {r : Ring} (h : r.InRange) : r.discardPending.InRange := by
  obtain ⟨hr, _, _, _, _, _⟩ := Ring.foldl_setState_spec .done r.pendingSlots h
  obtain ⟨hhead, _, hcommit⟩ := hr.positions
  have hdiscarded : r.discarded.InRange := ⟨hr.table, hhead, h.positions.2.2, hcommit⟩
  exact hdiscarded.retireFrom _

/-- An ACTIVE slot other than the one whose step ended stays ACTIVE. -/
theorem Ring.Ok.stateOf_endedBy {r : Ring} (h : r.Ok) {origin : Option Nat} {i : Nat} (hi : r.stateOf i = .active)
    (hne : origin ≠ some i) (horigin : ∀ k, origin = some k → k < 1024 ∧ (r.stateOf k = .active ∨ r.stateOf k = .pending)) :
    (r.endedBy origin).stateOf i = .active := by
  cases origin with
  | none => exact hi
  | some k =>
    obtain ⟨hk, hst⟩ := horigin k rfl
    have hik : i ≠ k := fun heq => hne (heq ▸ rfl)
    have hleft : ((r.setState k .done).advanceNext).stateOf i = .active := by
      rw [Ring.advanceNext_stateOf, Ring.stateOf_setState h.range, if_neg hik, hi]
    rcases (h.sound.leave hk hst.symm (.inr rfl)).stateOf_retire i with heq | ⟨hdone, _⟩
    · exact heq.trans hleft
    · rw [hleft] at hdone; cases hdone

theorem Ring.Ok.endedBy {r : Ring} (h : r.Ok) {origin : Option Nat}
    (horigin : ∀ k, origin = some k → k < 1024 ∧ (r.stateOf k = .active ∨ r.stateOf k = .pending)) :
    (r.endedBy origin).Ok := by
  cases origin with
  | none => exact h
  | some k =>
    obtain ⟨hk, hst⟩ := horigin k rfl
    exact h.finish hk hst

theorem Ring.Ok.begunBy {r : Ring} (h : r.Ok) {origin : Option Nat} (horigin : ∀ k, origin = some k → k ∈ r.pendingSlots) :
    (r.begunBy origin).Ok := by
  cases origin with
  | none => exact h
  | some k => exact h.begin (horigin k rfl)

/-- The slots ACTIVE once a step has begun. -/
theorem Ring.InRange.stateOf_begunBy {r : Ring} (h : r.InRange) (origin : Option Nat) {i : Nat}
    (hi : r.stateOf i = .active ∨ origin = some i) : (r.begunBy origin).stateOf i = .active := by
  cases origin with
  | none => exact hi.resolve_right nofun
  | some k =>
    change ((r.setState k .active).advanceNext).stateOf i = .active
    rw [Ring.advanceNext_stateOf, Ring.stateOf_setState h]
    split
    · rfl
    next hik => exact hi.resolve_right fun heq => hik (Option.some.inj heq).symm

/-! ### What the owners write of the ring -/

/-- What a request of the test host does to the ring: nothing, a reset in STOPPED, a record staged or a run committed. -/
inductive Part.RingWritten (p : Part) : Ring → Prop
  | kept : p.RingWritten p.ring
  | reset (h : p.disp.seq = .stopped) : p.RingWritten .reset
  | staged (i : Nat) (r : StepRecord) (h : p.ring.isLive i = false) : p.RingWritten (p.ring.setSlot i ⟨.staged, some r⟩)
  | committed (c : Nat) (hc : c < 1024) (hne : c ≠ p.ring.commit) (hroom : p.ring.live + p.ring.commitCount c ≤ 1023)
      (hstaged : ∀ i ∈ ringRun p.ring.commit (p.ring.commitCount c), p.ring.stateOf i = .staged) :
      p.RingWritten (p.ring.commitTo c)

theorem ownMapNails_part (b : List Byte) (v : Ev) : (ownMapNails b v).p.disp = v.p.disp ∧ (ownMapNails b v).p.ring = v.p.ring := by
  unfold ownMapNails
  dsimp only
  split_ifs
  · simp
  · simp
  · simp
  · simp
  · split
    · simp
    · split
      · simp
      · simp
      · rw [Ev.reply_p, Ev.map_p]
        obtain ⟨nails, heq⟩ := v.p.writeRun_steady (runOf v.p.map.cursor _)
        rw [heq]
        exact ⟨rfl, rfl⟩

/-- The owners that write the nail table or the ring leave the steps in flight, and do to the ring what they may. -/
theorem owner_ring {k : RequestKind}
    (hk : k ∈ [RequestKind.mapNails, .mapUnmark, .mapClear, .stepWrite, .stepCommit, .ringReset]) (b : List Byte)
    (v : Ev) : (owner k b v).p.disp.inFlight = v.p.disp.inFlight ∧ v.p.RingWritten (owner k b v).p.ring := by
  have hrefuse : ∀ st d, (v.refuse st d).p.disp.inFlight = v.p.disp.inFlight ∧ v.p.RingWritten (v.refuse st d).p.ring := by
    intro st d
    simp only [Ev.refuse_p, true_and]
    exact .kept
  simp only [List.mem_cons, List.not_mem_nil, or_false] at hk
  rcases hk with rfl | rfl | rfl | rfl | rfl | rfl
  · change (ownMapNails b v).p.disp.inFlight = _ ∧ v.p.RingWritten (ownMapNails b v).p.ring
    obtain ⟨hdisp, hring⟩ := ownMapNails_part b v
    rw [hdisp, hring]
    exact ⟨rfl, .kept⟩
  · obtain ⟨nails, heq⟩ := Part.foldl_setNail_eq (fun x => { x.2 with condition := .good }) v.p.map.suspects v.p
    change (ownMapUnmark b v).p.disp.inFlight = _ ∧ v.p.RingWritten (ownMapUnmark b v).p.ring
    unfold ownMapUnmark
    dsimp only
    rw [Ev.reply_p, Ev.map_p, heq]
    exact ⟨rfl, .kept⟩
  · change (ownMapClear b v).p.disp.inFlight = _ ∧ v.p.RingWritten (ownMapClear b v).p.ring
    unfold ownMapClear
    split
    · exact hrefuse _ _
    next hstopped =>
      split
      · exact hrefuse _ _
      · rw [Ev.reply_p]
        exact ⟨rfl, .reset (not_not.mp hstopped)⟩
  · change (ownStepWrite b v).p.disp.inFlight = _ ∧ v.p.RingWritten (ownStepWrite b v).p.ring
    unfold ownStepWrite
    dsimp only
    split
    · exact hrefuse _ _
    · split
      · exact hrefuse _ _
      · split
        · exact hrefuse _ _
        next hlive =>
          split
          · exact hrefuse _ _
          · rw [Ev.reply_p]
            exact ⟨rfl, .staged _ _ (Bool.eq_false_iff.mpr hlive)⟩
  · change (ownStepCommit b v).p.disp.inFlight = _ ∧ v.p.RingWritten (ownStepCommit b v).p.ring
    unfold ownStepCommit
    dsimp only
    split
    · exact hrefuse _ _
    next hc =>
      split
      · exact hrefuse _ _
      next hne =>
        split
        · exact hrefuse _ _
        next hroom =>
          split
          · exact hrefuse _ _
          next hfind =>
            have hstaged : ∀ i ∈ ringRun v.p.ring.commit (v.p.ring.commitCount (u16At b 0)), v.p.ring.stateOf i = .staged := by
              simpa [List.find?_eq_none] using hfind
            have hwritten := Part.RingWritten.committed (p := v.p) (u16At b 0) (not_le.mp hc) hne (not_lt.mp hroom) hstaged
            rw [Ev.commitReported_eq]
            dsimp only
            split
            · simpa [Ev.enterSeq_p, Part.onRing] using hwritten
            · simpa [Part.onRing] using hwritten
  · change (ownRingReset b v).p.disp.inFlight = _ ∧ v.p.RingWritten (ownRingReset b v).p.ring
    unfold ownRingReset
    split
    · exact hrefuse _ _
    next hstopped =>
      rw [Ev.reply_p]
      exact ⟨rfl, .reset (not_not.mp hstopped)⟩

theorem owner_nailsOk {k : RequestKind}
    (hk : k ∈ [RequestKind.mapNails, .mapUnmark, .mapClear, .stepWrite, .stepCommit, .ringReset]) (b : List Byte)
    {v : Ev} (h : v.p.NailsOk) : (owner k b v).p.NailsOk := by
  have hrefuse : ∀ st d, (v.refuse st d).p.NailsOk := fun st d => by rw [Ev.refuse_p]; exact h
  simp only [List.mem_cons, List.not_mem_nil, or_false] at hk
  rcases hk with rfl | rfl | rfl | rfl | rfl | rfl
  · exact ownMapNails_nailsOk b h
  · change (ownMapUnmark b v).p.NailsOk
    unfold ownMapUnmark
    rw [Ev.reply_p]
    exact Part.unmarked_nailsOk h
  · change (ownMapClear b v).p.NailsOk
    unfold ownMapClear
    split_ifs
    · exact hrefuse _ _
    · exact hrefuse _ _
    · rw [Ev.reply_p]; exact .of_empty rfl
  · change (ownStepWrite b v).p.NailsOk
    unfold ownStepWrite
    dsimp only
    split_ifs
    · exact hrefuse _ _
    · exact hrefuse _ _
    · exact hrefuse _ _
    · split
      · exact hrefuse _ _
      · rw [Ev.reply_p]; exact h.of_eq rfl
  · change (ownStepCommit b v).p.NailsOk
    unfold ownStepCommit
    dsimp only
    split_ifs
    · exact hrefuse _ _
    · exact hrefuse _ _
    · exact hrefuse _ _
    · split
      · exact hrefuse _ _
      · rw [Ev.commitReported_eq]
        refine h.of_eq ?_
        dsimp only
        split <;> simp [Ev.enterSeq_p, Part.onRing]
  · change (ownRingReset b v).p.NailsOk
    unfold ownRingReset
    split
    · exact hrefuse _ _
    · rw [Ev.reply_p]; exact h.of_eq rfl

theorem Part.RingWritten.inRange {p : Part} {r : Ring} (h : p.RingWritten r) (hr : p.ring.InRange) : r.InRange := by
  cases h with
  | kept => exact hr
  | reset => exact Ring.reset_ok.range
  | staged i x _ => exact hr.setSlot i _
  | committed c hc =>
    obtain ⟨h1, h2, h3, _⟩ := Ring.foldl_setState_spec .pending (ringRun p.ring.commit (p.ring.commitCount c)) hr
    obtain ⟨hhead, hnext, _⟩ := hr.positions
    exact ⟨h1.table, h2 ▸ hhead, h3 ▸ hnext, hc⟩

/-! ### The tables in form -/

/-- The nail table in form and the ring's positions in range. -/
def Part.TablesOk (p : Part) : Prop := p.NailsOk ∧ p.ring.InRange

theorem tablesOkKept : WorkKept fun v => v.p.TablesOk where
  tuned hv h := ⟨hv.1.of_eq h.part.nails, h.part.ring ▸ hv.2⟩
  requeued hv _ h _ := ⟨hv.1.of_eq h.nails, h.ring ▸ hv.2⟩
  scanEnded hv _ h _ _ _ := ⟨hv.1.of_eq h.nails, h.ring ▸ hv.2.endedBy _⟩
  stepEnded hv _ _ h _ _ _ := ⟨hv.1.of_eq h.nails, h.ring ▸ hv.2.endedBy _⟩
  began hv _ _ _ _ _ h _ _ := ⟨hv.1.of_eq h.nails, h.ring ▸ hv.2.begunBy _⟩
  failed hv _ _ h _ := ⟨hv.1.of_eq h.nails, h.ring ▸ hv.2.endedBy _⟩
  replanned hv _ _ := ⟨hv.1.of_eq rfl, hv.2⟩
  released {v c rest} hv _ := by
    refine ⟨Ev.releaseStep_nailsOk (v := { v with completions := rest }) c hv.1, ?_⟩
    obtain ⟨nails, heq⟩ := ({ v with completions := rest } : Ev).releaseStep_p c
    rw [heq]
    exact hv.2
  restarted _ _ _ := ⟨.of_empty rfl, Ring.reset_ok.range⟩
  discarded _ hv := ⟨hv.1.of_eq rfl, hv.2.discardPending⟩

/-! ### The ring in order with the steps in flight -/

theorem Engine.Tuned.work_before {g h : Engine} (hgh : g.Tuned h) {w : Work} (hh : h.work = some w) :
    ∃ x, g.work = some x ∧ x.origin = w.origin := by
  have hjob := hgh.job
  simp only [Engine.job, hh, Option.map_some] at hjob
  obtain ⟨x, hx, heq⟩ := Option.map_eq_some_iff.mp hjob.symm
  exact ⟨x, hx, congrArg Prod.fst heq⟩

/-- The ring in order with the steps the engines hold, the queue in its bounds, and every completion that waits one of an
engine that holds no step. -/
structure Ev.RingHeld (v : Ev) : Prop where
  queue : v.p.QueueOk
  ring : v.p.RingOk
  completed : ∀ c ∈ v.completions, (v.p.engine c.engine).work = none

/-- The engines keep their steps, the ring its order, and the slots of those steps are ACTIVE. -/
theorem Part.RingOk.of_engines {p q : Part} (h : p.RingOk) (hring : q.ring.Ok)
    (hworks : ∀ e w, (q.engine e).work = some w → ∃ x, (p.engine e).work = some x ∧ x.origin = w.origin)
    (hactive : ∀ e w i, (q.engine e).work = some w → w.origin = some i → p.ring.stateOf i = .active →
      q.ring.stateOf i = .active)
    (hflight : ∀ e w, (q.engine e).work = some w → ∀ x, p.disp.inFlight.get e = some x →
      ∃ y, q.disp.inFlight.get e = some y ∧ y.origin = x.origin)
    (hscan : ∀ info, q.scanner.scan = some info → ∃ w, (q.engine info.engine).work = some w ∧ w.origin = info.origin) :
    q.RingOk where
  ring := hring
  active e w i hw hi := by
    obtain ⟨x, hx, horigin⟩ := hworks e w hw
    obtain ⟨hlt, hst⟩ := h.active e x i hx (horigin.trans hi)
    exact ⟨hlt, hactive e w i hw hi hst⟩
  apart e f w x i hef hw hx hi hi' := by
    obtain ⟨w', hw', h1⟩ := hworks e w hw
    obtain ⟨x', hx', h2⟩ := hworks f x hx
    exact h.apart e f w' x' i hef hw' hx' (h1.trans hi) (h2.trans hi')
  entries e w hw := by
    obtain ⟨x, hx, horigin⟩ := hworks e w hw
    obtain ⟨y, hy, hy'⟩ := h.entries e x hx
    obtain ⟨z, hz, hz'⟩ := hflight e w hw y hy
    exact ⟨z, hz, hz'.trans (hy'.trans horigin)⟩
  scan := hscan

theorem Part.RingOk.scan_of_tuned {p q : Part} (h : p.RingOk) (hengines : ∀ e, (p.engine e).Tuned (q.engine e))
    (hscan : q.scanner.scan = p.scanner.scan) :
    ∀ info, q.scanner.scan = some info → ∃ w, (q.engine info.engine).work = some w ∧ w.origin = info.origin := by
  intro info hi
  obtain ⟨w, hw, horigin⟩ := h.scan info (hscan ▸ hi)
  obtain ⟨x, hx, hx', _⟩ := (hengines info.engine).work_some hw
  exact ⟨x, hx, hx'.trans horigin⟩

/-- The steps in hand stand, and each ACTIVE slot of one stays ACTIVE. -/
theorem Part.RingOk.of_tuned {p q : Part} (h : p.RingOk) (hring : q.ring.Ok)
    (hengines : ∀ e, (p.engine e).Tuned (q.engine e))
    (hactive : ∀ i, p.ring.stateOf i = .active → q.ring.stateOf i = .active)
    (hflight : q.disp.inFlight = p.disp.inFlight) (hscan : q.scanner.scan = p.scanner.scan) : q.RingOk :=
  h.of_engines hring (fun e _ hw => (hengines e).work_before hw) (fun _ _ i _ _ hi => hactive i hi)
    (fun _ _ _ x hx => ⟨x, hflight ▸ hx, rfl⟩) (h.scan_of_tuned hengines hscan)

/-- The step of one engine has ended. -/
theorem Part.RingOk.ended {p q : Part} (h : p.RingOk) {e : EngineId} {w : Work} (hw : (p.engine e).work = some w)
    (hq : p.Ended q e w.origin) (hscan : ∀ info, q.scanner.scan = some info → info.engine ≠ e ∧ p.scanner.scan = some info) :
    q.RingOk := by
  have horigin : ∀ k, w.origin = some k → k < 1024 ∧ (p.ring.stateOf k = .active ∨ p.ring.stateOf k = .pending) :=
    fun k hk => by
      obtain ⟨hlt, hst⟩ := h.active e w k hw hk
      exact ⟨hlt, .inl hst⟩
  have hother : ∀ f x, (q.engine f).work = some x → f ≠ e := by
    rintro f x hx rfl
    rw [hq.ended] at hx
    cases hx
  refine h.of_engines (hq.ring ▸ h.ring.endedBy horigin) (fun f x hx => ?_) (fun f x i hx hi hst => ?_)
    (fun f x _ y hy => ⟨y, hq.inFlight ▸ hy, rfl⟩) fun info hi => ?_
  · exact (hq.others f (hother f x hx)).work_before hx
  · rw [hq.ring]
    refine h.ring.stateOf_endedBy hst (fun heq => ?_) horigin
    have hfe := hother f x hx
    obtain ⟨y, hy, hy'⟩ := (hq.others f hfe).work_before hx
    exact h.apart e f w y i (Ne.symm hfe) hw hy heq (hy'.trans hi)
  · obtain ⟨hne, hi'⟩ := hscan info hi
    obtain ⟨x, hx, hx'⟩ := h.scan info hi'
    obtain ⟨y, hy, hy', _⟩ := (hq.others _ hne).work_some hx
    exact ⟨y, hy, hy'.trans hx'⟩

/-- A step has begun on an engine that held none. -/
theorem Part.RingOk.began {p q : Part} (h : p.RingOk) {e : EngineId} {x : Entry} {w : Work} (hq : p.Began q e x w)
    (hnone : (p.engine e).work = none) (horigin : ∀ i, w.origin = some i → i ∈ p.ring.pendingSlots)
    (hmeasures : w.record.kind ≠ .scan → q.scanner.scan = p.scanner.scan)
    (hscans : w.record.kind = .scan → q.scanner.scan = some ⟨w.origin, e, w.record⟩) : q.RingOk := by
  have hpending : ∀ i, w.origin = some i → i < 1024 ∧ p.ring.stateOf i = .pending := fun i hi =>
    (Ring.mem_pendingSlots h.ring.sound i).mp (horigin i hi)
  have hwork : ∀ f y, (q.engine f).work = some y → (f = e ∧ y = w) ∨ (f ≠ e ∧ (p.engine f).work = some y) := by
    intro f y hy
    by_cases hf : f = e
    · rw [hf, hq.work] at hy
      exact .inl ⟨hf, (Option.some.inj hy).symm⟩
    · rw [hq.others f hf] at hy
      exact .inr ⟨hf, hy⟩
  have hapart : ∀ f y i, (p.engine f).work = some y → y.origin = some i → w.origin ≠ some i := by
    intro f y i hy hi heq
    have hst := (h.active f y i hy hi).2
    rw [(hpending i heq).2] at hst
    cases hst
  constructor
  case ring => exact hq.ring ▸ h.ring.begunBy horigin
  case active =>
    intro f y i hy hi
    rw [hq.ring]
    rcases hwork f y hy with ⟨rfl, rfl⟩ | ⟨_, hy'⟩
    · exact ⟨(hpending i hi).1, h.ring.range.stateOf_begunBy _ (.inr hi)⟩
    · obtain ⟨hlt, hst⟩ := h.active f y i hy' hi
      exact ⟨hlt, h.ring.range.stateOf_begunBy _ (.inl hst)⟩
  case apart =>
    intro f g y z i hfg hy hz hi hi'
    rcases hwork f y hy with ⟨rfl, rfl⟩ | ⟨_, hy'⟩
    · rcases hwork g z hz with ⟨rfl, _⟩ | ⟨_, hz'⟩
      · exact hfg rfl
      · exact hapart g z i hz' hi' hi
    · rcases hwork g z hz with ⟨rfl, rfl⟩ | ⟨_, hz'⟩
      · exact hapart f y i hy' hi hi'
      · exact h.apart f g y z i hfg hy' hz' hi hi'
  case entries =>
    intro f y hy
    rw [hq.inFlight]
    rcases hwork f y hy with ⟨rfl, rfl⟩ | ⟨hf, hy'⟩
    · exact ⟨x, PerEngine.get_set_same _ _ _, hq.entry⟩
    · rw [PerEngine.get_set_ne _ _ _ _ hf]
      exact h.entries f y hy'
  case scan =>
    intro info hi
    by_cases hk : w.record.kind = .scan
    · rw [hscans hk] at hi
      cases hi
      exact ⟨w, hq.work, rfl⟩
    · rw [hmeasures hk] at hi
      obtain ⟨y, hy, hy'⟩ := h.scan info hi
      have hne : info.engine ≠ e := by
        rintro heq
        rw [heq, hnone] at hy
        cases hy
      exact ⟨y, by rw [hq.others _ hne]; exact hy, hy'⟩

/-- A part none of whose engines holds work. -/
theorem Part.RingOk.of_idle {p : Part} (hring : p.ring.Ok) (hnone : ∀ e, (p.engine e).work = none)
    (hscan : p.scanner.scan = none) : p.RingOk where
  ring := hring
  active e w i hw := by rw [hnone] at hw; cases hw
  apart e f w x i _ hw := by rw [hnone] at hw; cases hw
  entries e w hw := by rw [hnone] at hw; cases hw
  scan info hi := by rw [hscan] at hi; cases hi

theorem Ring.Ok.stateOf_discardPending {r : Ring} (h : r.Ok) {i : Nat} (hi : r.stateOf i = .active) :
    r.discardPending.stateOf i = .active := by
  have hkept : r.discarded.stateOf i = .active := by
    rw [h.sound.stateOf_discarded, if_neg, hi]
    intro hin
    rw [((Ring.mem_pendingSlots h.sound i).mp hin).2] at hi
    cases hi
  rw [Ring.discardPending_eq]
  rcases h.sound.discarded.stateOf_retire i with heq | ⟨hdone, _⟩
  · exact heq.trans hkept
  · rw [hkept] at hdone; cases hdone

/-- The engine of the completion that joins holds no step, and the others keep theirs. -/
theorem completed_ended {v w : Ev} {e : EngineId} {origin : Option Nat} {c : Completion}
    (hv : ∀ d ∈ v.completions, (v.p.engine d.engine).work = none) (h : v.p.Ended w.p e origin)
    (hc : w.completions = v.completions ++ [c]) (he : c.engine = e) :
    ∀ d ∈ w.completions, (w.p.engine d.engine).work = none := by
  intro d hd
  by_cases hde : d.engine = e
  · rw [hde]; exact h.ended
  · rw [hc, List.mem_append, List.mem_singleton] at hd
    rcases hd with hd | rfl
    · exact (h.others _ hde).work_none (hv d hd)
    · exact absurd he hde

theorem ringHeldKept : WorkKept Ev.RingHeld where
  tuned {v w} hv h := by
    refine ⟨hv.queue.tuned h.part, ?_, fun c hc => ?_⟩
    · exact hv.ring.of_tuned (h.part.ring ▸ hv.ring.ring) h.part.engines (fun i hi => h.part.ring ▸ hi) h.part.inFlight
        h.part.scan
    · exact (h.part.engines _).work_none (hv.completed c (h.completions ▸ hc))
  requeued {v w n} hv hfree h hc := by
    have hengines : ∀ e, (v.p.engine e).Tuned (w.p.engine e) := fun e => by
      rw [Part.engine, Part.engine, h.engines]; exact .refl _
    refine ⟨queueOkKept.requeued hv.queue hfree h hc, ?_, fun c hcm => ?_⟩
    · exact hv.ring.of_tuned (h.ring ▸ hv.ring.ring) hengines (fun i hi => h.ring ▸ hi) h.inFlight h.scan
    · exact (hengines _).work_none (hv.completed c (hc ▸ hcm))
  scanEnded {v w info c} hv hscan h hnone hc he := by
    obtain ⟨x, hx, horigin⟩ := hv.ring.scan info hscan
    refine ⟨queueOkKept.scanEnded hv.queue hscan h hnone hc he,
      hv.ring.ended hx (horigin.symm ▸ h) (fun i hi => by rw [hnone] at hi; cases hi), ?_⟩
    exact completed_ended hv.completed h hc he
  stepEnded {v u e w c} hv hw hk h hscan hc he := by
    refine ⟨queueOkKept.stepEnded hv.queue hw hk h hscan hc he, hv.ring.ended hw h fun info hi => ?_,
      completed_ended hv.completed h hc he⟩
    rw [hscan] at hi
    refine ⟨fun heq => hk hv.queue ?_, hi⟩
    obtain ⟨x, hx, hxk⟩ := hv.queue.scan info hi
    rw [heq, hw] at hx
    cases hx
    exact hxk
  began {v u e x w} hv hc hcu hfree hidle horigin h hmeasures hscans := by
    refine ⟨queueOkKept.began hv.queue hc hcu hfree hidle horigin h hmeasures hscans,
      hv.ring.began h (hv.queue.idle e (by simp [hidle])) horigin hmeasures hscans, ?_⟩
    rw [hcu]
    exact fun _ hd => absurd hd List.not_mem_nil
  failed {v u i rest} hv hpending hfree h hc := by
    obtain ⟨hi, hst⟩ := (Ring.mem_pendingSlots hv.ring.ring.sound i).mp (hpending ▸ List.mem_cons_self)
    have horigin : ∀ k, some i = some k → k < 1024 ∧ (v.p.ring.stateOf k = .active ∨ v.p.ring.stateOf k = .pending) := by
      rintro k heq
      cases heq
      exact ⟨hi, .inr hst⟩
    have hengines : ∀ e, (v.p.engine e).Tuned (u.p.engine e) := fun e => by
      rw [Part.engine, Part.engine, h.engines]; exact .refl _
    refine ⟨queueOkKept.failed hv.queue hpending hfree h hc, ?_, fun c hcm => ?_⟩
    · refine hv.ring.of_tuned (h.ring ▸ hv.ring.ring.endedBy horigin) hengines (fun j hj => ?_) h.inFlight h.scan
      rw [h.ring]
      refine hv.ring.ring.stateOf_endedBy hj (fun heq => ?_) horigin
      cases heq
      rw [hst] at hj
      cases hj
    · exact (hengines _).work_none (hv.completed c (hc ▸ hcm))
  replanned {v e x y} hv hx hy := by
    refine ⟨queueOkKept.replanned hv.queue hx hy, ?_, hv.completed⟩
    refine hv.ring.of_engines hv.ring.ring (fun f w hw => ⟨w, hw, rfl⟩) (fun _ _ _ _ _ hi => hi) (fun f w _ z hz => ?_)
      hv.ring.scan
    by_cases hf : f = e
    · subst hf
      rw [hx] at hz
      cases hz
      exact ⟨y, PerEngine.get_set_same _ _ _, hy⟩
    · exact ⟨z, (PerEngine.get_set_ne _ _ _ _ hf).trans hz, rfl⟩
  released {v c rest} hv hc := by
    have hnone : (v.p.engine c.engine).work = none := hv.completed c (hc ▸ List.mem_cons_self)
    refine ⟨queueOkKept.released hv.queue hc, ?_, ?_⟩
    · obtain ⟨nails, heq⟩ := ({ v with completions := rest } : Ev).releaseStep_p c
      rw [heq]
      refine hv.ring.of_engines hv.ring.ring (fun f w hw => ⟨w, hw, rfl⟩) (fun _ _ _ _ _ hi => hi)
        (fun f w hw z hz => ⟨z, ?_, rfl⟩) hv.ring.scan
      have hf : f ≠ c.engine := by
        rintro rfl
        rw [show ((v.p.engine c.engine).work = some w) from hw] at hnone
        cases hnone
      exact (PerEngine.get_set_ne _ _ _ _ hf).trans hz
    · intro d hd
      rw [Ev.releaseStep_completions] at hd
      obtain ⟨nails, heq⟩ := ({ v with completions := rest } : Ev).releaseStep_p c
      rw [heq]
      exact hv.completed d (hc ▸ List.mem_cons_of_mem _ hd)
  restarted v cause hv := by
    have hnone : ∀ e, ((v.p.restart cause).engine e).work = none := fun e => by cases e <;> rfl
    have hring : (v.p.restart cause).RingOk := .of_idle Ring.reset_ok hnone rfl
    exact ⟨v.p.restart_queueOk cause, hring, fun c _ => hnone c.engine⟩
  discarded v hv := by
    refine ⟨queueOkKept.discarded v hv.queue, ?_, hv.completed⟩
    have hok : v.p.ring.discardPending.Ok := Ring.discardPending_eq _ ▸ hv.ring.ring.sound.discarded.retire
    have hactive := fun i => hv.ring.ring.stateOf_discardPending (i := i)
    rw [Ev.map_p, Part.onRing]
    generalize v.p.ring.discardPending = r at hok hactive
    exact hv.ring.of_tuned hok (fun _ => .refl _) hactive rfl rfl

/-- In STOPPED no engine holds a ring step. -/
theorem Part.RingOk.no_ring_work {p : Part} (h : p.RingOk) (hquiet : p.QuietOk) (hstopped : p.disp.seq = .stopped)
    {e : EngineId} {w : Work} (hw : (p.engine e).work = some w) (i : Nat) : w.origin ≠ some i := by
  intro hi
  obtain ⟨x, hx, horigin⟩ := h.entries e w hw
  have hring := hquiet.atRest (.inl hstopped)
  simp only [Part.ringInFlight, List.any_eq_false] at hring
  refine hring x (Part.mem_inFlight.mpr ⟨e, hx⟩) ?_
  rw [horigin, hi]
  rfl

/-- What the requests do to the ring keeps it in order with the steps in flight. -/
theorem Part.RingOk.written {p q : Part} (h : p.RingOk) (hquiet : p.QuietOk) (hq : p.RingWritten q.ring)
    (hflight : q.disp.inFlight = p.disp.inFlight) (hengines : q.engines = p.engines)
    (hscan : q.scanner.scan = p.scanner.scan) : q.RingOk := by
  have htuned : ∀ e, (p.engine e).Tuned (q.engine e) := fun e => by
    rw [Part.engine, Part.engine, hengines]; exact .refl _
  generalize hr : q.ring = r at hq
  cases hq with
  | kept => exact h.of_tuned (hr ▸ h.ring) htuned (fun i hi => hr ▸ hi) hflight hscan
  | reset hstopped =>
    refine h.of_engines (hr ▸ Ring.reset_ok) (fun e _ hw => (htuned e).work_before hw) (fun e w i hw hi _ => ?_)
      (fun _ _ _ x hx => ⟨x, hflight ▸ hx, rfl⟩) (h.scan_of_tuned htuned hscan)
    obtain ⟨x, hx, horigin⟩ := (htuned e).work_before hw
    exact absurd (horigin.trans hi) (h.no_ring_work hquiet hstopped hx i)
  | staged i record hfree =>
    refine h.of_engines (hr ▸ h.ring.stage record hfree) (fun e _ hw => (htuned e).work_before hw)
      (fun e w j hw hj hst => ?_) (fun _ _ _ x hx => ⟨x, hflight ▸ hx, rfl⟩) (h.scan_of_tuned htuned hscan)
    obtain ⟨x, hx, horigin⟩ := (htuned e).work_before hw
    obtain ⟨hlt, _⟩ := h.active e x j hx (horigin.trans hj)
    rw [hr, Ring.stateOf_setSlot h.ring.range, if_neg, hst]
    rintro rfl
    have hlive := (p.ring.isLive_iff j).mpr (h.ring.sound.isLive hlt (.inr (.inl hst)))
    rw [hfree] at hlive
    cases hlive
  | committed c hc hne hroom hstaged =>
    refine h.of_tuned (hr ▸ h.ring.commitTo hc hne hroom hstaged) htuned (fun i hi => ?_) hflight hscan
    obtain ⟨_, _, _, _, hstate, _⟩ :=
      Ring.foldl_setState_spec .pending (ringRun p.ring.commit (p.ring.commitCount c)) h.ring.range
    rw [hr]
    refine (hstate i).trans ?_
    rw [if_neg, hi]
    intro hin
    rw [hstaged i hin] at hi
    cases hi

theorem Part.QuietOk.of_eq {p q : Part} (h : p.QuietOk) (hmap : q.map.state = p.map.state) (hdisp : q.disp = p.disp) :
    q.QuietOk := by
  have hring : q.ringInFlight = p.ringInFlight := by unfold Part.ringInFlight Part.inFlight; rw [hdisp]
  exact ⟨fun he => hdisp ▸ h.editable (hmap ▸ he), fun hs => hring ▸ h.atRest (hdisp ▸ hs)⟩

theorem Part.RingOk.tuned {p q : Part} (h : p.RingOk) (hpq : p.Tuned q) : q.RingOk :=
  h.of_tuned (hpq.ring ▸ h.ring) hpq.engines (fun _ hi => hpq.ring ▸ hi) hpq.inFlight hpq.scan

/-- The Result Queue and the ring in order. -/
def Part.WorkOk (p : Part) : Prop := p.QueueOk ∧ p.RingOk

theorem Ev.RingHeld.start {p : Part} (h : p.WorkOk) : (Ev.start p).RingHeld :=
  ⟨h.1, h.2, fun _ hc => absurd hc List.not_mem_nil⟩

theorem owner_ringHeld {k : RequestKind}
    (hk : k ∈ [RequestKind.mapNails, .mapUnmark, .mapClear, .stepWrite, .stepCommit, .ringReset]) (b : List Byte)
    {v : Ev} (hv : v.RingHeld) (hquiet : v.p.QuietOk) : (owner k b v).RingHeld := by
  obtain ⟨_, hengines, hscanner, hcompletions⟩ := owner_tables hk b v
  obtain ⟨hflight, hwritten⟩ := owner_ring hk b v
  refine ⟨owner_queueOk hk b hv.queue,
    hv.ring.written hquiet hwritten hflight hengines (congrArg Scanner.scan hscanner), fun c hc => ?_⟩
  rw [Part.engine, hengines]
  exact hv.completed c (hcompletions ▸ hc)

/-- Settles O58: what joins, leaves and replaces the steps in hand is closed under both invariants, and the requests that
write the tables check what they write. -/
theorem everyStepKeepsTheTables : Obligations.EveryStepKeepsTheTables := by
  constructor
  · intro s t hnails hring hstep
    exact tablesOkKept.step (I := Part.TablesOk) (K := fun _ => True) (fun _ h => h) (fun _ h => h)
      (fun h hpq => ⟨h.1.of_eq hpq.nails, hpq.ring ▸ h.2⟩) (fun _ _ _ => trivial) (fun _ _ _ => trivial)
      (fun k hk b v hv _ => ⟨owner_nailsOk hk b hv.1, (owner_ring hk b v).2.inRange hv.2⟩) ⟨hnails, hring⟩ trivial hstep
  · intro s t hring hqueue _ hquiet hstep
    have hkept := WorkKept.step (J := Ev.RingHeld) ringHeldKept (I := Part.WorkOk) (K := Part.QuietOk) (fun _ h => .start h)
      (fun _ h => ⟨h.queue, h.ring⟩) (fun h hpq => ⟨h.1.tuned hpq, h.2.tuned hpq⟩) (fun _ _ h => h.of_eq rfl rfl)
      (fun _ _ h => h.of_eq rfl rfl) (fun _ hk b _ hv hquiet => owner_ringHeld hk b hv hquiet) ⟨hqueue, hring⟩ hquiet hstep
    exact hkept.2

end Sys2Proof.Machine

/-! PROOFS. Resets (R16, R106, R192, R193): the values after one, and the commands that lead to them. -/

namespace Sys2Proof.Machine

theorem State.reset_part_eq : State.reset.part = Part.fresh.restart .powerOn := rfl

/-- Settles O60: the reset state is the state after a reset, in which no engine holds a step. -/
theorem resetMeetsEveryInvariant : Obligations.ResetMeetsEveryInvariant := by
  have hnone : ∀ e, Part.fresh.disp.inFlight.get e = none := PerEngine.get_const none
  have hidle : ∀ e, (Part.fresh.engine e).work = none := fun e => by cases e <;> rfl
  refine ⟨State.reset_part_eq ▸ Part.fresh.restart_steadyOk .powerOn, ?_, ?_, ?_, .of_empty rfl, Ring.reset_ok.range,
    .of_idle Ring.reset_ok hidle rfl, State.reset_part_eq ▸ Part.fresh.restart_queueOk .powerOn⟩
  · exact ⟨by decide, fun _ => rfl, by decide⟩
  · exact ⟨fun _ => ⟨rfl, rfl⟩, fun _ => rfl⟩
  · intro e f _ x y hx
    rw [show State.reset.part.disp.inFlight.get e = none from hnone e] at hx
    cases hx

/-- An event that only changes the part. -/
theorem Ev.close_map (p : Part) (f : Part → Part) : ((Ev.start p).map f).close = f p := Ev.close_plain _ rfl rfl rfl rfl

theorem exec_powerOn (s : State) : exec .powerOn s = .next { s with part := s.part.restart .powerOn } := by
  rw [exec_eq_next]
  exact congrArg (fun p => Host.Outcome.next { s with part := p }) (Ev.close_map s.part _)

/-- The reply of a PART_RESET that was taken has been sent (R192). -/
theorem exec_frameSent_reset {s : State} {q : RequestInProgress} {f : OutFrame} {rest : List OutFrame}
    (hq : s.part.link.inProgress = some q) (hreset : q.resetWhenSent = true) (hf : s.part.link.transmit = f :: rest)
    (hreply : f.isReply = true) : exec .frameSent s = .next { s with part := s.part.restart .partReset } := by
  have hsent : Ev.sent (Ev.start s.part) = (Ev.start s.part).map fun p => p.restart .partReset := by
    simp [Ev.sent, hf, hreply, hq, hreset]
  rw [exec_eq_next]
  change Host.Outcome.next { s with part := (Ev.sent (Ev.start s.part)).close } = _
  rw [hsent, Ev.close_map]

/-- PART_RESET is replied to, and marked to be taken when the reply has been sent (R192). -/
theorem ownPartReset_close (p : Part) (number : Byte) :
    (ownPartReset [] (Ev.start (p.taking number 0x62))).close =
      (p.onLink fun l => { l with inProgress := some ⟨number, 0x62, true⟩ }).hand [.reply number 0x62 .done] := by
  have hreply := Ev.reply_taking p number 0x62 (Ev.start (p.taking number 0x62)) .done rfl
  unfold ownPartReset
  rw [hreply]
  exact Ev.close_plain _ rfl rfl rfl rfl

/-- Settles O3: the values by evaluation of the reset state, and the commands by what their acts do. -/
theorem resetsGiveTheStateTheTablesSay : Obligations.ResetsGiveTheStateTheTablesSay := by
  refine ⟨?_, fun s => ⟨exec_powerOn s, fun q f rest hq hreset hf hreply => exec_frameSent_reset hq hreset hf hreply⟩,
    fun s number h => exec_requestOf_serving .partReset h List.length_nil rfl (ownPartReset_close s.part number)⟩
  have hlist : ∀ n, Part.fresh.nailsOf n = [] := fun n => by unfold Part.nailsOf; split <;> rfl
  have hengine : ∀ e, Part.fresh.engine e = Engine.reset := PerEngine.get_const _
  have hplan : ∀ e, Part.fresh.plan e = ⟨.none, [], [], none, false⟩ := PerEngine.get_const _
  have hflight : ∀ e, Part.fresh.disp.inFlight.get e = none := PerEngine.get_const _
  have hcapture : ∀ e, Part.fresh.time.captures.get e = ⟨.disarmed, none, none, false⟩ := PerEngine.get_const _
  dsimp only [State.reset]
  simp only [hengine, hplan, hflight, hcapture, hlist]
  have hdue : Part.fresh.dueList = [] := by decide
  simp [Part.fresh, Part.nail, Part.attrs, Part.template, Part.slot, Part.card, lookup, FixtureMap.reset, Ring.reset,
    Relay.reset, Engine.reset, Scanner.reset, NailEntry.unlisted, NetAttrs.unlisted, Slot.unlisted, Card.unlisted]
  exact hdue

end Sys2Proof.Machine

/-! PROOFS. The receiver and the frames (R181 to R184, R188, R194, R195): what a byte does, what frames come whole, and the
sizes of what is sent. -/

namespace Sys2Proof.Machine

/-! ### The receiver fed some bytes (R181, R183) -/

theorem Receiver.feed_append (r : Receiver) (a b : List Byte) :
    r.feed (a ++ b) = (((r.feed a).1.feed b).1, (r.feed a).2 ++ ((r.feed a).1.feed b).2) := by
  induction a generalizing r with
  | nil => rfl
  | cons x a ih => simp [Receiver.feed, ih]

theorem Receiver.feed_cons {r r' : Receiver} {b : Byte} {done : Option InFrame} (h : r.next b = (r', done))
    (rest : List Byte) : r.feed (b :: rest) = ((r'.feed rest).1, done.toList ++ (r'.feed rest).2) := by
  rw [Receiver.feed, h]

theorem Receiver.feed_cons_none {r r' : Receiver} {b : Byte} (h : r.next b = (r', none)) (rest : List Byte) :
    r.feed (b :: rest) = r'.feed rest := Receiver.feed_cons h rest

/-- In HUNT bytes other than SYNC are dropped. -/
theorem Receiver.feed_hunt {noise : List Byte} (h : ∀ b ∈ noise, b ≠ 0xA5) : Receiver.feed .hunt noise = (.hunt, []) := by
  induction noise with
  | nil => rfl
  | cons b noise ih =>
    have hnext : Receiver.hunt.next b = (.hunt, none) := by rw [Receiver.next, if_neg (h b List.mem_cons_self)]
    rw [Receiver.feed_cons_none hnext, ih fun x hx => h x (List.mem_cons_of_mem _ hx)]

/-- The payload bytes that are still missing lead to the check. -/
theorem Receiver.feed_payload (len : Nat) (kept rest : List Byte) (hne : rest ≠ [])
    (hlen : kept.length + rest.length = len) : Receiver.feed (.payload len kept) rest = (.check (kept ++ rest) none, []) := by
  induction rest generalizing kept with
  | nil => exact absurd rfl hne
  | cons b rest ih =>
    have hkept : (kept ++ [b]).length = kept.length + 1 := by simp
    rw [List.length_cons] at hlen
    have hnext : (Receiver.payload len kept).next b = (if (kept ++ [b]).length < len then .payload len (kept ++ [b])
        else .check (kept ++ [b]) none, none) := rfl
    rw [Receiver.feed_cons_none hnext, List.append_cons kept b rest]
    cases rest with
    | nil =>
      rw [if_neg (by rw [hkept, ← hlen]; exact Nat.lt_irrefl _), List.append_nil]
      rfl
    | cons c rest =>
      rw [if_pos (by rw [hkept]; rw [List.length_cons] at hlen; omega)]
      exact ih (kept ++ [b]) (List.cons_ne_nil _ _) (by rw [hkept]; omega)

/-- The two length bytes of a frame read back. -/
theorem leBytes_two (n : Nat) : leBytes 2 n = [BitVec.ofNat 8 (n % 256), BitVec.ofNat 8 (n / 256 % 256)] := rfl

theorem leBytes_two_toNat {n : Nat} (h : n < 65536) :
    (BitVec.ofNat 8 (n % 256)).toNat + 256 * (BitVec.ofNat 8 (n / 256 % 256)).toNat = n := by
  simp only [BitVec.toNat_ofNat]
  omega

/-- SYNC, a length in range and the payload lead to the check. -/
theorem Receiver.feed_covered {payload : List Byte} (h2 : 2 ≤ payload.length) (hmax : payload.length ≤ 1040) :
    Receiver.feed .hunt (0xA5 :: leBytes 2 payload.length ++ payload) = (.check payload none, []) := by
  have hlen : (BitVec.ofNat 8 (payload.length % 256)).toNat + 256 * (BitVec.ofNat 8 (payload.length / 256 % 256)).toNat =
      payload.length := leBytes_two_toNat (lt_of_le_of_lt hmax (by decide))
  have hlength : (Receiver.length (some (BitVec.ofNat 8 (payload.length % 256)))).next
      (BitVec.ofNat 8 (payload.length / 256 % 256)) = (.payload payload.length [], none) := by
    simp only [Receiver.next, hlen, if_pos (And.intro h2 hmax)]
  have hsync : Receiver.hunt.next 0xA5 = (.length none, none) := rfl
  rw [leBytes_two, List.cons_append, Receiver.feed_cons_none hsync, List.cons_append, Receiver.feed_cons_none rfl,
    List.cons_append, Receiver.feed_cons_none hlength]
  exact Receiver.feed_payload payload.length [] payload (List.ne_nil_of_length_pos (by omega)) (Nat.zero_add _)

/-- The two bytes of the CRC complete a frame that matches. -/
theorem Receiver.feed_check (number kind : Byte) (body : List Byte) (high low : Byte) :
    Receiver.feed (.check (number :: kind :: body) none) [high, low] =
      (.hunt, if (crc16 (leBytes 2 (body.length + 2) ++ number :: kind :: body)).toNat = 256 * high.toNat + low.toNat
        then [⟨number, kind, body⟩] else []) := by
  have hlast := Receiver.next_check_last number kind body high low
  have hhunt : ((Receiver.check (number :: kind :: body) (some high)).next low).1 = .hunt := rfl
  have hnext : (Receiver.check (number :: kind :: body) none).next high =
      (.check (number :: kind :: body) (some high), none) := rfl
  rw [Receiver.feed_cons_none hnext]
  by_cases hcrc : (crc16 (leBytes 2 (body.length + 2) ++ number :: kind :: body)).toNat = 256 * high.toNat + low.toNat
  · rw [if_pos hcrc] at hlast ⊢
    rw [Receiver.feed_cons (Prod.ext hhunt hlast)]
    rfl
  · rw [if_neg hcrc] at hlast ⊢
    rw [Receiver.feed_cons (Prod.ext hhunt hlast)]
    rfl

/-- A frame that the test host sends is received whole. -/
theorem Receiver.feed_frame (f : InFrame) (h : f.body.length ≤ 1038) : Receiver.feed .hunt f.bytes = (.hunt, [f]) := by
  obtain ⟨high, low, hbytes, hcrc⟩ := frameOf_eq_covered_append_crc (f.number :: f.kind :: f.body)
  have hcovered := Receiver.feed_covered (payload := f.number :: f.kind :: f.body)
    (by simp) (by simp only [List.length_cons]; omega)
  rw [InFrame.bytes, hbytes, ← List.cons_append, ← List.cons_append, Receiver.feed_append, hcovered]
  simp only [List.length_cons] at hcrc
  rw [Receiver.feed_check, if_pos hcrc.symm]
  rfl

theorem Receiver.feed_frames (fs : List (List Byte × InFrame))
    (h : ∀ x ∈ fs, (∀ b ∈ x.1, b ≠ 0xA5) ∧ x.2.body.length ≤ 1038) :
    Receiver.feed .hunt (fs.flatMap fun x => x.1 ++ x.2.bytes) = (.hunt, fs.map (·.2)) := by
  induction fs with
  | nil => rfl
  | cons x fs ih =>
    obtain ⟨hnoise, hlen⟩ := h x List.mem_cons_self
    rw [List.flatMap_cons, Receiver.feed_append, Receiver.feed_append, Receiver.feed_hunt hnoise,
      Receiver.feed_frame x.2 hlen, ih fun y hy => h y (List.mem_cons_of_mem _ hy)]
    rfl

/-- Settles O5: a frame is SYNC, length, payload and CRC, each of which moves the receiver on. -/
theorem goodFramesAreReceivedWholeAndBadOnesDiscarded : Obligations.GoodFramesAreReceivedWholeAndBadOnesDiscarded := by
  refine ⟨Receiver.feed_frames, fun payload high low h2 hmax hcrc => ?_, fun low high hrange => ?_⟩
  · obtain ⟨number, kind, body, rfl⟩ : ∃ number kind body, payload = number :: kind :: body := by
      match payload, h2 with
      | number :: kind :: body, _ => exact ⟨number, kind, body, rfl⟩
    rw [Receiver.feed_append, Receiver.feed_covered h2 hmax]
    have hcheck := Receiver.feed_check number kind body high low
    rw [if_neg (show ¬ (crc16 (leBytes 2 (body.length + 2) ++ number :: kind :: body)).toNat = _ from Ne.symm hcrc)] at hcheck
    exact Prod.ext (congrArg Prod.fst hcheck) (congrArg Prod.snd hcheck)
  · have hout : ¬ (2 ≤ low.toNat + 256 * high.toNat ∧ low.toNat + 256 * high.toNat ≤ 1040) := by omega
    have hlength : (Receiver.length (some low)).next high = (.hunt, none) := by simp only [Receiver.next, if_neg hout]
    have hsync : Receiver.hunt.next 0xA5 = (.length none, none) := rfl
    rw [Receiver.feed_cons_none hsync, Receiver.feed_cons_none rfl, Receiver.feed_cons_none hlength]
    rfl

/-! ### A received byte (R181, R182) -/

/-- What a received byte does to the part, the good frame apart. -/
theorem Ev.takeByte_start (b : Byte) (p : Part) {r : Receiver} {done : Option InFrame}
    (hnext : p.link.receiver.next b = (r, done)) :
    Ev.takeByte b (Ev.start p) = (done.elim id Ev.offer) (Ev.start (p.onLink fun l =>
      { l with receiver := r, interByte := p.link.receiver.waitAfter b p.time l.interByte })) := by
  unfold Ev.takeByte
  simp only [Ev.start_p, hnext]
  cases done <;> rfl

theorem exec_byte {s : State} {b : Byte} {c : Instr} (hc : c = .receivedByte b ∨ c = .frameReceived b) :
    exec c s = event s (Ev.takeByte b) := by
  rcases hc with rfl | rfl <;> rfl

/-- A byte that completes no frame changes the receiver and its wait. -/
theorem exec_byte_none {s : State} {b : Byte} {c : Instr} (hc : c = .receivedByte b ∨ c = .frameReceived b) {r : Receiver}
    (hnext : s.part.link.receiver.next b = (r, none)) :
    exec c s = .next (s.withReceiver r (s.part.link.receiver.waitAfter b s.part.time s.part.link.interByte)) := by
  rw [exec_byte hc, event, Ev.takeByte_start b s.part hnext]
  exact congrArg (fun p => Host.Outcome.next { s with part := p }) (Ev.close_plain (Ev.start _) rfl rfl rfl rfl)

theorem exec_byte_some {s : State} {b : Byte} {c : Instr} (hc : c = .receivedByte b ∨ c = .frameReceived b) {r : Receiver}
    {f : InFrame} (hnext : s.part.link.receiver.next b = (r, some f)) :
    exec c s = exec (.badKindRequest f.number f.kind f.body)
      (s.withReceiver r (s.part.link.receiver.waitAfter b s.part.time s.part.link.interByte)) := by
  rw [exec_byte hc, event, Ev.takeByte_start b s.part hnext]
  rfl

/-- Settles O7, state by state. -/
theorem receivedByteFollowsTheReceiverTable : Obligations.ReceivedByteFollowsTheReceiverTable := by
  refine ⟨fun s b c hc => ?_, fun s due hdue => ?_, fun s hnone => ?_⟩
  · intro r anew
    have hstep : ∀ {r' : Receiver} {w : Option Nat}, r.next b = (r', none) →
        r.waitAfter b s.part.time s.part.link.interByte = w → exec c s = .next (s.withReceiver r' w) := by
      rintro r' w hnext rfl
      exact exec_byte_none hc hnext
    refine ⟨fun hr hb => ?_, fun hr hb => ?_, fun hr => ?_, fun low hr => ?_, fun len kept hr => ?_, fun kept hr => ?_,
      fun kept high hr hcrc => ?_, fun number kind body high hr hcrc => ?_⟩
    · have hsame : s.withReceiver s.part.link.receiver s.part.link.interByte = s := rfl
      rw [hstep (r' := .hunt) (w := s.part.link.interByte) (by rw [hr]; simp only [Receiver.next, if_neg hb])
        (by rw [hr]; simp only [Receiver.waitAfter, if_neg hb]), ← hr, hsame]
    · exact hstep (by rw [hr]; simp only [Receiver.next, if_pos hb]) (by rw [hr]; simp only [Receiver.waitAfter, if_pos hb]; rfl)
    · exact hstep (by rw [hr]; rfl) (by rw [hr]; rfl)
    · exact hstep (by rw [hr]; rfl) (by rw [hr]; rfl)
    · exact hstep (by rw [hr]; simp [Receiver.next]) (by rw [hr]; rfl)
    · exact hstep (by rw [hr]; rfl) (by rw [hr]; rfl)
    · exact hstep (by rw [hr]; simp only [Receiver.next, if_neg hcrc]) (by rw [hr]; rfl)
    · have hnext : r.next b = (.hunt, some ⟨number, kind, body⟩) := by
        rw [hr]
        exact Prod.ext rfl ((Receiver.next_check_last number kind body high b).trans (if_pos hcrc))
      have hwait : r.waitAfter b s.part.time s.part.link.interByte = none := by rw [hr]; rfl
      rw [exec_byte_some hc hnext, hwait]
  · rw [exec_eq_next]
    have hends : actOf .interByteLimit (Ev.start s.part) = (Ev.start s.part).map fun p =>
        (p.reach due).onLink fun l => { l with receiver := .hunt, interByte := none } := by
      simp [actOf, Ev.interByteEnds, hdue]
    rw [hends, Ev.close_map]
    rfl
  · rw [exec_eq_next]
    have hends : actOf .interByteLimit (Ev.start s.part) = Ev.start s.part := by simp [actOf, Ev.interByteEnds, hnone]
    rw [hends, Ev.close_plain _ rfl rfl rfl rfl]
    rfl

end Sys2Proof.Machine

/-! PROOFS. Requests buffered, judged and ended (R184 to R188), and the sizes of frames and records (R188, R194, R195). -/

namespace Sys2Proof.Machine

/-! ### The receive buffer (R184) -/

/-- While a request is in progress no frame of the buffer is taken. -/
theorem Ev.takeFrames_busy (n : Nat) (v : Ev) (h : v.p.link.inProgress ≠ none) : v.takeFrames n = v := by
  cases n with
  | zero => rfl
  | succ n =>
    obtain ⟨q, hq⟩ := Option.ne_none_iff_exists'.mp h
    simp [Ev.takeFrames, hq]

/-- With an empty buffer none is taken. -/
theorem Ev.takeFrames_empty (n : Nat) (v : Ev) (h : v.p.link.buffer = []) : v.takeFrames n = v := by
  cases n with
  | zero => rfl
  | succ n => unfold Ev.takeFrames; rw [h]; split <;> simp_all

theorem Ev.map_start (f : Part → Part) (p : Part) : (Ev.start p).map f = Ev.start (f p) := rfl

/-- A frame of number 0 at the front of the buffer is discarded. -/
theorem Ev.takeFrames_zero {n : Nat} {p : Part} {f : InFrame} {rest : List InFrame} (h : p.link.inProgress = none)
    (hb : p.link.buffer = f :: rest) (h0 : f.number = 0) :
    (Ev.start p).takeFrames (n + 1) = (Ev.start (p.onLink fun l => { l with buffer := rest })).takeFrames n := by
  simp [Ev.takeFrames, h, hb, h0, Ev.map_start]

/-- Another frame at the front becomes the request in progress. -/
theorem Ev.takeFrames_taken {n : Nat} {p : Part} {f : InFrame} {rest : List InFrame} (h : p.link.inProgress = none)
    (hb : p.link.buffer = f :: rest) (h0 : f.number ≠ 0) :
    (Ev.start p).takeFrames (n + 1) = Ev.judgeRequest f (Ev.start (p.onLink fun l =>
      { l with buffer := rest, inProgress := some ⟨f.number, f.kind, false⟩ })) := by
  have h0' : ¬ f.number = 0#8 := h0
  simp [Ev.takeFrames, h, hb, h0', Ev.map_start, Part.onLink]

/-- The frames of number 0 before the first other one are discarded. -/
theorem Ev.takeFrames_zeros (zeros rest : List InFrame) (hz : ∀ x ∈ zeros, x.number = 0) (n : Nat) {p : Part}
    (h : p.link.inProgress = none) (hb : p.link.buffer = zeros ++ rest) :
    (Ev.start p).takeFrames (zeros.length + n) = (Ev.start (p.onLink fun l => { l with buffer := rest })).takeFrames n := by
  induction zeros generalizing p with
  | nil =>
    have hsame : p.onLink (fun l => { l with buffer := rest }) = p := by
      rw [List.nil_append] at hb
      rw [← hb]
      rfl
    rw [List.length_nil, Nat.zero_add, hsame]
  | cons f zeros ih =>
    have hlen : (f :: zeros).length + n = (zeros.length + n) + 1 := by rw [List.length_cons]; omega
    rw [hlen, Ev.takeFrames_zero (rest := zeros ++ rest) h hb (hz f List.mem_cons_self),
      ih (fun x hx => hz x (List.mem_cons_of_mem _ hx)) (p := p.onLink fun l => { l with buffer := zeros ++ rest }) h rfl]
    rfl

/-! ### A request judged (R185 to R187) -/

/-- What the mode gate turns away (R187). -/
theorem admits_eq_false_iff (mode : LinkMode) (seq : SeqState) (k : RequestKind) :
    admits mode seq k = false ↔ (mode = .starting ∧ k ≠ .describe) ∨
      (mode = .serving ∧ seq = .stopping ∧
        k ∉ [RequestKind.status, .describe, .fixtureQuery, .timeRead, .resultsRead]) := by
  unfold admits
  cases mode with
  | starting => simp
  | serving =>
    by_cases hs : seq = .stopping
    · rw [if_pos hs]
      cases k <;> simp [hs]
    · simp [hs]

/-- What judging a request of a known kind does: the mode gate, the length, the owner (R186). -/
theorem Ev.judgeRequest_code (k : RequestKind) (number : Byte) (body : List Byte) (v : Ev) :
    v.judgeRequest ⟨number, k.code, body⟩ =
      if admits v.p.link.mode v.p.disp.seq k = false then v.refuse .busy
      else if k.bodyLength ≠ none ∧ k.bodyLength ≠ some body.length then v.refuse .badLength
      else owner k body v := by
  unfold Ev.judgeRequest
  simp only [requestKindOf_code]
  cases admits v.p.link.mode v.p.disp.seq k with
  | false => simp
  | true =>
    simp only [Bool.not_true, Bool.false_eq_true, if_false, Bool.true_eq_false]
    cases k.bodyLength with
    | none => simp
    | some n =>
      by_cases hn : body.length = n
      · simp [hn]
      · simp [hn, Ne.symm hn]

/-- Settles O8. -/
theorem requestsAreBufferedAndJudgedInOrder : Obligations.RequestsAreBufferedAndJudgedInOrder := by
  refine ⟨fun k number body s hbusy => ?_, fun k body s hfree hempty => ?_, fun number kind body s h hkind => ?_,
    fun k number body s h => ?_⟩
  · rw [exec_requestOf, offerRequest, event]
    by_cases hroom : s.part.link.buffer.length < 4
    · have hoffer : Ev.offer ⟨number, k.code, body⟩ (Ev.start s.part) = Ev.start (s.part.onLink fun l =>
          { l with buffer := l.buffer ++ [⟨number, k.code, body⟩] }) := by
        unfold Ev.offer
        rw [if_pos (show (Ev.start s.part).p.link.buffer.length < Config.bufferFrames from hroom)]
        exact Ev.takeFrames_busy _ _ hbusy
      rw [hoffer, if_pos hroom]
      exact congrArg (fun p => Host.Outcome.next { s with part := p }) (Ev.close_plain (Ev.start _) rfl rfl rfl rfl)
    · have hoffer : Ev.offer ⟨number, k.code, body⟩ (Ev.start s.part) = Ev.start s.part := by
        unfold Ev.offer
        rw [if_neg (show ¬ (Ev.start s.part).p.link.buffer.length < Config.bufferFrames from hroom)]
      rw [hoffer, if_neg hroom]
      exact congrArg (fun p => Host.Outcome.next { s with part := p }) (Ev.close_plain (Ev.start _) rfl rfl rfl rfl)
  · have hoffer : Ev.offer ⟨0, k.code, body⟩ (Ev.start s.part) = Ev.start s.part := by
      unfold Ev.offer
      rw [if_pos (show (Ev.start s.part).p.link.buffer.length < Config.bufferFrames by
        rw [Ev.start_p, hempty]; exact Nat.zero_lt_succ _), Ev.map_start]
      have hbuffer : (s.part.onLink fun l => { l with buffer := l.buffer ++ [⟨0, k.code, body⟩] }).link.buffer =
          [⟨0, k.code, body⟩] := by
        change s.part.link.buffer ++ [_] = _
        rw [hempty]
        rfl
      have hfree' : (s.part.onLink fun l => { l with buffer := l.buffer ++ [⟨0, k.code, body⟩] }).link.inProgress = none := hfree
      rw [Ev.takeFrames_zero hfree' hbuffer rfl, Ev.takeFrames_empty _ _ rfl]
      have hlink : s.part.onLink (fun l => { l with buffer := [] }) = s.part := by
        rw [← hempty]
        rfl
      exact congrArg Ev.start hlink
    rw [exec_requestOf, offerRequest, event, hoffer]
    exact congrArg (fun p => Host.Outcome.next { s with part := p }) (Ev.close_plain (Ev.start _) rfl rfl rfl rfl)
  · have hjudge : (Ev.start (s.part.taking number kind)).judgeRequest ⟨number, kind, body⟩ =
        (Ev.start (s.part.taking number kind)).refuse .badKind := by
      unfold Ev.judgeRequest
      simp only [hkind]
    change event s (Ev.offer ⟨number, kind, body⟩) = _
    rw [event, Ev.offer_serving s number kind body h.free h.empty h.numbered, hjudge,
      Ev.close_refuse_taking s.part number kind .badKind none]
  · rw [exec_requestOf, offerRequest, event, Ev.offer_serving s number k.code body h.free h.empty h.numbered,
      Ev.judgeRequest_code]
    have hgate := admits_eq_false_iff s.part.link.mode s.part.disp.seq k
    change Host.Outcome.next { s with part := Ev.close (if admits s.part.link.mode s.part.disp.seq k = false then _ else _) } = _
    simp only [hgate]
    split_ifs
    · rw [Ev.close_refuse_taking]
    · rw [Ev.close_refuse_taking]
    · rfl

/-! ### A frame sent (R188) -/

/-- Settles O9: after a reply the frames of number 0 at the front of the buffer are discarded, and the next is judged. -/
theorem frameSentEndsTheRequestOfAReply : Obligations.FrameSentEndsTheRequestOfAReply := by
  intro s rest dropped
  have hexec : ∀ v, Ev.sent (Ev.start s.part) = v → exec .frameSent s = .next { s with part := v.close } := by
    rintro v rfl
    rfl
  have hsent : ∀ {f more q}, s.part.link.transmit = f :: more → f.isReply = true → s.part.link.inProgress = some q →
      q.resetWhenSent = false → Ev.sent (Ev.start s.part) =
        (Ev.start (s.part.dropSent.onLink fun l => { l with inProgress := none })).takeFrames (Config.bufferFrames + 1) := by
    intro f more q hf hreply hq hreset
    simp [Ev.sent, hf, hreply, hq, hreset, Ev.map_start]
  refine ⟨fun h => ?_, fun n more h => ?_, fun f more q hf hreply hq hreset hfour hzeros => ?_,
    fun f more q number kind body zeros waiting hf hreply hq hreset hfour hbuffer hzeros hnumber => ?_⟩
  · rw [hexec (Ev.start s.part) (by simp [Ev.sent, h])]
    exact congrArg (fun p => Host.Outcome.next { s with part := p }) (Ev.close_plain (Ev.start _) rfl rfl rfl rfl)
  · rw [hexec (Ev.start s.part.dropSent) (by simp [Ev.sent, h, OutFrame.isReply, Ev.map_start])]
    exact congrArg (fun p => Host.Outcome.next { s with part := p }) (Ev.close_plain (Ev.start _) rfl rfl rfl rfl)
  · obtain ⟨n, hn⟩ := Nat.exists_eq_add_of_le (show s.part.link.buffer.length ≤ Config.bufferFrames + 1 from
      hfour.trans (by decide))
    have htaken := Ev.takeFrames_zeros s.part.link.buffer [] hzeros n
      (p := dropped.onLink fun l => { l with inProgress := none }) rfl (List.append_nil _).symm
    rw [← hn] at htaken
    rw [hexec _ ((hsent hf hreply hq hreset).trans (htaken.trans (Ev.takeFrames_empty n _ rfl)))]
    exact congrArg (fun p => Host.Outcome.next { s with part := p }) (Ev.close_plain (Ev.start _) rfl rfl rfl rfl)
  · have hlen : zeros.length ≤ Config.bufferFrames := by
      have := congrArg List.length hbuffer
      rw [List.length_append, List.length_cons] at this
      simp only [Config.bufferFrames]
      omega
    obtain ⟨n, hn⟩ := Nat.exists_eq_add_of_le hlen
    have htaken := Ev.takeFrames_zeros zeros (⟨number, kind, body⟩ :: waiting) hzeros (n + 1)
      (p := dropped.onLink fun l => { l with inProgress := none }) rfl hbuffer
    rw [← Nat.add_assoc, ← hn] at htaken
    rw [hexec _ ((hsent hf hreply hq hreset).trans (htaken.trans
      (Ev.takeFrames_taken (f := ⟨number, kind, body⟩) rfl rfl hnumber)))]
    rfl

end Sys2Proof.Machine

/-! PROOFS. The sizes of frames and records, and the step record read back (R188, R194, R195). -/

namespace Sys2Proof.Machine

@[simp] theorem length_leBytes (k n : Nat) : (leBytes k n).length = k := by
  induction k generalizing n with
  | zero => rfl
  | succ k ih => rw [leBytes, List.length_cons, ih]

/-! ### Sizes -/

theorem RecordShape.length_bytes (x : RecordShape) : x.bytes.length = 16 := by
  cases x <;> simp [RecordShape.bytes, intBytes4, optBytes2]

theorem ResultRecord.length_bytes (r : ResultRecord) : r.bytes.length = 32 := by
  simp [ResultRecord.bytes, optBytes2, RecordShape.length_bytes]

theorem StepRecord.length_bytes (r : StepRecord) : r.bytes.length = 34 := by simp [StepRecord.bytes]

theorem length_flatMap_const {α β : Type} (f : α → List β) (n : Nat) (h : ∀ a, (f a).length = n) (l : List α) :
    (l.flatMap f).length = n * l.length := by
  rw [List.length_flatMap, funext h, List.map_const', List.sum_replicate, smul_eq_mul, Nat.mul_comm]

theorem length_frameOf (payload : List Byte) : (frameOf payload).length = payload.length + 5 := by
  simp [frameOf]
  omega

/-! ### Fields read back (section 11.3) -/

theorem getD_append (front l : List Byte) (i : Nat) : (front ++ l).getD (front.length + i) 0 = l.getD i 0 := by
  rw [List.getD_append_right _ _ _ _ (Nat.le_add_right _ _), Nat.add_sub_cancel_left]

/-- A body read behind some front is the body read from its start. -/
theorem stepRecordAt_append (front l : List Byte) : stepRecordAt (front ++ l) front.length = stepRecordAt l 0 := by
  have hbyte : ∀ i, byteAt (front ++ l) (front.length + i) = byteAt l i := fun i => by
    rw [byteAt, byteAt, getD_append]
  have h16 : ∀ i, u16At (front ++ l) (front.length + i) = u16At l i := fun i => by
    rw [u16At, u16At, Nat.add_assoc, hbyte, hbyte]
  have h32 : ∀ i, u32At (front ++ l) (front.length + i) = u32At l i := fun i => by
    rw [u32At, u32At, Nat.add_assoc, h16, h16]
  have h0 := h16 0
  rw [Nat.add_zero] at h0
  unfold stepRecordAt
  simp only [hbyte, h16, h32, h0, getD_append, Nat.zero_add]

/-- The number of two bytes, and the two bytes of a number. -/
theorem ofNat_toNat_mod (n : Nat) : (BitVec.ofNat 8 (n % 256)).toNat = n % 256 := by
  rw [BitVec.toNat_ofNat]
  omega

theorem stepKindOf_code (k : StepKind) : stepKindOf k.code.toNat = some k := by cases k <;> rfl

theorem code_of_stepKindOf {b : Byte} {k : StepKind} (h : stepKindOf b.toNat = some k) : k.code = b := by
  unfold stepKindOf at h
  split at h
  all_goals (try cases h)
  all_goals exact BitVec.eq_of_toNat_eq (by simp_all [StepKind.code])

/-- The 34 bytes of a step record, one by one. -/
theorem StepRecord.bytes_eq (r : StepRecord) : r.bytes =
    [BitVec.ofNat 8 (r.tag % 256), BitVec.ofNat 8 (r.tag / 256 % 256), r.kind.code, BitVec.ofNat 8 r.template,
      BitVec.ofNat 8 (r.high % 256), BitVec.ofNat 8 (r.high / 256 % 256), BitVec.ofNat 8 (r.low % 256),
      BitVec.ofNat 8 (r.low / 256 % 256), BitVec.ofNat 8 r.current, BitVec.ofNat 8 r.gain, BitVec.ofNat 8 r.aperture,
      BitVec.ofNat 8 r.count, BitVec.ofNat 8 (r.settle % 256), BitVec.ofNat 8 (r.settle / 256 % 256),
      BitVec.ofNat 8 (r.discharge % 256), BitVec.ofNat 8 (r.discharge / 256 % 256), BitVec.ofNat 8 (r.threshold % 256),
      BitVec.ofNat 8 (r.threshold / 256 % 256), BitVec.ofNat 8 (r.threshold / 256 / 256 % 256),
      BitVec.ofNat 8 (r.threshold / 256 / 256 / 256 % 256), BitVec.ofNat 8 (r.rampLimit % 256),
      BitVec.ofNat 8 (r.rampLimit / 256 % 256), r.presence, r.mask, BitVec.ofNat 8 (r.lowLimit.toNat % 256),
      BitVec.ofNat 8 (r.lowLimit.toNat / 256 % 256), BitVec.ofNat 8 (r.lowLimit.toNat / 256 / 256 % 256),
      BitVec.ofNat 8 (r.lowLimit.toNat / 256 / 256 / 256 % 256), BitVec.ofNat 8 (r.highLimit.toNat % 256),
      BitVec.ofNat 8 (r.highLimit.toNat / 256 % 256), BitVec.ofNat 8 (r.highLimit.toNat / 256 / 256 % 256),
      BitVec.ofNat 8 (r.highLimit.toNat / 256 / 256 / 256 % 256), BitVec.ofNat 8 (r.flags.toNat % 256),
      BitVec.ofNat 8 (r.flags.toNat / 256 % 256)] := rfl

/-- A step record with its fields in their widths reads back from its bytes. -/
theorem stepRecordAt_bytes (r : StepRecord) (h1 : r.tag < 65536) (h2 : r.template < 256) (h3 : r.high < 65536)
    (h4 : r.low < 65536) (h5 : r.current < 256) (h6 : r.gain < 256) (h7 : r.aperture < 256) (h8 : r.count < 256)
    (h9 : r.settle < 65536) (h10 : r.discharge < 65536) (h11 : r.threshold < 4294967296) (h12 : r.rampLimit < 65536) :
    stepRecordAt r.bytes 0 = some r := by
  have hbyte : ∀ n, n < 256 → (BitVec.ofNat 8 n).toNat = n := fun n hn => by
    rw [BitVec.toNat_ofNat, Nat.mod_eq_of_lt hn]
  have h16 : ∀ n, n < 65536 → n % 256 + 256 * (n / 256 % 256) = n := fun n hn => by omega
  have h32 : ∀ n, n < 4294967296 →
      n % 256 + 256 * (n / 256 % 256) + 65536 * (n / 256 / 256 % 256 + 256 * (n / 256 / 256 / 256 % 256)) = n :=
    fun n hn => by omega
  have hlow := r.lowLimit.isLt
  have hhigh := r.highLimit.isLt
  have hflags := r.flags.isLt
  rw [StepRecord.bytes_eq]
  simp only [stepRecordAt, u32At, u16At, byteAt, Nat.zero_add, Nat.reduceAdd, List.getD_cons_zero, List.getD_cons_succ,
    ofNat_toNat_mod, hbyte _ h2, hbyte _ h5, hbyte _ h6, hbyte _ h7, hbyte _ h8, h16 _ h1, h16 _ h3, h16 _ h4, h16 _ h9,
    h16 _ h10, h16 _ h12, h32 _ h11, h32 _ hlow, h32 _ hhigh, h16 _ hflags, stepKindOf_code, Option.map_some,
    BitVec.ofNat_toNat, BitVec.setWidth_eq]

/-! ### Bytes read and written again -/

theorem eq_map_getD (b : List Byte) : b = (List.range b.length).map fun i => b.getD i 0 := by
  refine List.ext_getElem (by simp) fun i h _ => ?_
  rw [List.getElem_map, List.getElem_range, List.getD_eq_getElem _ _ h]

theorem ofNat_byteAt (b : List Byte) (i : Nat) : BitVec.ofNat 8 (byteAt b i) = b.getD i 0 := by
  rw [byteAt, BitVec.ofNat_toNat, BitVec.setWidth_eq]

theorem byteAt_lt (b : List Byte) (i : Nat) : byteAt b i < 256 := (b.getD i 0).isLt

theorem u16At_lt (b : List Byte) (i : Nat) : u16At b i < 65536 := by
  have h0 := byteAt_lt b i
  have h1 := byteAt_lt b (i + 1)
  rw [u16At]
  omega

theorem u32At_lt (b : List Byte) (i : Nat) : u32At b i < 4294967296 := by
  have h0 := u16At_lt b i
  have h1 := u16At_lt b (i + 2)
  rw [u32At]
  omega

/-- The bytes of a two-byte field are the two bytes it was read from. -/
theorem u16At_bytes (b : List Byte) (i : Nat) : BitVec.ofNat 8 (u16At b i % 256) = b.getD i 0 ∧
    BitVec.ofNat 8 (u16At b i / 256 % 256) = b.getD (i + 1) 0 := by
  have h0 := byteAt_lt b i
  have h1 := byteAt_lt b (i + 1)
  have hlow : u16At b i % 256 = byteAt b i := by rw [u16At]; omega
  have hhigh : u16At b i / 256 % 256 = byteAt b (i + 1) := by rw [u16At]; omega
  rw [hlow, hhigh, ofNat_byteAt, ofNat_byteAt]
  exact ⟨rfl, rfl⟩

theorem u32At_bytes (b : List Byte) (i : Nat) : BitVec.ofNat 8 (u32At b i % 256) = b.getD i 0 ∧
    BitVec.ofNat 8 (u32At b i / 256 % 256) = b.getD (i + 1) 0 ∧
    BitVec.ofNat 8 (u32At b i / 256 / 256 % 256) = b.getD (i + 2) 0 ∧
    BitVec.ofNat 8 (u32At b i / 256 / 256 / 256 % 256) = b.getD (i + 3) 0 := by
  have h0 := u16At_lt b i
  have h1 := u16At_lt b (i + 2)
  obtain ⟨hb0, hb1⟩ := u16At_bytes b i
  obtain ⟨hb2, hb3⟩ := u16At_bytes b (i + 2)
  rw [← hb0, ← hb1, ← hb2, ← hb3]
  refine ⟨?_, ?_, ?_, ?_⟩ <;> congr 1 <;> rw [u32At] <;> omega

/-- The record read from 34 bytes has these bytes. -/
theorem bytes_of_stepRecordAt {b : List Byte} {r : StepRecord} (hb : b.length = 34) (hr : stepRecordAt b 0 = some r) :
    r.bytes = b := by
  unfold stepRecordAt at hr
  obtain ⟨kind, hkind, rfl⟩ := Option.map_eq_some_iff.mp hr
  have hflags : (BitVec.ofNat 16 (u16At b 32)).toNat = u16At b 32 := by
    rw [BitVec.toNat_ofNat, Nat.mod_eq_of_lt (u16At_lt b 32)]
  have hlimit : ∀ i, (BitVec.ofNat 32 (u32At b i)).toNat = u32At b i := fun i => by
    rw [BitVec.toNat_ofNat, Nat.mod_eq_of_lt (u32At_lt b i)]
  have hlist : (List.range 34).map (fun i => b.getD i 0) = b := hb ▸ (eq_map_getD b).symm
  rw [StepRecord.bytes_eq]
  refine Eq.trans ?_ hlist
  simp only [Nat.zero_add] at hkind ⊢
  simp only [hflags, hlimit, code_of_stepKindOf hkind, ofNat_byteAt, u16At_bytes, u32At_bytes]
  rfl

/-- Settles O10. -/
theorem framesAndRecordsHaveTheirSizesAndStepRecordsReadBack :
    Obligations.FramesAndRecordsHaveTheirSizesAndStepRecordsReadBack := by
  refine ⟨⟨fun f => ?_, ResultRecord.length_bytes, StepRecord.length_bytes, fun x => ?_, fun r n => ?_, fun b => ?_,
    fun number kind records stored reserved => ?_, fun number kind st detail => ?_⟩,
    fun r front h1 h2 h3 h4 h5 h6 h7 h8 h9 h10 h11 h12 => ?_, fun b r hb hr => ?_⟩
  · have hlen : f.bytes.length = f.body.length + 7 := by rw [OutFrame.bytes, length_frameOf]; rfl
    refine ⟨hlen, ?_⟩
    rw [hlen, OutFrame.lineTicks, Nat.mul_comm]
    rfl
  · simp [NailEntry.bytes]
  · simp [ErrorRecord.bytes, optBytes2]
  · have hrecords := length_flatMap_const ResultRecord.bytes 32 ResultRecord.length_bytes b.records
    change b.bytes.length = _
    simp [ResultBlock.bytes, hrecords]
    omega
  · have hrecords := length_flatMap_const ResultRecord.bytes 32 ResultRecord.length_bytes records
    simp only [OutFrame.body, OutFrame.bytes?, Reply.bytes?, List.length_append, hrecords, length_leBytes]
    simp
    omega
  · simp [OutFrame.body, OutFrame.bytes?, optBytes2]
  · rw [stepRecordAt_append, stepRecordAt_bytes r h1 h2 h3 h4 h5 h6 h7 h8 h9 h10 h11 h12]
  · exact bytes_of_stepRecordAt hb hr

end Sys2Proof.Machine

/-! PROOFS. Requests of the Fixture Map, the Step Ring and the Template Store (R12 to R14, R24 to R33, R41, R70, R71). -/

namespace Sys2Proof.Machine

/-! ### Requests that are refused or answered -/

/-- A request whose act is to refuse it. -/
theorem exec_refused {s : State} {number : Byte} {body : List Byte} (k : RequestKind) (h : s.Serving number)
    (hl : k.bodyLength = some body.length ∨ k.bodyLength = none) {st : Status} {detail : Option Nat}
    (hact : owner k body (Ev.start (s.part.taking number k.code)) =
      (Ev.start (s.part.taking number k.code)).refuse st detail) :
    exec (requestOf k number body) s = .next { s with part := s.part.refusedWith number k.code st detail } :=
  exec_requestOf_taken k h hl (by rw [hact, Ev.close_refuse_taking])

/-- The close of an event that took a request, changed the part and handed some frames, where nothing is left to do. -/
theorem Ev.close_answered {v : Ev} {q : Part} {number kind : Byte} {frames : List OutFrame}
    (hp : v.p = q.taking number kind) (hf : v.frames = frames) (hc : v.completions = [])
    (hr : v.askRemoval = false ∨ q.scanner.state ≠ .waitingSpace)
    (he : v.askEvaluate = false ∨ q.nothingToDispatch = true) (hm : v.askRemainder = false ∨ q.noRemainder = true) :
    v.close = q.answered number kind frames := by
  have hclose := v.close_quiet hc (hp ▸ hr) (hp ▸ he) (hp ▸ hm)
  rw [hclose, hp, hf]
  rfl

/-! ### The Fixture Map's counts (R13) -/

theorem nodup_eraseDups (l : List Nat) : l.eraseDups.Nodup := by
  induction hn : l.length using Nat.strong_induction_on generalizing l with
  | _ n ih =>
    cases l with
    | nil => exact List.nodup_nil
    | cons a l =>
      rw [List.eraseDups_cons, List.nodup_cons, List.mem_eraseDups]
      refine ⟨by simp, ih _ ?_ _ rfl⟩
      rw [← hn, List.length_cons]
      exact Nat.lt_succ_of_le (List.length_filter_le _ _)

theorem Part.nailsOf_ne_nil_iff (p : Part) (net : Nat) :
    p.nailsOf net ≠ [] ↔ net ≠ 0 ∧ ∃ x ∈ p.map.nails, x.2.net = net := by
  unfold Part.nailsOf
  split
  next h0 => simp [h0]
  next h0 =>
    simp only [ne_eq, List.map_eq_nil_iff, List.filter_eq_nil_iff, beq_iff_eq, not_forall, not_not]
    exact ⟨fun ⟨x, hx, hn⟩ => ⟨h0, x, hx, hn⟩, fun ⟨_, x, hx, hn⟩ => ⟨x, hx, hn⟩⟩

/-- The nets with nails, counted over the nail table or over the net numbers. -/
theorem Part.NailsOk.netCount_eq {p : Part} (h : p.NailsOk) : p.map.netCount =
    ((List.range 2048).filter fun m => decide (p.nailsOf m ≠ [])).length := by
  refine List.Perm.length_eq ((List.perm_ext_iff_of_nodup (nodup_eraseDups _) (List.nodup_range.filter _)).mpr fun m => ?_)
  simp only [List.mem_eraseDups, List.mem_filter, List.mem_map, decide_eq_true_eq, List.mem_range,
    p.nailsOf_ne_nil_iff]
  constructor
  · rintro ⟨⟨x, hx, rfl⟩, h0⟩
    exact ⟨Nat.lt_succ_of_le (h.nets x hx), h0, x, hx, rfl⟩
  · rintro ⟨_, h0, x, hx, rfl⟩
    exact ⟨⟨x, hx, rfl⟩, h0⟩

/-- Settles O15. -/
theorem mapIdentityFreezeClearAndRingResetAct : Obligations.MapIdentityFreezeClearAndRingResetAct := by
  refine ⟨⟨fun s number body h hl => ?_, fun s number h hok => ?_⟩, fun s number h => ⟨?_, ?_⟩⟩
  · refine exec_requestOf_serving .mapIdentity h hl rfl ?_
    change (ownMapIdentity body (Ev.start (s.part.taking number 0x14))).close = _
    unfold ownMapIdentity
    by_cases hf : s.part.map.state = .frozen
    · rw [if_pos hf, if_pos (show (Ev.start (s.part.taking number 0x14)).p.map.state = .frozen from hf)]
      exact Ev.close_refuse_taking s.part number 0x14 .mapFrozen none
    · rw [if_neg hf, if_neg (show ¬ (Ev.start (s.part.taking number 0x14)).p.map.state = .frozen from hf)]
      exact Ev.close_reply_taking s.part _ number 0x14 _ .done rfl
  · refine exec_requestOf_serving .mapFreeze h List.length_nil rfl ?_
    change (ownMapFreeze [] (Ev.start (s.part.taking number 0x15))).close = _
    have hmap : (Ev.start (s.part.taking number 0x15)).p.map = s.part.map := rfl
    unfold ownMapFreeze
    rw [hmap, hok.netCount_eq]
    by_cases hf : s.part.map.state = .editable ∧ s.part.map.declared = none
    · rw [if_pos hf, if_pos hf]
      exact Ev.close_refuse_taking s.part number 0x15 .badState none
    · rw [if_neg hf, if_neg hf]
      exact Ev.close_reply_taking s.part _ number 0x15 _ _ rfl
  · refine exec_requestOf_serving .mapClear h List.length_nil rfl ?_
    change (ownMapClear [] (Ev.start (s.part.taking number 0x16))).close = _
    unfold ownMapClear
    have hseq : (Ev.start (s.part.taking number 0x16)).p.disp = s.part.disp := rfl
    rw [hseq]
    split_ifs
    · exact Ev.close_refuse_taking s.part number 0x16 .badState none
    · exact Ev.close_refuse_taking s.part number 0x16 .busy none
    · exact Ev.close_reply_taking s.part _ number 0x16 _ .done rfl
  · refine exec_requestOf_serving .ringReset h List.length_nil rfl ?_
    change (ownRingReset [] (Ev.start (s.part.taking number 0x23))).close = _
    unfold ownRingReset
    have hseq : (Ev.start (s.part.taking number 0x23)).p.disp = s.part.disp := rfl
    rw [hseq]
    split_ifs
    · exact Ev.close_refuse_taking s.part number 0x23 .badState none
    · exact Ev.close_reply_taking s.part _ number 0x23 _ .done rfl

/-! ### The checks of a step record (R24 to R26, R29) -/

/-- What check 5 asks of a record, kind by kind. -/
def StepRecord.InRange (r : StepRecord) : Prop :=
  (1 ≤ r.high ∧ r.high ≤ 2047) ∧ (1 ≤ r.low ∧ r.low ≤ 2047) ∧ r.current ≤ 4 ∧
    (r.kind ≠ .cap → r.gain ≤ 2 ∧ r.aperture ≤ 5) ∧
    (r.kind = .cap → (1000 ≤ r.threshold ∧ r.threshold ≤ 2000000) ∧ 1 ≤ r.rampLimit ∧ r.rampLimit ≤ 10000) ∧
    (r.kind = .scan → 1 ≤ r.threshold ∧ r.threshold ≤ 2147483647) ∧
    (r.kind ≠ .scan → r.template ≤ 31 ∨ r.template = 255) ∧
    (1 ≤ r.mask.toNat ∧ r.mask.toNat ≤ 15) ∧ r.flags.toNat ≤ 255 ∧
    (r.kind = .scan → r.presence = 0) ∧ (r.kind ≠ .scan → r.presence = 3)

theorem StepRecord.fieldsInRange_iff (r : StepRecord) : r.fieldsInRange = true ↔ r.InRange := by
  have hbyte : ∀ (b : Byte) (n : Nat), n < 256 → (b = BitVec.ofNat 8 n ↔ b.toNat = n) := fun b n hn => by
    rw [← BitVec.toNat_inj, BitVec.toNat_ofNat, Nat.mod_eq_of_lt hn]
  have h0 : r.presence = 0 ↔ r.presence.toNat = 0 := hbyte _ 0 (by decide)
  have h3 : r.presence = 3 ↔ r.presence.toNat = 3 := hbyte _ 3 (by decide)
  unfold StepRecord.fieldsInRange StepRecord.InRange
  rw [h0, h3]
  rw [show 2047 = Config.maxNet from rfl]
  cases hk : r.kind <;> simp [and_assoc]

theorem stepKindOf_isSome_iff (n : Nat) : (stepKindOf n).isSome = true ↔ n ≤ 4 := by
  match n with
  | 0 | 1 | 2 | 3 | 4 => decide
  | n + 5 => simp [stepKindOf]

/-- Settles O17. -/
theorem stepRecordsAreCheckedInOrder : Obligations.StepRecordsAreCheckedInOrder := by
  intro p b o
  refine ⟨fun hk => ?_, fun hk => ?_⟩
  · have hnone : stepKindOf (byteAt b (o + 2)) = none := by
      rw [← Option.not_isSome_iff_eq_none, stepKindOf_isSome_iff]
      omega
    simp [Part.checkedRecordAt, stepRecordAt, hnone]
  · obtain ⟨kind, hkind⟩ := Option.isSome_iff_exists.mp ((stepKindOf_isSome_iff _).mpr hk)
    have hsome : (stepRecordAt b o).isSome = true := by simp [stepRecordAt, hkind]
    obtain ⟨r, hr⟩ := Option.isSome_iff_exists.mp hsome
    have hchecked : ∀ {x}, p.checkRecord r = x → p.checkedRecordAt b o = x.elim (.ok r) .error := by
      rintro x rfl
      rw [Part.checkedRecordAt, hr]
      dsimp only
      cases p.checkRecord r <;> rfl
    refine ⟨r, hr, ?_⟩
    intro limit inRange is
    have hin : r.fieldsInRange = true ↔ inRange := r.fieldsInRange_iff
    have hlimit : ∀ raw, limitOf r.kind raw = limit raw := fun _ => rfl
    refine ⟨fun h => ?_, fun h hs heq => ?_, fun h hs hlt => ?_, fun h hs hne hlt => ?_, fun h hscan hother => ?_⟩
    · exact hchecked (by rw [Part.checkRecord, if_pos (mt hin.mp h)])
    · exact hchecked (by rw [Part.checkRecord, if_neg (not_not.mpr (hin.mpr h)), if_pos ⟨hs, heq⟩])
    · refine hchecked (x := some (.badValue, none)) ?_
      rw [Part.checkRecord, if_neg (not_not.mpr (hin.mpr h)), if_neg (fun hc => hc.1 hs), if_pos ⟨hs, hlt⟩]
    · refine hchecked (x := some (.limitOrder, none)) ?_
      rw [Part.checkRecord, if_neg (not_not.mpr (hin.mpr h)), if_neg (fun hc => hne hc.2), if_neg (fun hc => hs hc.1),
        hlimit, hlimit, if_pos ⟨hs, hlt⟩]
    · have hmapped : p.checkRecord r = if p.nailsOf r.high = [] then some (.notMapped, some r.high)
          else if p.nailsOf r.low = [] then some (.notMapped, some r.low) else none := by
        rw [Part.checkRecord, if_neg (not_not.mpr (hin.mpr h)), if_neg (fun hc => (hother hc.1).1 hc.2),
          if_neg (fun hc => absurd hc.2 (not_lt.mpr (hscan hc.1))), hlimit, hlimit,
          if_neg (fun hc => absurd hc.2 (not_lt.mpr (hother hc.1).2))]
      refine (hchecked hmapped).trans ?_
      by_cases hhigh : p.nailsOf r.high = []
      · rw [if_pos hhigh, if_pos hhigh]; rfl
      · rw [if_neg hhigh, if_neg hhigh]
        by_cases hlow : p.nailsOf r.low = []
        · rw [if_pos hlow, if_pos hlow]; rfl
        · rw [if_neg hlow, if_neg hlow]; rfl

/-! ### STEP_WRITE and TEMPLATE_WRITE -/

/-- STEP_WRITE's checks in their order, and the record staged (R29, R30). -/
theorem ownStepWrite_close (p : Part) (number : Byte) (b : List Byte) :
    (ownStepWrite b (Ev.start (p.taking number 0x20))).close =
      if 1024 ≤ u16At b 0 then p.refusedWith number 0x20 .badValue none
      else if p.map.state ≠ .frozen then p.refusedWith number 0x20 .mapNotFrozen none
      else if p.ring.isLive (u16At b 0) then p.refusedWith number 0x20 .slotLive none
      else match p.checkedRecordAt b 2 with
        | .error (st, detail) => p.refusedWith number 0x20 st detail
        | .ok r => (p.onRing fun g => g.setSlot (u16At b 0) ⟨.staged, some r⟩).repliedWith number 0x20
            (.slotWritten (u16At b 0)) := by
  have hrefuse := fun st d => Ev.close_refuse_taking p number 0x20 st d
  have hpart : (Ev.start (p.taking number 0x20)).p = p.taking number 0x20 := rfl
  have hmap : (p.taking number 0x20).map = p.map := rfl
  have hring : (p.taking number 0x20).ring = p.ring := rfl
  have hchecked : (p.taking number 0x20).checkedRecordAt b 2 = p.checkedRecordAt b 2 := rfl
  unfold ownStepWrite
  simp only [hpart, hmap, hring, hchecked, Config.slots]
  split_ifs
  · exact hrefuse _ _
  · exact hrefuse _ _
  · exact hrefuse _ _
  · cases p.checkedRecordAt b 2 with
    | error e => exact hrefuse _ _
    | ok r => exact Ev.close_reply_taking p _ number 0x20 _ _ rfl

/-- Settles O18. -/
theorem stepWriteChecksThenStages : Obligations.StepWriteChecksThenStages := by
  intro s number body h hl hr slot ring live refused
  have hexec := exec_requestOf_serving .stepWrite h hl rfl (ownStepWrite_close s.part number body)
  have hlive : s.part.ring.isLive slot = true ↔ live := by
    simp only [Ring.isLive, decide_eq_true_eq]
    exact Iff.rfl
  refine ⟨fun hs => ?_, fun hs he => ?_, fun hs hf hl => ?_, fun hs hf hl st detail hc => ?_, fun hs hf hl r hc => ?_⟩
  · exact hexec.trans (by rw [if_pos hs])
  · refine hexec.trans ?_
    rw [if_neg (not_le.mpr hs), if_pos fun hf => by cases he.symm.trans hf]
  · refine hexec.trans ?_
    rw [if_neg (not_le.mpr hs), if_neg (not_not.mpr hf), if_pos (hlive.mpr hl)]
  · refine hexec.trans ?_
    rw [if_neg (not_le.mpr hs), if_neg (not_not.mpr hf), if_neg (mt hlive.mp hl), hc]
  · refine ⟨store .unlisted ring.slots slot ⟨.staged, some r⟩, tableWf_store hr.table _ _, fun i => lookup_store hr.table,
      hexec.trans ?_⟩
    rw [if_neg (not_le.mpr hs), if_neg (not_not.mpr hf), if_neg (mt hlive.mp hl), hc]
    rfl

theorem SeqState.allowsTemplates_iff (st : SeqState) : st.allowsTemplates = true ↔
    st = .stopped ∨ st = .paused ∨ st = .drained ∨ st = .halted := by cases st <;> simp [SeqState.allowsTemplates]

/-- TEMPLATE_WRITE's checks in their order, and the list stored (R33). -/
theorem ownTemplateWrite_close (p : Part) (number : Byte) (b : List Byte) :
    let nets := (List.range (byteAt b 1)).map fun i => u16At b (2 + 2 * i)
    (ownTemplateWrite b (Ev.start (p.taking number 0x24))).close =
      if ¬ p.disp.seq.allowsTemplates then p.refusedWith number 0x24 .badState none
      else if b.length ≠ 2 + 2 * byteAt b 1 then p.refusedWith number 0x24 .badLength none
      else if 32 ≤ byteAt b 0 ∨ 12 < byteAt b 1 ∨ ¬ templateNetsOk nets then p.refusedWith number 0x24 .badValue none
      else ({ p with templates := store [] p.templates (byteAt b 0) nets }).repliedWith number 0x24 .done := by
  have hrefuse := fun st d => Ev.close_refuse_taking p number 0x24 st d
  have hpart : (Ev.start (p.taking number 0x24)).p.disp = p.disp := rfl
  intro nets
  unfold ownTemplateWrite
  simp only [hpart, Config.templates, Config.templateNets, Bool.not_eq_true', Bool.not_eq_true]
  by_cases hseq : p.disp.seq.allowsTemplates = false
  · rw [if_pos hseq, if_pos hseq]; exact hrefuse _ _
  rw [if_neg hseq, if_neg hseq]
  by_cases hlen : b.length ≠ 2 + 2 * byteAt b 1
  · rw [if_pos hlen, if_pos hlen]; exact hrefuse _ _
  rw [if_neg hlen, if_neg hlen]
  by_cases hcode : 32 ≤ byteAt b 0
  · rw [if_pos hcode, if_pos (.inl hcode)]; exact hrefuse _ _
  rw [if_neg hcode]
  by_cases hcount : 12 < byteAt b 1
  · rw [if_pos hcount, if_pos (.inr (.inl hcount))]; exact hrefuse _ _
  rw [if_neg hcount]
  by_cases hnets : templateNetsOk nets = false
  · rw [if_pos hnets, if_pos (.inr (.inr hnets))]; exact hrefuse _ _
  · rw [if_neg hnets, if_neg (by rintro (hc | hc | hc); exacts [hcode hc, hcount hc, hnets hc])]
    exact Ev.close_reply_taking p _ number 0x24 _ .done rfl

theorem templateNetsOk_iff (nets : List Nat) :
    templateNetsOk nets = true ↔ (∀ n ∈ nets, 1 ≤ n ∧ n ≤ 2047) ∧ nets.Nodup := by
  rw [show 2047 = Config.maxNet from rfl]
  simp [templateNetsOk]

/-- Settles O20. -/
theorem templateWriteReplacesTheList : Obligations.TemplateWriteReplacesTheList := by
  intro s number body h hok code count nets allowed legal refused
  have hexec := exec_requestOf_taken .templateWrite (body := body) h (.inr rfl) (ownTemplateWrite_close s.part number body)
  have hallowed : s.part.disp.seq.allowsTemplates = true ↔ allowed := SeqState.allowsTemplates_iff _
  have hlegal : (32 ≤ code ∨ 12 < count ∨ ¬ templateNetsOk nets = true) ↔ ¬ legal := by
    have hcode : 32 ≤ code ↔ ¬ code ≤ 31 := by omega
    rw [templateNetsOk_iff, hcode, ← not_le (b := 12), ← not_and_or, ← not_and_or]
  refine ⟨fun hn => ?_, fun ha hlen => ?_, fun ha hlen hn => ?_, fun ha hlen hg => ?_⟩
  · refine hexec.trans ?_
    rw [if_pos (mt hallowed.mp hn)]
  · refine hexec.trans ?_
    rw [if_neg (not_not.mpr (hallowed.mpr ha)), if_pos hlen]
  · refine hexec.trans ?_
    rw [if_neg (not_not.mpr (hallowed.mpr ha)), if_neg (not_not.mpr hlen), if_pos (hlegal.mpr hn)]
  · refine ⟨store [] s.part.templates code nets, tableWf_store hok.templates _ _, fun c => lookup_store hok.templates,
      hexec.trans ?_⟩
    rw [if_neg (not_not.mpr (hallowed.mpr ha)), if_neg (not_not.mpr hlen), if_neg fun hc => hlegal.mp hc hg]

end Sys2Proof.Machine

/-! PROOFS. Requests of the sequencer, the engines, the log and the results (R21, R45 to R49, R69 to R71, R127, R169
to R173, R179, R191). -/

namespace Sys2Proof.Machine

/-- A request whose act changes the part beside its link, hands some frames and leaves nothing to do. -/
theorem exec_answered {s : State} {number : Byte} {body : List Byte} (k : RequestKind) (h : s.Serving number)
    (hl : k.bodyLength = some body.length ∨ k.bodyLength = none) {v : Ev} {q : Part} {frames : List OutFrame}
    (hact : owner k body (Ev.start (s.part.taking number k.code)) = v) (hp : v.p = q.taking number k.code)
    (hf : v.frames = frames) (hc : v.completions = []) (hr : v.askRemoval = false ∨ q.scanner.state ≠ .waitingSpace)
    (he : v.askEvaluate = false ∨ q.nothingToDispatch = true) (hm : v.askRemainder = false ∨ q.noRemainder = true) :
    exec (requestOf k number body) s = .next { s with part := q.answered number k.code frames } :=
  exec_requestOf_taken k h hl (by rw [hact, Ev.close_answered hp hf hc hr he hm])

theorem Part.nothingToDispatch_of_noRecord {p : Part} (h : p.recordFree = false) : p.nothingToDispatch = true := by
  simp [Part.nothingToDispatch, h]

/-! ### DIRECT_STEP (R70, R71) -/

theorem SeqState.allowsDirect_iff (st : SeqState) :
    st.allowsDirect = true ↔ st = .stopped ∨ st = .paused ∨ st = .drained := by cases st <;> simp [SeqState.allowsDirect]

/-- Settles O24. -/
theorem directStepIsCheckedThenWaits : Obligations.DirectStepIsCheckedThenWaits := by
  intro s number body h hl p direct allowed
  have hlen : RequestKind.directStep.bodyLength = some body.length ∨ RequestKind.directStep.bodyLength = none :=
    .inl (congrArg some hl.symm)
  have hseq : (Ev.start (p.taking number 0x35)).p.disp = p.disp := rfl
  have hmap : (Ev.start (p.taking number 0x35)).p.map = p.map := rfl
  have hrecord : (Ev.start (p.taking number 0x35)).p.checkedRecordAt body 0 = p.checkedRecordAt body 0 := rfl
  have hfixture : (Ev.start (p.taking number 0x35)).p.fixtureCheck = p.fixtureCheck := rfl
  have hallowed : p.disp.seq.allowsDirect = true ↔ allowed := SeqState.allowsDirect_iff _
  have hact : owner .directStep body (Ev.start (p.taking number 0x35)) =
      ownDirectStep body (Ev.start (p.taking number 0x35)) := rfl
  unfold ownDirectStep at hact
  rw [hseq, hmap, hrecord, hfixture] at hact
  refine ⟨fun hn => ?_, fun ha hd => ?_, fun ha hd => ⟨fun he => ?_, fun hz => ⟨fun st detail hc => ?_, fun r hc =>
    ⟨fun st hf => ?_, fun hf hfree => ?_⟩⟩⟩⟩
  · rw [if_pos (by simpa using mt hallowed.mp hn)] at hact
    exact exec_refused .directStep h hlen hact
  all_goals rw [if_neg (by simpa using hallowed.mpr ha)] at hact
  · rw [if_pos hd] at hact
    exact exec_refused .directStep h hlen hact
  all_goals rw [hd, if_neg (by simp)] at hact
  · rw [if_pos (by simp [he])] at hact
    exact exec_refused .directStep h hlen hact
  all_goals rw [if_neg (not_not.mpr hz), hc] at hact
  · exact exec_refused .directStep h hlen hact
  · rw [hf] at hact
    exact exec_refused .directStep h hlen hact
  · rw [hf] at hact
    exact exec_answered .directStep h hlen hact rfl rfl rfl (.inl rfl)
      (.inr (Part.nothingToDispatch_of_noRecord (p := { p with disp := { p.disp with direct := some ⟨r, none⟩ } }) hfree))
      (.inl rfl)

/-! ### The fixture checks, RUN, RESUME and PAUSE (R21, R45 to R49) -/

theorem Part.fixtureCheck_cases (p : Part) :
    (p.lock.docked = false → p.fixtureCheck = some .fixtureAbsent) ∧
    (p.lock.docked = true → (∀ v, p.lock.identity ≠ .known v) → p.fixtureCheck = some .fixtureUnknown) ∧
    ∀ v, p.lock.docked = true → p.lock.identity = .known v → p.fixtureCheck =
      if p.map.declared ≠ some v then some .identityMismatch else if p.lock.vacuum then none else some .vacuumLow := by
  refine ⟨fun hd => ?_, fun hd hi => ?_, fun v hd hi => ?_⟩
  · simp [Part.fixtureCheck, hd]
  · cases hid : p.lock.identity with
    | known v => exact absurd hid (hi v)
    | absent | reading | unreadable => simp [Part.fixtureCheck, hd, hid]
  · cases hv : p.lock.vacuum <;> simp [Part.fixtureCheck, hd, hi, hv]

section
variable {s : State} {number : Byte}

/-- The part that entered a state. -/
def Part.entered (p : Part) (st : SeqState) : Part := { p with disp := { p.disp with seq := st } }

theorem exec_run (h : s.Serving number) :
    let p := s.part
    let run := fun q : Part => exec (.run number []) s = .next { s with part := q }
    let drained := (p.entered .drained).answered number 0x30 [.reply number 0x30 .done, p.seqNotice .drained]
    (p.disp.seq ≠ .stopped → run (p.refusedWith number 0x30 .badState none)) ∧
    (p.disp.seq = .stopped → p.disp.direct.isSome → run (p.refusedWith number 0x30 .busy none)) ∧
    (p.disp.seq = .stopped → p.disp.direct = none →
      (p.map.state = .editable → run (p.refusedWith number 0x30 .mapNotFrozen none)) ∧
      (p.map.state = .frozen →
        (∀ st, p.fixtureCheck = some st → run (p.refusedWith number 0x30 st none)) ∧
        (p.fixtureCheck = none → p.ring.pendingSlots = [] → p.noRemainder = true → run drained) ∧
        (p.fixtureCheck = none → p.ring.pendingSlots ≠ [] → p.recordFree = false →
          run ((p.entered .running).repliedWith number 0x30 .done)))) := by
  intro p run drained
  have hlen : RequestKind.run.bodyLength = some ([] : List Byte).length ∨ RequestKind.run.bodyLength = none := .inl rfl
  have hseq : (Ev.start (p.taking number 0x30)).p.disp = p.disp := rfl
  have hmap : (Ev.start (p.taking number 0x30)).p.map = p.map := rfl
  have hring : ((Ev.start (p.taking number 0x30)).reply .done).p.ring = p.ring := rfl
  have hfixture : (Ev.start (p.taking number 0x30)).p.fixtureCheck = p.fixtureCheck := rfl
  have hact : owner .run [] (Ev.start (p.taking number 0x30)) = ownRun [] (Ev.start (p.taking number 0x30)) := rfl
  unfold ownRun at hact
  dsimp only at hact
  rw [hseq, hmap, hfixture, hring] at hact
  refine ⟨fun hn => ?_, fun hs hd => ?_, fun hs hd => ⟨fun he => ?_, fun hz => ⟨fun st hf => ?_, fun hf hp hr => ?_,
    fun hf hp hfree => ?_⟩⟩⟩
  · rw [if_pos hn] at hact
    exact exec_refused .run h hlen hact
  all_goals rw [if_neg (not_not.mpr hs)] at hact
  · rw [if_pos hd] at hact
    exact exec_refused .run h hlen hact
  all_goals rw [hd, if_neg (by simp)] at hact
  · rw [if_pos (by simp [he])] at hact
    exact exec_refused .run h hlen hact
  all_goals rw [if_neg (not_not.mpr hz), hf] at hact
  · exact exec_refused .run h hlen hact
  · replace hact := hact.trans (if_pos hp)
    exact exec_answered .run h hlen hact rfl rfl rfl (.inl rfl) (.inl rfl) (.inr hr)
  · replace hact := hact.trans (if_neg hp)
    exact exec_answered .run h hlen hact rfl rfl rfl (.inl rfl)
      (.inr (Part.nothingToDispatch_of_noRecord (p := p.entered .running) hfree)) (.inl rfl)

/-- RESUME in PAUSING and PAUSED, once its state check has passed (R49). -/
theorem exec_resume_paused (h : s.Serving number) (hs : s.part.disp.seq = .pausing ∨ s.part.disp.seq = .paused) :
    let p := s.part
    let resume := fun q : Part => exec (.resume number []) s = .next { s with part := q }
    let drained := (p.entered .drained).answered number 0x32 [.reply number 0x32 .done, p.seqNotice .drained]
    (p.disp.direct.isSome → resume (p.refusedWith number 0x32 .busy none)) ∧
    (p.disp.direct = none →
      (∀ st, p.fixtureCheck = some st → resume (p.refusedWith number 0x32 st none)) ∧
      (p.fixtureCheck = none → p.ringInFlight = false → p.ring.pendingSlots = [] → p.noRemainder = true →
        resume drained) ∧
      (p.fixtureCheck = none → (p.ringInFlight = true ∨ p.ring.pendingSlots ≠ []) → p.recordFree = false →
        resume ((p.entered .running).repliedWith number 0x32 .done))) := by
  intro p resume drained
  have hlen : RequestKind.resume.bodyLength = some ([] : List Byte).length ∨ RequestKind.resume.bodyLength = none :=
    .inl rfl
  have hact : owner .resume [] (Ev.start (p.taking number 0x32)) = (Ev.start (p.taking number 0x32)).resumeFrom := by
    have hseq : (Ev.start (p.taking number 0x32)).p.disp.seq = s.part.disp.seq := rfl
    rw [owner, ownResume, hseq]
    rcases hs with hs | hs <;> rw [hs]
  have hdisp : (Ev.start (p.taking number 0x32)).p.disp = p.disp := rfl
  have hfixture : (Ev.start (p.taking number 0x32)).p.fixtureCheck = p.fixtureCheck := rfl
  let v := ((Ev.start (p.taking number 0x32)).reply .done).enterSeq .running
  have hjudge : v.judgeState = if p.ringInFlight ∨ p.ring.pendingSlots ≠ [] then v else v.enterSeq .drained := rfl
  unfold Ev.resumeFrom at hact
  rw [hdisp, hfixture] at hact
  refine ⟨fun hd => ?_, fun hd => ⟨fun st hf => ?_, fun hf hr hp hm => ?_, fun hf hn hfree => ?_⟩⟩
  · rw [if_pos hd] at hact
    exact exec_refused .resume h hlen hact
  all_goals rw [hd, if_neg (by simp), hf] at hact
  · exact exec_refused .resume h hlen hact
  · have hjudged : v.judgeState = v.enterSeq .drained := hjudge.trans (if_neg (by simp [hr, hp]))
    replace hact := hact.trans (congrArg (fun w : Ev => { w with askEvaluate := true }) hjudged)
    exact exec_answered .resume h hlen hact rfl rfl rfl (.inl rfl) (.inr (by simp [Part.nothingToDispatch, Part.entered, hd]))
      (.inr hm)
  · have hjudged : v.judgeState = v := hjudge.trans (if_pos hn)
    replace hact := hact.trans (congrArg (fun w : Ev => { w with askEvaluate := true }) hjudged)
    exact exec_answered .resume h hlen hact rfl rfl rfl (.inl rfl)
      (.inr (Part.nothingToDispatch_of_noRecord (p := p.entered .running) hfree)) (.inl rfl)

theorem exec_pause (h : s.Serving number) :
    let p := s.part
    let pause := fun q : Part => exec (.pause number []) s = .next { s with part := q }
    let paused := (p.entered .paused).answered number 0x31 [.reply number 0x31 .done, p.seqNotice .paused]
    (p.disp.seq = .running → p.ringInFlight = true → pause ((p.entered .pausing).repliedWith number 0x31 .done)) ∧
    (p.disp.seq = .running → p.ringInFlight = false → p.noRemainder = true → pause paused) ∧
    (p.disp.seq = .drained → p.noRemainder = true → pause paused) ∧
    ((p.disp.seq = .pausing ∨ p.disp.seq = .paused ∨ p.disp.seq = .halted) →
      pause (p.repliedWith number 0x31 .done)) ∧
    (p.disp.seq = .stopped → pause (p.refusedWith number 0x31 .badState none)) := by
  intro p pause paused
  have hlen : RequestKind.pause.bodyLength = some ([] : List Byte).length ∨ RequestKind.pause.bodyLength = none :=
    .inl rfl
  have hact : owner .pause [] (Ev.start (p.taking number 0x31)) = ownPause [] (Ev.start (p.taking number 0x31)) := rfl
  have hseq : (Ev.start (p.taking number 0x31)).p.disp.seq = p.disp.seq := rfl
  have hring : (Ev.start (p.taking number 0x31)).p.ringInFlight = p.ringInFlight := rfl
  unfold ownPause at hact
  rw [hseq, hring] at hact
  refine ⟨fun hs hr => ?_, fun hs hr hm => ?_, fun hs hm => ?_, fun hs => ?_, fun hs => ?_⟩
  · rw [hs, hr] at hact
    exact exec_answered .pause h hlen hact rfl rfl rfl (.inl rfl) (.inl rfl) (.inl rfl)
  · rw [hs, hr] at hact
    exact exec_answered .pause h hlen hact rfl rfl rfl (.inl rfl) (.inl rfl) (.inr hm)
  · rw [hs] at hact
    exact exec_answered .pause h hlen hact rfl rfl rfl (.inl rfl) (.inl rfl) (.inr hm)
  · have hreply : owner .pause [] (Ev.start (p.taking number 0x31)) = (Ev.start (p.taking number 0x31)).reply .done := by
      rcases hs with hs | hs | hs <;> rw [hact, hs]
    exact exec_answered .pause h hlen hreply rfl rfl rfl (.inl rfl) (.inl rfl) (.inl rfl)
  · rw [hs] at hact
    exact exec_refused .pause h hlen hact

/-- RESUME in the states that its check refuses (R49). -/
theorem exec_resume_refused (h : s.Serving number) :
    let p := s.part
    let resume := fun q : Part => exec (.resume number []) s = .next { s with part := q }
    (p.disp.seq = .halted → resume (p.refusedWith number 0x32 .logUnread none)) ∧
    ((p.disp.seq = .stopped ∨ p.disp.seq = .running ∨ p.disp.seq = .drained) →
      resume (p.refusedWith number 0x32 .badState none)) := by
  intro p resume
  have hlen : RequestKind.resume.bodyLength = some ([] : List Byte).length ∨ RequestKind.resume.bodyLength = none :=
    .inl rfl
  have hact : owner .resume [] (Ev.start (p.taking number 0x32)) = ownResume [] (Ev.start (p.taking number 0x32)) := rfl
  have hseq : (Ev.start (p.taking number 0x32)).p.disp.seq = p.disp.seq := rfl
  unfold ownResume at hact
  rw [hseq] at hact
  refine ⟨fun hs => ?_, fun hs => exec_refused .resume h hlen (hact.trans ?_)⟩
  · rw [hs] at hact
    exact exec_refused .resume h hlen hact
  · rcases hs with hs | hs | hs <;> rw [hs] <;> rfl

end

/-- Settles O22. -/
theorem runResumeAndPauseActByState : Obligations.RunResumeAndPauseActByState := by
  refine ⟨⟨Part.fixtureCheck_cases, fun s number h => ?_⟩, fun s number h => exec_pause h⟩
  obtain ⟨hrunning, hbusy, hrun⟩ := exec_run h
  obtain ⟨hhalted, hrefused⟩ := exec_resume_refused h
  exact ⟨hrunning, hbusy, hrun, hhalted, hrefused, fun hs => (exec_resume_paused h hs).1,
    fun hs => (exec_resume_paused h hs).2⟩

/-! ### ENGINE_CLEAR, ERRLOG_READ, RESULTS_READ and PACE (R127, R169, R170, R173, R179, R191) -/

theorem EngineId.ofNat?_of_le {n : Nat} (h : 4 ≤ n) : EngineId.ofNat? n = none := by
  match n with
  | n + 4 => rfl

theorem EngineId.ofNat?_index (e : EngineId) : EngineId.ofNat? e.index = some e := by cases e <;> rfl

theorem byteAt_singleton (b : Byte) : byteAt [b] 0 = b.toNat := rfl

section
variable {s : State} {number : Byte}

theorem exec_engineClear (h : s.Serving number) (code : Byte) :
    let p := s.part
    let clear := fun q : Part => exec (.engineClear number [code]) s = .next { s with part := q }
    (4 ≤ code.toNat → clear (p.refusedWith number 0x41 .badValue none)) ∧
    ∀ e : EngineId, e.index = code.toNat →
      ((p.engine e).state ≠ .faulted → clear (p.refusedWith number 0x41 .badState none)) ∧
      ((p.engine e).state = .faulted → p.nothingToDispatch = true →
        clear ((p.setEngine e (p.engine e).cleared).repliedWith number 0x41 .done)) := by
  intro p clear
  have hlen : RequestKind.engineClear.bodyLength = some [code].length ∨ RequestKind.engineClear.bodyLength = none :=
    .inl rfl
  have hact : owner .engineClear [code] (Ev.start (p.taking number 0x41)) =
      ownEngineClear [code] (Ev.start (p.taking number 0x41)) := rfl
  unfold ownEngineClear at hact
  rw [byteAt_singleton] at hact
  refine ⟨fun hc => ?_, fun e he => ⟨fun hs => ?_, fun hs hq => ?_⟩⟩
  · rw [EngineId.ofNat?_of_le hc] at hact
    exact exec_refused .engineClear h hlen hact
  all_goals rw [← he, EngineId.ofNat?_index] at hact
  · exact exec_refused .engineClear h hlen (hact.trans (if_pos hs))
  · have hkept : (p.setEngine e (p.engine e).cleared).nothingToDispatch = p.nothingToDispatch := rfl
    exact exec_answered .engineClear h hlen (hact.trans (if_neg (not_not.mpr hs))) rfl rfl rfl (.inl rfl)
      (.inr (hkept.trans hq)) (.inl rfl)

theorem exec_errlogRead (h : s.Serving number) :
    let p := s.part
    let read := fun q : Part => exec (.errlogRead number []) s = .next { s with part := q }
    (p.log.record = none → read (p.repliedWith number 0x51 (.errorLog none))) ∧
    ∀ r, p.log.record = some r → p.disp.seq = .halted →
      let after := fun st : SeqState => ({ p with log := ⟨none, 0⟩, disp := { p.disp with seq := st } } : Part)
      let reply := OutFrame.reply number 0x51 (.errorLog (some (r, p.log.further)))
      (p.ringInFlight = true → read ((after .pausing).answered number 0x51 [reply])) ∧
      (p.ringInFlight = false → p.noRemainder = true →
        read ((after .paused).answered number 0x51 [reply, p.seqNotice .paused])) := by
  intro p read
  have hlen : RequestKind.errlogRead.bodyLength = some ([] : List Byte).length ∨ RequestKind.errlogRead.bodyLength = none :=
    .inl rfl
  have hact : owner .errlogRead [] (Ev.start (p.taking number 0x51)) =
      ownErrlogRead [] (Ev.start (p.taking number 0x51)) := rfl
  have hlog : (Ev.start (p.taking number 0x51)).p.log = p.log := rfl
  unfold ownErrlogRead at hact
  rw [hlog] at hact
  refine ⟨fun hn => ?_, fun r hr hs => ?_⟩
  · rw [hn] at hact
    exact exec_answered .errlogRead h hlen hact rfl rfl rfl (.inl rfl) (.inl rfl) (.inl rfl)
  refine ⟨fun hf => ?_, fun hf hm => ?_⟩
  all_goals
    rw [hr] at hact
    replace hact := hact.trans (if_pos hs)
    have hring : ∀ v : Ev, v.p.disp = p.disp → v.p.ringInFlight = p.ringInFlight := fun v hv => by
      simp only [Part.ringInFlight, Part.inFlight, hv]
    rw [hring _ rfl, hf] at hact
  · exact exec_answered .errlogRead h hlen hact rfl rfl rfl (.inl rfl) (.inl rfl) (.inl rfl)
  · exact exec_answered .errlogRead h hlen hact rfl rfl rfl (.inl rfl) (.inl rfl) (.inr hm)

theorem exec_resultsRead (h : s.Serving number) (code : Byte) :
    let p := s.part
    let n := code.toNat
    let rest := p.queue.records.drop n
    let read := fun q : Part => exec (.resultsRead number [code]) s = .next { s with part := q }
    let after : Part := { p with queue := { p.queue with records := rest } }
    ((n = 0 ∨ 32 < n) → read (p.refusedWith number 0x50 .badValue none)) ∧
    (1 ≤ n → n ≤ 32 → (p.queue.records = [] ∨ (after.nothingToDispatch = true ∧ p.scanner.state ≠ .waitingSpace)) →
      read (after.repliedWith number 0x50 (.results (p.queue.records.take n) rest.length p.queue.reserved))) := by
  intro p n rest read after
  have hlen : RequestKind.resultsRead.bodyLength = some [code].length ∨ RequestKind.resultsRead.bodyLength = none :=
    .inl rfl
  have hact : owner .resultsRead [code] (Ev.start (p.taking number 0x50)) =
      ownResultsRead [code] (Ev.start (p.taking number 0x50)) := rfl
  have hqueue : (Ev.start (p.taking number 0x50)).p.queue = p.queue := rfl
  unfold ownResultsRead at hact
  rw [byteAt_singleton] at hact
  refine ⟨fun hn => ?_, fun h1 h32 hq => ?_⟩
  · exact exec_refused .resultsRead h hlen (hact.trans (if_pos hn))
  replace hact := hact.trans (if_neg (by omega))
  dsimp only at hact
  rw [hqueue] at hact
  by_cases hnone : p.queue.records.take n = []
  · exact exec_answered .resultsRead h hlen (hact.trans (if_pos hnone)) rfl rfl rfl (.inl rfl) (.inl rfl) (.inl rfl)
  · have hrecords : p.queue.records ≠ [] := fun he => hnone (by rw [he, List.take_nil])
    obtain ⟨hquiet, hscan⟩ := hq.resolve_left hrecords
    exact exec_answered .resultsRead h hlen (hact.trans (if_neg hnone)) rfl rfl rfl (.inr hscan) (.inr hquiet) (.inl rfl)

theorem exec_pace (h : s.Serving number) (body : List Byte) (hl : body.length = 6) :
    let p := s.part
    let window := byteAt body 0
    let hold := u32At body 1
    let block := byteAt body 5
    let legal := (1 ≤ window ∧ window ≤ 8) ∧ hold ≤ 100000 ∧ block ∈ [0, 1, 2, 4, 8, 16, 32]
    let pace := fun q : Part => exec (.pace number body) s = .next { s with part := q }
    (¬ legal → pace (p.refusedWith number 0x61 .badValue none)) ∧
    (legal → p.nothingToDispatch = true → (block = 0 ∨ p.queue.records.length < block ∨ block = p.queue.block) →
      pace ((p.setPace window hold block).repliedWith number 0x61 (.settings window hold block))) := by
  intro p window hold block legal pace
  have hlen : RequestKind.pace.bodyLength = some body.length ∨ RequestKind.pace.bodyLength = none :=
    .inl (congrArg some hl.symm)
  have hact : owner .pace body (Ev.start (p.taking number 0x61)) = ownPace body (Ev.start (p.taking number 0x61)) := rfl
  have hlegal : (window = 0 ∨ 8 < window ∨ 100000 < hold ∨ block ∉ blockSizes) ↔ ¬ legal := by
    have hwindow : (1 ≤ window ∧ window ≤ 8) ↔ ¬ (window = 0 ∨ 8 < window) := by omega
    simp only [legal, hwindow, blockSizes]
    rw [← not_lt]
    tauto
  unfold ownPace at hact
  refine ⟨fun hn => ?_, fun hg hq hb => ?_⟩
  · exact exec_refused .pace h hlen (hact.trans (if_pos (hlegal.mpr hn)))
  replace hact := hact.trans (if_neg fun hc => hlegal.mp hc hg)
  let v := ((Ev.start (p.taking number 0x61)).map fun p => p.setPace window hold block).reply
    (.settings window hold block)
  have hblocks : (if decide (block ≠ p.queue.block) = true then v.formBlocks (p.queue.records.length + 1) else v) = v := by
    split
    next hc =>
      have hsmall := hb.imp_right fun h => h.resolve_right (of_decide_eq_true hc)
      rw [Ev.formBlocks]
      exact if_neg fun ⟨h0, hle⟩ => hsmall.elim h0 fun h => absurd h (not_lt.mpr hle)
    next => rfl
  replace hact := hact.trans (congrArg (fun w : Ev => { w with askEvaluate := true }) hblocks)
  have hkept : (p.setPace window hold block).nothingToDispatch = p.nothingToDispatch := rfl
  exact exec_answered .pace h hlen hact rfl rfl rfl (.inl rfl) (.inr (hkept.trans hq)) (.inl rfl)

end

/-- Settles O25. -/
theorem clearReadAndPaceRequestsAct : Obligations.ClearReadAndPaceRequestsAct :=
  ⟨fun _ _ h => ⟨fun code => exec_engineClear h code, exec_errlogRead h⟩,
    fun _ _ h => ⟨fun code => exec_resultsRead h code, fun body hl => exec_pace h body hl⟩⟩

end Sys2Proof.Machine

/-! PROOFS. The requests that only report (R22, R31, R34, R52, R73, R95, R105, R190). -/

namespace Sys2Proof.Machine

/-! ### What RELAY_QUERY reports of a card (R72, R73, R95) -/

/-- A list put together from blocks of one length, read at a place of one block. -/
theorem getElem?_flatMap_range {α : Type} {f : Nat → List α} {m : Nat} (hf : ∀ n, (f n).length = m) {n k : Nat}
    (hk : k < m) : ∀ {count : Nat}, n < count → ((List.range count).flatMap f)[m * n + k]? = (f n)[k]?
  | count + 1, hn => by
    have hlen : ∀ c, ((List.range c).flatMap f).length = m * c := fun c => by
      induction c with
      | zero => rfl
      | succ c ih => rw [List.range_succ, List.flatMap_append, List.length_append, ih, List.flatMap_singleton, hf, Nat.mul_succ]
    rw [List.range_succ, List.flatMap_append, List.flatMap_singleton]
    rcases Nat.lt_succ_iff_lt_or_eq.mp hn with hn | rfl
    · have hin : m * n + k < m * count := by
        calc m * n + k < m * n + m := by omega
          _ = m * (n + 1) := (Nat.mul_succ m n).symm
          _ ≤ m * count := Nat.mul_le_mul_left m hn
      rw [List.getElem?_append_left (by rw [hlen]; exact hin), getElem?_flatMap_range hf hk hn]
    · rw [List.getElem?_append_right (by rw [hlen]; omega), hlen, Nat.add_sub_cancel_left]

theorem length_pairsOfCard (c : Nat) : (pairsOfCard c).length = 320 := by
  simp [pairsOfCard, Config.nailsPerCard, Role.all]

/-- The relays of a card stand nail by nail, each nail's roles in their order. -/
theorem pairsOfCard_getElem? (c : Nat) {n k : Nat} (hn : n < 64) (hk : k < 5) :
    ∃ role, [Role.sh, .kh, .sl, .kl, .g][k]? = some role ∧ (pairsOfCard c)[5 * n + k]? = some ⟨64 * c + n, role⟩ := by
  refine ⟨Role.all[k], List.getElem?_eq_getElem hk, ?_⟩
  have hblock := getElem?_flatMap_range (f := fun n => Role.all.map fun r => (⟨c * 64 + n, r⟩ : Pair)) (m := 5)
    (fun _ => rfl) hk hn
  rw [pairsOfCard, Config.nailsPerCard, hblock, List.getElem?_map, List.getElem?_eq_getElem (l := Role.all) hk, Nat.mul_comm 64 c]
  rfl

/-- Where a condition stands at a tick, given the end of its card's motion: reached, when its own end has passed and the
card's has not. -/
def Motion.asOf (tick last : Nat) (m : Motion) : Option Motion :=
  if m.moving && (decide (m.due ≤ tick) && decide (m.due < last)) then m.settled else some m

/-- A condition as reported while the card's motion goes on. -/
def readingAt (tick last : Nat) : Option Motion → RelayReading
  | none => .openCircuit
  | some (.closing d) => if d ≤ tick ∧ d < last then .closed else .closing
  | some .closed => .closed
  | some (.opening d) => if d ≤ tick ∧ d < last then .openCircuit else .opening

theorem Motion.asOf_eq (tick last : Nat) (m : Motion) : m.asOf tick last =
    if m.moving = true ∧ m.due ≤ tick ∧ m.due < last then m.settled else some m := by
  simp only [Motion.asOf, Bool.and_eq_true, decide_eq_true_eq]

theorem Motion.reading_asOf (tick last : Nat) (o : Option Motion) :
    Motion.reading (o.bind (Motion.asOf tick last)) = readingAt tick last o := by
  match o with
  | none => rfl
  | some .closed => rfl
  | some (.closing d) | some (.opening d) =>
    rw [Option.bind_some, Motion.asOf_eq]
    by_cases hd : d ≤ tick ∧ d < last <;>
      simp [Motion.moving, Motion.due, Motion.settled, Motion.reading, readingAt, hd]

theorem Motion.asOf_of_still {m : Motion} (h : m.moving = false) (tick last : Nat) : m.asOf tick last = some m := by
  simp [Motion.asOf, h]

theorem Card.asOf_eq (tick : Nat) (x : Card) : x.asOf tick =
    { x with
      connection := ⟨if (x.connection.motion.bind (Motion.asOf tick x.lastDue)).isSome then x.connection.engine else none,
        x.connection.motion.bind (Motion.asOf tick x.lastDue)⟩
      relays := x.relays.filterMap fun y => (y.2.asOf tick x.lastDue).map fun m => (y.1, m) } := rfl

/-- A relay looked up among conditions that each stand alone. -/
theorem find?_filterMap_of_nodup (step : Motion → Option Motion) (a : Pair) {l : List (Pair × Motion)}
    (h : (l.map (·.1)).Nodup) :
    ((l.filterMap fun y => (step y.2).map fun m => (y.1, m)).find? fun y => decide (y.1 = a)).map (·.2) =
      ((l.find? fun y => decide (y.1 = a)).map (·.2)).bind step := by
  induction l with
  | nil => rfl
  | cons y l ih =>
    rw [List.map_cons, List.nodup_cons] at h
    obtain ⟨hy, hl⟩ := h
    by_cases ha : y.1 = a
    · have hnone : ((l.filterMap fun y => (step y.2).map fun m => (y.1, m)).find? fun y => decide (y.1 = a)) = none := by
        rw [List.find?_eq_none]
        intro z hz
        obtain ⟨w, hw, hz⟩ := List.mem_filterMap.mp hz
        obtain ⟨m, -, rfl⟩ := Option.map_eq_some_iff.mp hz
        simp only [decide_eq_true_eq]
        exact fun he => hy (List.mem_map.mpr ⟨w, hw, he.trans ha.symm⟩)
      cases hs : step y.2 with
      | none => simp [hs, ha, hnone]
      | some m => simp [hs, ha]
    · cases hs : step y.2 with
      | none => simpa [hs, ha] using ih hl
      | some m => simpa [hs, ha] using ih hl

/-- A card out of motion stands as it is. -/
theorem Card.asOf_of_still {x : Card} (h : x.inMotion = false) (tick : Nat) :
    x.asOf tick = { x with connection := ⟨if x.connection.motion.isSome then x.connection.engine else none, x.connection.motion⟩ } := by
  have hstill : ∀ m ∈ x.motions, m.asOf tick x.lastDue = some m := fun m hm =>
    Motion.asOf_of_still (by simpa using List.any_eq_false.mp h m hm) tick x.lastDue
  have hmotion : x.connection.motion.bind (Motion.asOf tick x.lastDue) = x.connection.motion := by
    cases hm : x.connection.motion with
    | none => rfl
    | some m => exact hstill m (List.mem_append_left _ (by simp [hm]))
  have hrelays : (x.relays.filterMap fun y => (y.2.asOf tick x.lastDue).map fun m => (y.1, m)) = x.relays := by
    calc _ = x.relays.filterMap some := List.filterMap_congr fun y hy => by
          rw [hstill y.2 (List.mem_append_right _ (List.mem_map_of_mem hy))]
          rfl
      _ = x.relays := List.filterMap_some
  rw [Card.asOf_eq, hmotion, hrelays]

theorem Relay.view_connection_ready {r : Relay} {tick c : Nat} (h : (r.card c).status = .ready) :
    (r.view tick c).connection = some (((r.card c).asOf tick).connection.engine,
      Motion.reading ((r.card c).asOf tick).connection.motion) := by
  have hs : ((r.card c).asOf tick).status = .ready := h
  simp only [Relay.view, hs]

theorem Relay.view_relays_ready {r : Relay} {tick c : Nat} (h : (r.card c).status = .ready) :
    (r.view tick c).relays = (pairsOfCard c).map fun a =>
      Motion.reading ((((r.card c).asOf tick).relays.find? fun y => decide (y.1 = a)).map (·.2)) := by
  have hs : ((r.card c).asOf tick).status = .ready := h
  simp only [Relay.view, hs]

/-- The relay of a nail and a role as a READY card reports it. -/
theorem Relay.view_relay {r : Relay} {tick c n k : Nat} (h : (r.card c).status = .ready) (hn : n < 64) (hk : k < 5) :
    ∃ role, [Role.sh, .kh, .sl, .kl, .g][k]? = some role ∧ (r.view tick c).relays[5 * n + k]? = some (Motion.reading
      ((((r.card c).asOf tick).relays.find? fun y => decide (y.1 = ⟨64 * c + n, role⟩)).map (·.2))) := by
  obtain ⟨role, hrole, hpair⟩ := pairsOfCard_getElem? c hn hk
  refine ⟨role, hrole, ?_⟩
  rw [Relay.view_relays_ready h, List.getElem?_map, hpair]
  rfl

/-- A card by its status: what RELAY_QUERY reports, and of a card out of motion its relays as they stand. -/
theorem Relay.view_spec (r : Relay) (tick c : Nat) :
    let x := r.card c
    let view := r.view tick c
    view.status = x.status ∧ view.holdLimit = r.holdLimit ∧
    (∀ e, view.plans.get e = ⟨(r.plans.get e).state, (r.plans.get e).held.length, (r.plans.get e).hold⟩) ∧
    (x.status = .absent → view.operations = none ∧ view.assignment = none ∧ view.connection = none ∧
      view.relays = [] ∧ view.queued = none) ∧
    (x.status = .failed → view.operations = some x.operations ∧ view.assignment = none ∧
      view.connection = some (none, .unknown) ∧ view.relays = List.replicate 320 .unknown ∧ view.queued = none) ∧
    (x.status = .ready → view.operations = some x.operations ∧ view.assignment = some (r.assignment c) ∧
      view.relays.length = 320 ∧ view.queued = some ((r.queue.find? fun q => q.card == c).map (·.stage))) ∧
    (x.status = .ready → x.inMotion = false →
      view.connection = some (if x.connection.motion = none then none else x.connection.engine,
        Motion.reading x.connection.motion) ∧
      ∀ n k, n < 64 → k < 5 → ∃ role, [Role.sh, .kh, .sl, .kl, .g][k]? = some role ∧
        view.relays[5 * n + k]? =
          some (Motion.reading ((x.relays.find? fun y => decide (y.1 = ⟨64 * c + n, role⟩)).map (·.2)))) := by
  intro x view
  have hstatus : (x.asOf tick).status = x.status := rfl
  have hoperations : (x.asOf tick).operations = x.operations := rfl
  refine ⟨rfl, rfl, fun e => PerEngine.get_mapIdx _ _ _, fun ha => ?_, fun hf => ?_, fun hr => ?_, fun hr hm => ⟨?_, fun n k hn hk => ?_⟩⟩
  · simp only [view, Relay.view, x, hstatus] at ha ⊢
    simp [ha]
  · simp only [view, Relay.view, x, hstatus, hoperations] at hf ⊢
    simp [hf, length_pairsOfCard, List.map_const']
  · simp only [view, Relay.view, x, hstatus, hoperations] at hr ⊢
    simp [hr, length_pairsOfCard]
  · rw [Relay.view_connection_ready hr, Card.asOf_of_still hm]
    cases x.connection.motion <;> rfl
  · obtain ⟨role, hrole, hread⟩ := Relay.view_relay (tick := tick) hr hn hk
    exact ⟨role, hrole, by rw [hread, Card.asOf_of_still hm]⟩

/-- A card in motion: each relay reads as what it has reached. -/
theorem Relay.view_moving (r : Relay) (tick c : Nat) :
    let x := r.card c
    let view := r.view tick c
    let reading := readingAt tick x.lastDue
    x.status = .ready →
      (∃ e, view.connection = some (e, reading x.connection.motion) ∧
        (reading x.connection.motion = .openCircuit → e = none) ∧
        (reading x.connection.motion ≠ .openCircuit → e = x.connection.engine)) ∧
      ((x.relays.map (·.1)).Nodup → ∀ n k, n < 64 → k < 5 →
        ∃ role, [Role.sh, .kh, .sl, .kl, .g][k]? = some role ∧ view.relays[5 * n + k]? =
          some (reading ((x.relays.find? fun y => decide (y.1 = ⟨64 * c + n, role⟩)).map (·.2)))) := by
  intro x view reading hr
  refine ⟨⟨((r.card c).asOf tick).connection.engine, ?_, ?_⟩, fun hd n k hn hk => ?_⟩
  · have hread : reading x.connection.motion = _ := (Motion.reading_asOf tick x.lastDue x.connection.motion).symm
    rw [hread]
    exact Relay.view_connection_ready hr
  · have hsome : reading x.connection.motion = .openCircuit ↔
        (x.connection.motion.bind (Motion.asOf tick x.lastDue)).isSome = false := by
      have hread : reading x.connection.motion = _ := (Motion.reading_asOf tick x.lastDue x.connection.motion).symm
      rw [hread]
      match x.connection.motion.bind (Motion.asOf tick x.lastDue) with
      | none | some (.closing _) | some .closed | some (.opening _) => simp [Motion.reading]
    exact ⟨fun h => if_neg (Bool.eq_false_iff.mp (hsome.mp h)), fun h => if_pos (Bool.not_eq_false _ ▸ mt hsome.mpr h)⟩
  · obtain ⟨role, hrole, hread⟩ := Relay.view_relay (tick := tick) hr hn hk
    refine ⟨role, hrole, hread.trans ?_⟩
    rw [Card.asOf_eq, find?_filterMap_of_nodup _ _ hd, Motion.reading_asOf]

/-! ### The requests that only report (R186, R187) -/

section
variable {s : State} {number : Byte}

/-- A request that the mode gate admits, taken while the link is idle, leaves what its owner's act closes with. -/
theorem exec_requestOf_idle {body : List Byte} {n : Nat} (k : RequestKind) (h : s.LinkIdle number)
    (hgate : admits s.part.link.mode s.part.disp.seq k = true) (hl : body.length = n) (hk : k.bodyLength = some n)
    {q : Part} (hq : (owner k body (Ev.start (s.part.taking number k.code))).close = q) :
    exec (requestOf k number body) s = .next { s with part := q } := by
  have hmode : admits (Ev.start (s.part.taking number k.code)).p.link.mode
      (Ev.start (s.part.taking number k.code)).p.disp.seq k = true := hgate
  rw [exec_requestOf, offerRequest, event, Ev.offer_serving s number k.code body h.free h.empty h.numbered,
    Ev.judgeRequest_code, hmode, if_neg Bool.true_eq_false.mp, if_neg (by simp [hk, hl]), hq]

/-- A request of the right length whose act is to reply, and nothing else. -/
theorem exec_reported {body : List Byte} {n : Nat} (k : RequestKind) (h : s.LinkIdle number)
    (hgate : admits s.part.link.mode s.part.disp.seq k = true) (hl : body.length = n) (hk : k.bodyLength = some n)
    {reply : Reply} (hact : owner k body (Ev.start (s.part.taking number k.code)) =
      (Ev.start (s.part.taking number k.code)).reply reply) :
    exec (requestOf k number body) s = .next { s with part := s.part.repliedWith number k.code reply } :=
  exec_requestOf_idle k h hgate hl hk (by rw [hact]; exact Ev.close_reply_taking s.part s.part number k.code id reply rfl)

theorem exec_refusedValue {body : List Byte} {n : Nat} (k : RequestKind) (h : s.LinkIdle number)
    (hgate : admits s.part.link.mode s.part.disp.seq k = true) (hl : body.length = n) (hk : k.bodyLength = some n)
    (hact : owner k body (Ev.start (s.part.taking number k.code)) =
      (Ev.start (s.part.taking number k.code)).refuse .badValue) :
    exec (requestOf k number body) s = .next { s with part := s.part.refusedWith number k.code .badValue none } :=
  exec_requestOf_idle k h hgate hl hk (by rw [hact, Ev.close_refuse_taking])

theorem admits_describe (mode : LinkMode) (seq : SeqState) : admits mode seq .describe = true := by
  rw [← Bool.not_eq_false, admits_eq_false_iff]
  simp

theorem admits_serving {mode : LinkMode} {seq : SeqState} (hm : mode = .serving) (k : RequestKind)
    (hk : seq ≠ .stopping ∨ k ∈ [RequestKind.status, .describe, .fixtureQuery, .timeRead, .resultsRead]) :
    admits mode seq k = true := by
  rw [← Bool.not_eq_false, admits_eq_false_iff, hm]
  rintro (⟨h, -⟩ | ⟨-, hs, hn⟩)
  · cases h
  · exact hk.elim (fun h => h hs) hn

/-- Settles O16. -/
theorem queriesReportAndChangeNothing : Obligations.QueriesReportAndChangeNothing := by
  refine ⟨fun s number h => ?_, Relay.view_spec, Relay.view_moving⟩
  intro p identity view reports refuses
  have hidentity : p.lock.identity.state = identity := rfl
  have hfixture : p.fixtureState = ⟨p.lock.docked, p.lock.vacuum, identity⟩ := by rw [← hidentity]; rfl
  refine ⟨?_, fun hm => ⟨?_, ?_, ?_⟩, fun hm hs => ⟨fun body hl => ⟨fun hn => ?_, fun hn => ?_⟩, fun code =>
    ⟨fun hn => ?_, fun hn => ?_, fun hn => ?_, fun hn => ?_⟩⟩⟩
  · rw [← hfixture]
    exact exec_reported .describe h (admits_describe _ _) List.length_nil rfl rfl
  · exact exec_reported .fixtureQuery h (admits_serving hm _ (.inr (by simp))) List.length_nil rfl rfl
  · exact exec_reported .timeRead h (admits_serving hm _ (.inr (by simp))) List.length_nil rfl rfl
  · rw [← hfixture]
    exact exec_reported .status h (admits_serving hm _ (.inr (by simp))) List.length_nil rfl rfl
  · exact exec_refusedValue .stepRead h (admits_serving hm _ (.inl hs)) hl rfl (if_pos hn)
  · exact exec_reported .stepRead h (admits_serving hm _ (.inl hs)) hl rfl (if_neg (not_le.mpr hn))
  · exact exec_refusedValue .templateRead h (admits_serving hm _ (.inl hs)) List.length_singleton rfl (if_pos hn)
  · exact exec_reported .templateRead h (admits_serving hm _ (.inl hs)) List.length_singleton rfl (if_neg (not_le.mpr hn))
  · exact exec_refusedValue .relayQuery h (admits_serving hm _ (.inl hs)) List.length_singleton rfl (if_pos hn)
  · exact exec_reported .relayQuery h (admits_serving hm _ (.inl hs)) List.length_singleton rfl (if_neg (not_le.mpr hn))

end

end Sys2Proof.Machine

/-! PROOFS. The reference, the waits and the fixture lines (R16 to R20, R96 to R104). -/

namespace Sys2Proof.Machine

/-! ### Events that leave nothing to do -/

/-- An event whose act changes the part and hands some frames, where nothing is left to do. -/
theorem event_hands {s : State} {f : Ev → Ev} {v : Ev} {q : Part} {frames : List OutFrame} (hv : f (Ev.start s.part) = v)
    (hp : v.p = q) (hf : v.frames = frames) (hc : v.completions = [])
    (hr : v.askRemoval = false ∨ q.scanner.state ≠ .waitingSpace)
    (he : v.askEvaluate = false ∨ q.nothingToDispatch = true) (hm : v.askRemainder = false ∨ q.noRemainder = true) :
    event s f = .next { s with part := q.hand frames } := by
  rw [event, hv, v.close_quiet hc (hp ▸ hr) (hp ▸ he) (hp ▸ hm), hp, hf]

/-- An event whose act only changes the part. -/
theorem event_map {s : State} {f : Ev → Ev} {q : Part} (hv : f (Ev.start s.part) = Ev.start q) :
    event s f = .next { s with part := q } :=
  event_hands hv rfl rfl rfl (.inl rfl) (.inl rfl) (.inl rfl)

/-- An event whose act does nothing. -/
theorem event_same {s : State} {f : Ev → Ev} (hv : f (Ev.start s.part) = Ev.start s.part) : event s f = .next s :=
  event_map hv

/-! ### The reference (R96 to R99, R104) -/

theorem Timebase.edge_external {t : Timebase} (h : t.ref = .external) :
    t.edge = { t with tick := t.tick + 1, silent := 0 } := by
  cases t; cases h; rfl

theorem Timebase.edge_recovery {t : Timebase} (h : t.ref = .recovery) :
    t.edge = { t with ref := .verifying, verification := some (t.tick + 100000), silent := 0 } := by
  cases t; cases h; rfl

theorem Timebase.edge_verifying {t : Timebase} (h : t.ref = .verifying) : t.edge = { t with silent := 0 } := by
  cases t; cases h; rfl

theorem Ev.loss_eq (v : Ev) : v.loss = match v.p.time.ref with
    | .external => (v.map fun p => p.onTime fun t => (t.advance 100).lose).referenceNotice
    | .verifying => v.map fun p => p.onTime fun t => (t.advance (100 - t.silent)).lose
    | .recovery => v := rfl

theorem Ev.verified_eq (v : Ev) : v.verified = match v.p.time.verification with
    | none => v
    | some due => (v.map fun p => (p.reach due).onTime fun t =>
        { t with ref := .external, verification := none }).referenceNotice := rfl

/-- Settles O34. -/
theorem referenceFollowsItsTable : Obligations.ReferenceFollowsItsTable := by
  intro s p t lost notified
  have hedge : exec .referenceEdge s = .next { s with part := { p with time := t.edge } } := event_map rfl
  have hloss := Ev.loss_eq (Ev.start p)
  have href : (Ev.start p).p.time.ref = t.ref := rfl
  have hverified := Ev.verified_eq (Ev.start p)
  have hwait : (Ev.start p).p.time.verification = t.verification := rfl
  rw [href] at hloss
  rw [hwait] at hverified
  refine ⟨fun h => ?_, fun h => ?_, fun h => ?_, fun h => ?_, fun due h => ?_⟩
  · rw [h] at hloss
    rw [hedge, Timebase.edge_external h]
    exact ⟨rfl, event_hands hloss rfl rfl rfl (.inl rfl) (.inl rfl) (.inl rfl)⟩
  · rw [h] at hloss
    rw [hedge, Timebase.edge_recovery h]
    exact ⟨rfl, event_same hloss⟩
  · rw [h] at hloss
    rw [hedge, Timebase.edge_verifying h]
    exact ⟨rfl, event_map hloss⟩
  · rw [h] at hverified
    exact event_same hverified
  · rw [h] at hverified
    exact event_hands hverified rfl rfl rfl (.inl rfl) (.inl rfl) (.inl rfl)

/-! ### Waits (R101, R102) -/

theorem lengthen_bounds (n : Nat) : 17 * n ≤ 16 * lengthen n ∧ 16 * lengthen n < 17 * n + 16 := by
  unfold lengthen
  omega

theorem mem_dueOf {wait : Option Nat} {due : Nat} (c : Instr) (h : wait = some due) : (due, c) ∈ dueOf wait c := by
  simp [dueOf, h]

/-- A condition whose motion goes on has its wait. -/
theorem Card.mem_waits {x : Card} {m : Motion} (hm : m ∈ x.motions) (hmoving : m.moving = true) : m.due ∈ x.waits :=
  List.mem_map_of_mem (List.mem_filter.mpr ⟨hm, hmoving⟩)

theorem Part.mem_dueList_of_card {p : Part} {x : Nat × Card} (hx : x ∈ p.relay.cards) {due : Nat} (hd : due ∈ x.2.waits) :
    (due, .relayMotionEnd x.1) ∈ p.dueList := by
  have hwaits : (due, Instr.relayMotionEnd x.1) ∈ p.relay.waits :=
    List.mem_append_right _ (List.mem_flatMap.mpr ⟨x, hx, List.mem_map_of_mem hd⟩)
  simp only [Part.dueList, List.mem_append]
  exact .inl (.inl (.inr hwaits))

theorem Part.mem_dueList_of_engine {p : Part} {e : EngineId} {x : Nat × Instr} (hx : x ∈ p.engineWaits e) : x ∈ p.dueList := by
  have hall : x ∈ EngineId.all.flatMap p.engineWaits := List.mem_flatMap.mpr ⟨e, e.mem_all, hx⟩
  simp only [Part.dueList, List.mem_append]
  exact .inl (.inr hall)

/-- Settles O35. -/
theorem waitsAreLengthenedOutsideExternal : Obligations.WaitsAreLengthenedOutsideExternal := by
  refine ⟨fun t n => ⟨fun h => if_pos h, fun h => ?_, rfl⟩, by decide, rfl, rfl, fun us => ⟨rfl, rfl, Nat.mul_comm us 100⟩,
    fun p => ?_, fun s h => ⟨_, event_map rfl, ?_⟩⟩
  · rw [Timebase.waitLength, if_neg h]
    exact lengthen_bounds n
  · intro runs
    refine ⟨fun line due h => ?_, fun due h => ?_, fun due h => ?_, fun due h => ?_, fun card image start h => ?_,
      fun x hx due h => ?_, fun e => ⟨fun due h => ?_, fun due h => ?_, fun due h => ?_, fun due h => ?_⟩⟩
    · cases line with
      | fixturePresent => exact List.mem_append_left _ (by simp [mem_dueOf _ (show p.lock.presentLine.wait = some due from h)])
      | vacuumGood => simp [runs, Part.dueList, mem_dueOf _ (show p.lock.vacuumLine.wait = some due from h)]
    · simp [runs, Part.dueList, mem_dueOf _ h]
    · simp [runs, Part.dueList, mem_dueOf _ h]
    · simp [runs, Part.dueList, mem_dueOf _ h]
    · simp [runs, Part.dueList, Relay.waits, h, Config.ackTimeoutTicks]
    · refine Part.mem_dueList_of_card hx ?_
      have hmotion : ∀ m, m ∈ x.2.motions → m = .closing due ∨ m = .opening due → due ∈ x.2.waits := by
        rintro m hm (rfl | rfl)
        · exact Card.mem_waits hm rfl
        · exact Card.mem_waits hm rfl
      rcases h with h | h | ⟨y, hy, h⟩
      · exact hmotion _ (List.mem_append_left _ (by simp [h])) (.inl rfl)
      · exact hmotion _ (List.mem_append_left _ (by simp [h])) (.inr rfl)
      · exact hmotion _ (List.mem_append_right _ (List.mem_map_of_mem hy)) h
    · exact Part.mem_dueList_of_engine (e := e) (List.mem_append_right _ (mem_dueOf _ h))
    · exact Part.mem_dueList_of_engine (e := e)
        (List.mem_append_left _ (List.mem_append_left _ (List.mem_append_right _ (mem_dueOf _ h))))
    · exact Part.mem_dueList_of_engine (e := e) (List.mem_append_left _ (List.mem_append_right _ (mem_dueOf _ h)))
    · have hphase : ∀ c, (due, c) ∈ _ → runs due c := fun c hc => Part.mem_dueList_of_engine (e := e)
        (List.mem_append_left _ (List.mem_append_left _ (List.mem_append_left _ hc)))
      refine ⟨fun hp => ?_, fun hp => ?_, fun hp => ?_, fun hp => ?_, fun hp => ?_⟩ <;>
        exact hphase _ (by rw [hp]; exact mem_dueOf _ h)
  · exact congrArg Timebase.verification (Timebase.edge_recovery h)

/-! ### The fixture lines and the identity read (R16 to R18, R20) -/

/-- A completed debounce wait, with the raw level and the event of the line (R16). -/
theorem Ev.debounced_of_wait {p : Part} {line : FixtureLine} {due : Nat} (h : (p.lock.line line).wait = some due) :
    Ev.debounced line (Ev.start p) = (Ev.start ((p.reach due).onLock fun k =>
      k.setLine line ⟨(p.lock.line line).raw, (p.lock.line line).raw, none⟩)).lineEvent line (p.lock.line line).raw := by
  have hline : (Ev.start p).p.lock.line line = p.lock.line line := rfl
  unfold Ev.debounced
  simp only [hline, h]
  rfl

theorem Ev.debounced_none {p : Part} {line : FixtureLine} (h : (p.lock.line line).wait = none) :
    Ev.debounced line (Ev.start p) = Ev.start p := by
  have hline : (Ev.start p).p.lock.line line = p.lock.line line := rfl
  unfold Ev.debounced
  simp only [hline, h]

theorem Ev.identityTransferred_reading {p : Part} (h : p.lock.identity = .reading) (transfer : IdentityTransfer) :
    Ev.identityTransferred transfer (Ev.start p) = (Ev.start (p.reachTransfer transfer)).identityEnds
      (if (p.reachTransfer transfer).readOverdue then .unreadable else identityOutcome transfer) :=
  if_pos h

theorem Ev.identityLimited_of_limit {p : Part} {due : Nat} (h : p.lock.identityLimit = some due) :
    Ev.identityLimited (Ev.start p) = (Ev.start (p.reach due)).identityEnds .unreadable := by
  have hlimit : (Ev.start p).p.lock.identityLimit = p.lock.identityLimit := rfl
  unfold Ev.identityLimited
  simp only [hlimit, h]
  rfl

/-- The part at the end of a read, its notice handed (R18). -/
def Part.readEnded (p : Part) (outcome : IdentityRead) : Part :=
  ({ p with lock := { p.lock with identity := outcome, readStart := none, identityLimit := none } } : Part).hand
    [.notice (.fixture ⟨p.lock.docked, p.lock.vacuum, outcome⟩ .identityRead)]

/-- The end of a read as the whole of an event. -/
theorem event_identityEnds {s : State} {f : Ev → Ev} {q : Part} {outcome : IdentityRead}
    (h : f (Ev.start s.part) = (Ev.start q).identityEnds outcome) :
    event s f = .next { s with part := q.readEnded outcome } :=
  event_hands h rfl rfl rfl (.inl rfl) (.inl rfl) (.inl rfl)

theorem toNat_append_mul {m n : Nat} (x : BitVec m) (y : BitVec n) : (x ++ y).toNat = x.toNat * 2 ^ n + y.toNat := by
  rw [BitVec.toNat_append, ← Nat.shiftLeft_add_eq_or_of_lt y.isLt, Nat.shiftLeft_eq]

/-- Nine bytes whose sum is 0 give their first eight, least significant first (R18). -/
theorem identityOutcome_nine (b0 b1 b2 b3 b4 b5 b6 b7 check : Byte) :
    identityOutcome (.bytes [b0, b1, b2, b3, b4, b5, b6, b7, check]) =
      if b0 + b1 + b2 + b3 + b4 + b5 + b6 + b7 + check = 0
      then .known (b7 ++ b6 ++ b5 ++ b4 ++ b3 ++ b2 ++ b1 ++ b0) else .unreadable := by
  have hsum : byteSum [b0, b1, b2, b3, b4, b5, b6, b7, check] = b0 + b1 + b2 + b3 + b4 + b5 + b6 + b7 + check := by
    simp [byteSum]
  have hvalue : BitVec.ofNat 64 (u64At [b0, b1, b2, b3, b4, b5, b6, b7, check] 0) =
      b7 ++ b6 ++ b5 ++ b4 ++ b3 ++ b2 ++ b1 ++ b0 := by
    apply BitVec.eq_of_toNat_eq
    simp only [BitVec.toNat_ofNat, toNat_append_mul, u64At, u32At, u16At, byteAt]
    have h0 := b0.isLt; have h1 := b1.isLt; have h2 := b2.isLt; have h3 := b3.isLt
    have h4 := b4.isLt; have h5 := b5.isLt; have h6 := b6.isLt; have h7 := b7.isLt
    simp only [List.getD_cons_zero, List.getD_cons_succ]
    omega
  rw [identityOutcome, hsum, hvalue]
  simp only [List.length_cons, List.length_nil, true_and]

/-- A read that is not nine bytes is worth nothing. -/
theorem identityOutcome_short {read : List Byte} (h : read.length ≠ 9) : identityOutcome (.bytes read) = .unreadable :=
  if_neg fun hc => h hc.1

/-- A transfer that ends: its limit passed, or its outcome. -/
theorem exec_identityReadEnd {s : State} {start limit : Nat} (h : s.part.lock.identity = .reading)
    (hstart : s.part.lock.readStart = some start) (hlimit : s.part.lock.identityLimit = some limit)
    {transfer : IdentityTransfer} {q : Part} (hreach : s.part.reach (start + identityLeastTicks transfer) = q)
    {outcome : IdentityRead} (hend : (if limit < q.time.tick then .unreadable else identityOutcome transfer) = outcome) :
    exec (.identityReadEnd transfer) s = .next { s with part := q.readEnded outcome } := by
  have hq : s.part.reachTransfer transfer = q := by rw [Part.reachTransfer, hstart]; exact hreach
  have hover : q.readOverdue = decide (limit < q.time.tick) := by
    rw [Part.readOverdue, show q.lock.identityLimit = some limit from hreach ▸ hlimit]
  have hact := Ev.identityTransferred_reading h transfer
  rw [hq, hover] at hact
  simp only [decide_eq_true_eq, hend] at hact
  exact event_identityEnds hact

/-- Settles O31. -/
theorem linesAreDebouncedAndTheIdentityIsRead : Obligations.LinesAreDebouncedAndTheIdentityIsRead := by
  refine ⟨fun s => ?_, fun s => ?_⟩
  · intro p k changed settled
    refine ⟨fun asserted => ⟨event_map rfl, event_map rfl⟩, fun line h => event_same (Ev.debounced_none h),
      fun due h hraw => ?_, fun due h hraw => ?_⟩
    · have hact := Ev.debounced_of_wait (p := p) (line := .fixturePresent) h
      rw [show (p.lock.line .fixturePresent).raw = true from hraw] at hact
      exact event_hands hact rfl rfl rfl (.inl rfl) (.inl rfl) (.inl rfl)
    · have hact := Ev.debounced_of_wait (p := p) (line := .vacuumGood) h
      rw [show (p.lock.line .vacuumGood).raw = true from hraw] at hact
      exact event_hands hact rfl rfl rfl (.inl rfl) (.inl rfl) (.inl rfl)
  · intro p k ended ends
    refine ⟨fun transfer h => event_same (if_neg h), fun start limit h hstart hlimit => ?_, fun h => ?_,
      fun due h => event_identityEnds (Ev.identityLimited_of_limit h)⟩
    · have hends := @exec_identityReadEnd s start limit h hstart hlimit
      intro at_
      refine ⟨?_, fun read hbad => ?_, fun hin b0 b1 b2 b3 b4 b5 b6 b7 check => ?_⟩
      · exact hends rfl (ite_self _)
      · refine hends rfl ?_
        rcases hbad with hlen | hover
        · rw [identityOutcome_short hlen, ite_self]
        · exact if_pos hover
      · exact hends rfl ((if_neg (not_lt.mpr hin)).trans (identityOutcome_nine ..))
    · have hnone : (Ev.start p).p.lock.identityLimit = none := h
      exact event_same (by rw [Ev.identityLimited, hnone])

end Sys2Proof.Machine

/-! PROOFS. The choice of nails, engines and steps (R53 to R64, R146, R147). -/

namespace Sys2Proof.Machine

/-! ### The best of a list by a key -/

/-- The first of a list in an order, the later one taken only where it stands before. -/
def pickBy {α : Type} (before : α → α → Bool) : List α → Option α
  | [] => none
  | a :: rest => match pickBy before rest with
    | some b => if before b a then some b else some a
    | none => some a

section
variable {α K : Type} [LinearOrder K] {before : α → α → Bool} {key : α → K}

theorem pickBy_eq_none_iff (l : List α) : pickBy before l = none ↔ l = [] := by
  cases l with
  | nil => simp [pickBy]
  | cons a rest =>
    rw [pickBy]
    split
    · split <;> simp
    · simp

theorem pickBy_le (hkey : ∀ a b, before a b = true ↔ key a < key b) {l : List α} {a : α} (h : pickBy before l = some a) :
    a ∈ l ∧ ∀ b ∈ l, key a ≤ key b := by
  induction l generalizing a with
  | nil => cases h
  | cons c rest ih =>
    rw [pickBy] at h
    split at h
    next b hb =>
      obtain ⟨hmem, hle⟩ := ih hb
      split at h
      next hbc =>
        cases h
        exact ⟨List.mem_cons_of_mem _ hmem, List.forall_mem_cons.mpr ⟨((hkey _ c).mp hbc).le, hle⟩⟩
      next hbc =>
        cases h
        have hcb : key c ≤ key b := not_lt.mp (mt (hkey b c).mpr hbc)
        exact ⟨List.mem_cons_self, List.forall_mem_cons.mpr ⟨le_rfl, fun x hx => hcb.trans (hle x hx)⟩⟩
    next hb =>
      cases h
      rw [(pickBy_eq_none_iff rest).mp hb]
      exact ⟨List.mem_singleton.mpr rfl, by simp⟩

/-- The one picked is the least by a key that tells all items apart. -/
theorem pickBy_eq_some_iff (hkey : ∀ a b, before a b = true ↔ key a < key b) (hinj : Function.Injective key) (l : List α)
    (a : α) : pickBy before l = some a ↔ a ∈ l ∧ ∀ b ∈ l, b ≠ a → key a < key b := by
  constructor
  · intro h
    obtain ⟨hmem, hle⟩ := pickBy_le hkey h
    exact ⟨hmem, fun b hb hne => lt_of_le_of_ne (hle b hb) fun he => hne (hinj he).symm⟩
  · rintro ⟨hmem, hlt⟩
    cases hp : pickBy before l with
    | none => rw [(pickBy_eq_none_iff l).mp hp] at hmem; cases hmem
    | some b =>
      obtain ⟨hb, hle⟩ := pickBy_le hkey hp
      by_contra hne
      exact absurd (hlt b hb fun he => hne (congrArg some he)) (not_lt.mpr (hle a hmem))

end

/-! ### The best nail (R61) -/

/-- What ranks a candidate: its class, SUSPECT after GOOD, its number. -/
def Part.nailKey (p : Part) (e : EngineId) (mine : List Pair) (role : Role) (n : Nat) : ℕ ×ₗ ℕ ×ₗ ℕ :=
  toLex (p.nailClass e mine role n, toLex (if (p.nail n).condition = .suspect then 1 else 0, n))

theorem Part.ranksBefore_iff (p : Part) (e : EngineId) (mine : List Pair) (role : Role) (a b : Nat) :
    p.ranksBefore e mine role a b = true ↔ p.nailKey e mine role a < p.nailKey e mine role b := by
  simp only [Part.ranksBefore, Part.nailKey, Prod.Lex.toLex_lt_toLex]
  by_cases ha : (p.nail a).condition = .suspect <;> by_cases hb : (p.nail b).condition = .suspect <;> simp [ha, hb]

theorem Part.nailKey_injective (p : Part) (e : EngineId) (mine : List Pair) (role : Role) :
    Function.Injective (p.nailKey e mine role) := fun a b h => by
  simp only [Part.nailKey, toLex_inj, Prod.mk.injEq] at h
  exact h.2.2

theorem Part.best_eq_pickBy (p : Part) (e : EngineId) (mine : List Pair) (role : Role) (l : List Nat) :
    p.best e mine role l = pickBy (p.ranksBefore e mine role) l := by
  induction l with
  | nil => rfl
  | cons n rest ih =>
    rw [Part.best, pickBy, ih]
    cases pickBy (p.ranksBefore e mine role) rest <;> rfl

theorem Part.best_eq_none_iff (p : Part) (e : EngineId) (mine : List Pair) (role : Role) (l : List Nat) :
    p.best e mine role l = none ↔ l = [] := by rw [p.best_eq_pickBy, pickBy_eq_none_iff]

theorem Part.best_eq_some_iff (p : Part) (e : EngineId) (mine : List Pair) (role : Role) (l : List Nat) (n : Nat) :
    p.best e mine role l = some n ↔ n ∈ l ∧ ∀ m ∈ l, m ≠ n → p.nailKey e mine role n < p.nailKey e mine role m := by
  rw [p.best_eq_pickBy, pickBy_eq_some_iff (p.ranksBefore_iff e mine role) (p.nailKey_injective e mine role)]

/-! ### The engine of a ring step (R60) -/

/-- What ranks an engine: the more reclaimable needs first, then its number. -/
def Part.engineKey (p : Part) (r : StepRecord) (e : EngineId) : ℕᵒᵈ ×ₗ ℕ :=
  toLex (OrderDual.toDual (p.reclaimable r e), e.index)

theorem EngineId.index_injective : Function.Injective EngineId.index := fun e f h => by
  cases e <;> cases f <;> first | rfl | cases h

theorem Part.engineKey_injective (p : Part) (r : StepRecord) : Function.Injective (p.engineKey r) := fun e f h => by
  simp only [Part.engineKey, toLex_inj, Prod.mk.injEq] at h
  exact EngineId.index_injective h.2

theorem Part.engineKey_lt_iff (p : Part) (r : StepRecord) (e f : EngineId) : p.engineKey r e < p.engineKey r f ↔
    p.reclaimable r f < p.reclaimable r e ∨ (p.reclaimable r f = p.reclaimable r e ∧ e.index < f.index) := by
  simp only [Part.engineKey, Prod.Lex.toLex_lt_toLex, OrderDual.toDual_lt_toDual, OrderDual.toDual_inj, eq_comm]

/-- Among engines in ascending order the later one is taken exactly when it has more needs. -/
theorem Part.mostReclaimable_eq_pickBy (p : Part) (r : StepRecord) {es : List EngineId}
    (h : es.Pairwise fun e f => e.index < f.index) :
    p.mostReclaimable r es = pickBy (fun e f => decide (p.engineKey r e < p.engineKey r f)) es := by
  induction es with
  | nil => rfl
  | cons e rest ih =>
    obtain ⟨he, hrest⟩ := List.pairwise_cons.mp h
    rw [Part.mostReclaimable, pickBy, ← ih hrest]
    cases hf : p.mostReclaimable r rest with
    | none => rfl
    | some f =>
      have hlt : p.engineKey r f < p.engineKey r e ↔ p.reclaimable r e < p.reclaimable r f := by
        rw [p.engineKey_lt_iff]
        have := he f (Part.mostReclaimable_mem hf)
        omega
      simp only [hlt, decide_eq_true_eq]

theorem Part.mem_idleEngines {p : Part} {r : StepRecord} {e : EngineId} :
    e ∈ p.idleEngines r ↔ r.allows e = true ∧ (p.engine e).state = .idle := by
  simp [Part.idleEngines, e.mem_all]

theorem Part.chooseEngine_eq_some_iff (p : Part) (r : StepRecord) (e : EngineId) : p.chooseEngine r = some e ↔
    r.allows e = true ∧ (p.engine e).state = .idle ∧
    ∀ f, f ≠ e → r.allows f = true → (p.engine f).state = .idle → p.engineKey r e < p.engineKey r f := by
  have hsorted : (p.idleEngines r).Pairwise fun e f => e.index < f.index :=
    List.Pairwise.filter _ (by decide : EngineId.all.Pairwise fun e f => e.index < f.index)
  rw [Part.chooseEngine, p.mostReclaimable_eq_pickBy r hsorted,
    pickBy_eq_some_iff (fun _ _ => decide_eq_true_iff) (p.engineKey_injective r)]
  simp only [Part.mem_idleEngines, and_assoc, and_imp]
  refine and_congr_right fun _ => and_congr_right fun _ => forall_congr' fun f => ?_
  tauto

/-! ### The nails of a group test (R146, R147) -/

theorem Part.scanCandidates_eq (p : Part) (net : Nat) : p.scanCandidates net = (p.nailsOf net).filter fun n =>
    decide ((p.nail n).condition ≠ .disabled ∧ (p.card (n / 64)).status = .ready) := by
  exact List.filter_congr fun n _ => (Bool.decide_and _ _).symm

/-- The members after the lowest take SL alone. -/
theorem Part.groupPlan_lows_false (p : Part) (e : EngineId) (isFirst : Bool) (nets : List Nat) (plan : List Pair) :
    Part.groupPlan.lows p e isFirst nets false = .ok plan ↔
      ∃ ns : List Nat, nets.map (p.scanNail e isFirst .sl) = ns.map some ∧ plan = ns.map fun m => ⟨m, .sl⟩ := by
  induction nets generalizing plan with
  | nil =>
    rw [Part.groupPlan.lows]
    constructor
    · intro h; cases h; exact ⟨[], rfl, rfl⟩
    · rintro ⟨ns, hn, rfl⟩
      rw [List.map_eq_nil_iff.mp hn.symm]
      rfl
  | cons net rest ih =>
    rw [Part.groupPlan.lows]
    cases hn : p.scanNail e isFirst .sl net with
    | none =>
      refine ⟨fun h => (by cases h), fun ⟨ns, hns, _⟩ => ?_⟩
      rw [List.map_cons, hn] at hns
      cases ns <;> cases hns
    | some n =>
      constructor
      · intro h
        cases hrest : Part.groupPlan.lows p e isFirst rest false with
        | error x => rw [hrest] at h; cases h
        | ok ps =>
          rw [hrest] at h
          cases h
          obtain ⟨ns, hns, rfl⟩ := (ih ps).mp hrest
          exact ⟨n :: ns, by rw [List.map_cons, hn, hns]; rfl, rfl⟩
      · rintro ⟨ns, hns, rfl⟩
        rw [List.map_cons, hn] at hns
        cases ns with
        | nil => cases hns
        | cons m ns =>
          rw [List.map_cons, List.cons.injEq] at hns
          obtain ⟨hm, hns⟩ := hns
          cases hm
          rw [(ih _).mpr ⟨ns, hns, rfl⟩]
          rfl

theorem Part.groupPlan_ok_iff (p : Part) (e : EngineId) (isFirst : Bool) (probe net : Nat) (rest : List Nat)
    (plan : List Pair) : p.groupPlan e isFirst probe (net :: rest) = .ok plan ↔
      ∃ (s n : Nat) (ns : List Nat), p.scanNail e isFirst .sh probe = some s ∧ p.scanNail e isFirst .sl net = some n ∧
        rest.map (p.scanNail e isFirst .sl) = ns.map some ∧
        plan = ⟨s, .sh⟩ :: ⟨s, .kh⟩ :: ⟨n, .sl⟩ :: ⟨n, .kl⟩ :: ns.map fun m => ⟨m, .sl⟩ := by
  unfold Part.groupPlan
  cases hs : p.scanNail e isFirst .sh probe with
  | none => simp
  | some s =>
    rw [Part.groupPlan.lows]
    cases hn : p.scanNail e isFirst .sl net with
    | none => simp
    | some n =>
      have hlows := p.groupPlan_lows_false e isFirst rest
      cases hrest : Part.groupPlan.lows p e isFirst rest false with
      | error x =>
        refine ⟨fun h => (by cases h), fun ⟨_, _, ns, _, _, hns, _⟩ => ?_⟩
        cases hrest.symm.trans ((hlows _).mpr ⟨ns, hns, rfl⟩)
      | ok ps =>
        constructor
        · intro h
          cases h
          obtain ⟨ns, hns, rfl⟩ := (hlows ps).mp hrest
          exact ⟨s, n, ns, rfl, rfl, hns, rfl⟩
        · rintro ⟨s', n', ns, hs', hn', hns, rfl⟩
          cases hs'
          cases hn'
          cases hrest.symm.trans ((hlows _).mpr ⟨ns, hns, rfl⟩)
          rfl

/-- Settles O49. -/
theorem nailsAndEnginesAreChosenByRank : Obligations.NailsAndEnginesAreChosenByRank := by
  refine ⟨fun p e mine role cands => ?_, fun p r e => ?_, fun p e isFirst probe net rest plan => ?_⟩
  · intro kind suspect before
    have hkind : ∀ n, p.nailClass e mine role n = kind n := fun n => by
      simp only [Part.nailClass, kind, cardOf, Config.nailsPerCard]
      cases (p.card (n / 64)).connection.engine <;> rfl
    have hbefore : ∀ a b, p.nailKey e mine role a < p.nailKey e mine role b ↔ before a b := fun a b => by
      simp only [Part.nailKey, Prod.Lex.toLex_lt_toLex, hkind]
      rfl
    refine ⟨p.best_eq_none_iff e mine role cands, fun n => ?_⟩
    simp only [p.best_eq_some_iff, hbefore]
  · simp only [p.chooseEngine_eq_some_iff, p.engineKey_lt_iff]
  · intro nail
    have hnail : ∀ role net, p.scanNail e isFirst role net = nail role net := fun role net =>
      congrArg (p.best e (p.scanSet e isFirst) role) (p.scanCandidates_eq net)
    have hlow : p.scanNail e isFirst .sl = nail .sl := funext (hnail .sl)
    rw [p.groupPlan_ok_iff, hnail, hlow]

/-! ### The candidates and the nails of a step (R59 to R63) -/

theorem Part.carriesStep_none_eq_false {p : Part} {c : Nat} : p.carriesStep none c = false ↔
    ∀ f x, p.disp.inFlight.get f = some x → x.onCard c = false := by
  simp only [Part.carriesStep, List.any_eq_false, Bool.and_eq_true, not_and, Bool.not_eq_true]
  constructor
  · intro h f x hx
    have hf := h f f.mem_all (by simp)
    rwa [hx] at hf
  · intro h f _ _
    cases hx : p.disp.inFlight.get f with
    | none => rfl
    | some x => exact h f x hx

theorem Entry.onCard_eq_false {x : Entry} {c : Nat} : x.onCard c = false ↔
    ∃ ns, x.nails = some ns ∧ ∀ k ∈ ns.all, k / 64 ≠ c := by
  unfold Entry.onCard
  cases hx : x.nails with
  | none => simp
  | some ns => simp [cardOf, Config.nailsPerCard]

theorem Part.mem_candidates_none {p : Part} {net m : Nat} : m ∈ p.candidates none net ↔
    m ∈ p.nailsOf net ∧ (p.nail m).condition ≠ .disabled ∧ (p.card (m / 64)).status = .ready ∧
      ∀ f x, p.disp.inFlight.get f = some x → ∃ ns, x.nails = some ns ∧ ∀ k ∈ ns.all, k / 64 ≠ m / 64 := by
  have husable : p.usable m = true ↔ (p.nail m).condition ≠ .disabled ∧ (p.card (m / 64)).status = .ready := by
    simp only [Part.usable, Bool.and_eq_true, decide_eq_true_eq]
    rfl
  simp only [Part.candidates, List.mem_filter, Bool.and_eq_true, husable, Bool.not_eq_true',
    Part.carriesStep_none_eq_false, Entry.onCard_eq_false, and_assoc]
  rfl

/-- The sense nail of a side: the best other one of a RES4 step, and otherwise the source's own (R62). -/
def Part.senseNail (p : Part) (e : EngineId) (mine : List Pair) (four : Bool) (sense : Role) (source : Nat)
    (cands : List Nat) : Nat :=
  if four then (p.best e mine sense (cands.filter fun m => decide (m ≠ source))).getD source else source

theorem Part.resolveSide_eq (p : Part) (e : EngineId) (mine : List Pair) (four : Bool) (source sense : Role)
    (cands : List Nat) : p.resolveSide e mine four source sense cands =
      (p.best e mine source cands).map fun s => (s, p.senseNail e mine four sense s cands) := by
  unfold Part.resolveSide Part.senseNail
  cases p.best e mine source cands with
  | none => rfl
  | some s =>
    cases four with
    | false => rfl
    | true =>
      dsimp only [Option.map_some, if_true]
      cases p.best e mine sense (cands.filter fun m => decide (m ≠ s)) <;> rfl

theorem Part.resolveGuards_eq_some_iff (p : Part) (e : EngineId) (mine : List Pair) (nets ns : List Nat) :
    p.resolveGuards e mine nets = some ns ↔ nets.map (fun net => p.best e mine .g (p.candidates none net)) = ns.map some := by
  induction nets generalizing ns with
  | nil => cases ns <;> simp [Part.resolveGuards]
  | cons net rest ih =>
    rw [Part.resolveGuards, List.map_cons]
    cases hb : p.best e mine .g (p.candidates none net) with
    | none => cases ns <;> simp
    | some n =>
      cases ns with
      | nil => cases p.resolveGuards e mine rest <;> simp
      | cons m ns =>
        rw [List.map_cons, List.cons.injEq, ← ih]
        cases p.resolveGuards e mine rest <;> simp

theorem Part.resolveGuards_eq_none_iff (p : Part) (e : EngineId) (mine : List Pair) (nets : List Nat) :
    p.resolveGuards e mine nets = none ↔ ∃ net ∈ nets, p.candidates none net = [] := by
  induction nets with
  | nil => simp [Part.resolveGuards]
  | cons net rest ih =>
    rw [Part.resolveGuards, List.exists_mem_cons_iff, ← ih, ← p.best_eq_none_iff e mine .g]
    cases p.best e mine .g (p.candidates none net) with
    | none => simp
    | some n => cases p.resolveGuards e mine rest <;> simp

/-- Settles O28. -/
theorem stepNailsAreResolvedRoleByRole : Obligations.StepNailsAreResolvedRoleByRole := by
  intro p e r guards best sense high low
  have hguards : p.trimmedGuards r = guards := List.filter_congr fun n _ => (Bool.decide_and _ _).symm
  have hsense : ∀ role source nails, p.senseNail e (p.plan e).held (decide (r.kind = .res4)) role source nails =
      sense role source nails := fun role source nails => by simp only [Part.senseNail, decide_eq_true_eq, sense, best]
  have hresolve : p.resolve e r = match (best .sh high).map fun s => (s, sense .kh s high),
      (best .sl low).map fun s => (s, sense .kl s low), p.resolveGuards e (p.plan e).held guards with
      | some (sh, kh), some (sl, kl), some ns => some ⟨sh, kh, sl, kl, ns⟩
      | _, _, _ => none := by
    unfold Part.resolve
    simp only [p.resolveSide_eq, hsense, hguards]
    rfl
  have hside : ∀ role nails, best role nails = none ↔ nails = [] := fun role nails => p.best_eq_none_iff e _ role nails
  have hfound := p.resolveGuards_eq_some_iff e (p.plan e).held guards
  have hmissing := p.resolveGuards_eq_none_iff e (p.plan e).held guards
  refine ⟨fun net m => Part.mem_candidates_none, fun n => ?_, ?_⟩
  · obtain ⟨sh, kh, sl, kl, ns⟩ := n
    rw [hresolve, ← hfound]
    cases best .sh high with
    | none => simp
    | some s =>
      cases best .sl low with
      | none => simp
      | some t =>
        cases p.resolveGuards e (p.plan e).held guards with
        | none => simp
        | some gs =>
          simp only [Option.map_some, Option.some.injEq, Nails.mk.injEq]
          constructor
          · rintro ⟨rfl, rfl, rfl, rfl, rfl⟩
            exact ⟨rfl, rfl, rfl, rfl, rfl⟩
          · rintro ⟨rfl, rfl, rfl, rfl, rfl⟩
            exact ⟨rfl, rfl, rfl, rfl, rfl⟩
  · rw [hresolve, List.exists_mem_cons_iff, List.exists_mem_cons_iff, ← hmissing, ← hside .sh high, ← hside .sl low]
    cases best .sh high <;> cases best .sl low <;> cases p.resolveGuards e (p.plan e).held guards <;> simp

/-! ### The window and the oldest eligible step (R53 to R58) -/

/-- Whether the step of a slot is a BARRIER step. -/
def Part.barrierAt (p : Part) (i : Nat) : Bool := ((p.slotRecord i).map StepRecord.barrier).getD false

/-- A window past its first slot: no BARRIER step stands in it, and it ends where one stands or at its size. -/
theorem Part.windowFrom_false_spec (p : Part) (n : Nat) (slots : List Nat) :
    ∃ rest, slots = p.windowFrom n false slots ++ rest ∧
      (∀ i more, rest = i :: more → (p.windowFrom n false slots).length = n ∨ p.barrierAt i = true) ∧
      (p.windowFrom n false slots).length ≤ n ∧ ∀ i ∈ p.windowFrom n false slots, p.barrierAt i = false := by
  induction slots generalizing n with
  | nil => cases n <;> exact ⟨[], rfl, by simp, by simp [Part.windowFrom], by simp [Part.windowFrom]⟩
  | cons i slots ih =>
    cases n with
    | zero => exact ⟨i :: slots, rfl, fun _ _ _ => .inl rfl, le_rfl, by simp [Part.windowFrom]⟩
    | succ n =>
      by_cases hb : p.barrierAt i = true
      · have hw : p.windowFrom (n + 1) false (i :: slots) = [] := by
          rw [Part.windowFrom]
          exact (if_pos hb).trans (if_neg Bool.false_ne_true)
        rw [hw]
        refine ⟨i :: slots, rfl, fun j more h => .inr ?_, Nat.zero_le _, by simp⟩
        cases h
        exact hb
      · have hw : p.windowFrom (n + 1) false (i :: slots) = i :: p.windowFrom n false slots := by
          rw [Part.windowFrom]
          exact if_neg hb
        obtain ⟨rest, hrest, hends, hlen, hnone⟩ := ih n
        rw [hw]
        refine ⟨rest, congrArg (i :: ·) hrest, fun j more h => (hends j more h).imp_left (congrArg (· + 1)),
          Nat.succ_le_succ hlen, List.forall_mem_cons.mpr ⟨by simpa using hb, hnone⟩⟩

/-- The whole window (R53). -/
theorem Part.windowFrom_true_spec (p : Part) (n : Nat) (slots : List Nat) :
    (∃ rest, slots = p.windowFrom n true slots ++ rest ∧ ∀ i more, rest = i :: more →
      (p.windowFrom n true slots).length = n ∨ p.barrierAt i = true ∨ ∃ j ∈ p.windowFrom n true slots, p.barrierAt j = true) ∧
    (p.windowFrom n true slots).length ≤ n ∧
    (∀ i ∈ p.windowFrom n true slots, p.barrierAt i = true → p.windowFrom n true slots = [i]) ∧
    (1 ≤ n → slots ≠ [] → p.windowFrom n true slots ≠ []) := by
  cases n with
  | zero => exact ⟨⟨slots, by simp [Part.windowFrom], fun _ _ _ => .inl rfl⟩, le_rfl, by simp [Part.windowFrom], by simp⟩
  | succ n =>
    cases slots with
    | nil => exact ⟨⟨[], rfl, by simp⟩, by simp [Part.windowFrom], by simp [Part.windowFrom], by simp⟩
    | cons i slots =>
      by_cases hb : p.barrierAt i = true
      · have hw : p.windowFrom (n + 1) true (i :: slots) = [i] := by
          rw [Part.windowFrom]
          exact (if_pos hb).trans (if_pos rfl)
        rw [hw]
        exact ⟨⟨slots, rfl, fun _ _ _ => .inr (.inr ⟨i, List.mem_singleton_self i, hb⟩)⟩, by simp, by simp, by simp⟩
      · have hw : p.windowFrom (n + 1) true (i :: slots) = i :: p.windowFrom n false slots := by
          rw [Part.windowFrom]
          exact if_neg hb
        obtain ⟨rest, hrest, hends, hlen, hnone⟩ := p.windowFrom_false_spec n slots
        rw [hw]
        refine ⟨⟨rest, congrArg (i :: ·) hrest, fun j more h => ?_⟩, Nat.succ_le_succ hlen, fun j hj hbj => ?_, by simp⟩
        · exact (hends j more h).elim (fun h => .inl (congrArg (· + 1) h)) fun h => .inr (.inl h)
        · rcases List.mem_cons.mp hj with rfl | hj
          · exact absurd hbj hb
          · rw [hnone j hj] at hbj
            cases hbj

/-- The nets of a slot's step. -/
def Part.netsAt (p : Part) (i : Nat) : List Nat := ((p.slotRecord i).map p.netSet).getD []

/-- Whether a step behind some older slots of the window is eligible. -/
def Part.eligibleBehind (p : Part) (older : List Nat) (r : StepRecord) : Bool :=
  p.eligible (older.flatMap p.netsAt) older.isEmpty r

theorem Part.firstEligible_iff (p : Part) (older slots : List Nat) (i : Nat) (r : StepRecord) :
    p.firstEligible (older.flatMap p.netsAt) older.isEmpty slots = some (i, r) ↔
      ∃ mid younger, slots = mid ++ i :: younger ∧ p.slotRecord i = some r ∧ p.eligibleBehind (older ++ mid) r = true ∧
        ∀ mid' j r' later, mid = mid' ++ j :: later → p.slotRecord j = some r' → p.eligibleBehind (older ++ mid') r' = false := by
  induction slots generalizing older with
  | nil => simp [Part.firstEligible]
  | cons k slots ih =>
    have hnext := ih (older ++ [k])
    have hempty : (older ++ [k]).isEmpty = false := by simp
    rw [List.flatMap_append, List.flatMap_singleton, hempty] at hnext
    -- The search goes on behind `k` where its step, if it has one, is not eligible.
    have hpass : (∀ r', p.slotRecord k = some r' → p.eligibleBehind older r' = false) →
        ((∃ mid younger, slots = mid ++ i :: younger ∧ p.slotRecord i = some r ∧
          p.eligibleBehind (older ++ [k] ++ mid) r = true ∧ ∀ mid' j r' later, mid = mid' ++ j :: later →
            p.slotRecord j = some r' → p.eligibleBehind (older ++ [k] ++ mid') r' = false) ↔
        ∃ mid younger, k :: slots = mid ++ i :: younger ∧ p.slotRecord i = some r ∧ p.eligibleBehind (older ++ mid) r = true ∧
          ∀ mid' j r' later, mid = mid' ++ j :: later → p.slotRecord j = some r' →
            p.eligibleBehind (older ++ mid') r' = false) := by
      intro hk
      constructor
      · rintro ⟨mid, younger, rfl, hr, hel, hold⟩
        refine ⟨k :: mid, younger, rfl, hr, by simpa using hel, fun mid' j r' later hm hj => ?_⟩
        cases mid' with
        | nil => cases hm; simpa using hk r' hj
        | cons _ mid' => cases hm; simpa using hold mid' j r' later rfl hj
      · rintro ⟨mid, younger, hs, hr, hel, hold⟩
        cases mid with
        | nil =>
          cases hs
          rw [List.append_nil, hk r hr] at hel
          cases hel
        | cons _ mid =>
          cases hs
          refine ⟨mid, younger, rfl, hr, by simpa using hel, fun mid' j r' later hm hj => ?_⟩
          simpa using hold (k :: mid') j r' later (congrArg (k :: ·) hm) hj
    unfold Part.firstEligible
    cases hk : p.slotRecord k with
    | none =>
      have hnets : p.netsAt k = [] := by simp [Part.netsAt, hk]
      rw [hnets, List.append_nil] at hnext
      exact hnext.trans (hpass fun r' hr' => by cases hk.symm.trans hr')
    | some r' =>
      have hnets : p.netsAt k = p.netSet r' := by simp [Part.netsAt, hk]
      rw [hnets] at hnext
      by_cases hel : p.eligible (older.flatMap p.netsAt) older.isEmpty r' = true
      · dsimp only
        rw [if_pos hel]
        constructor
        · intro h
          cases h
          exact ⟨[], slots, rfl, hk, by rw [List.append_nil]; exact hel, by simp⟩
        · rintro ⟨mid, younger, hs, hr, hbehind, hold⟩
          cases mid with
          | nil => cases hs; cases hk.symm.trans hr; rfl
          | cons _ mid =>
            cases hs
            have hno := hold [] k r' mid rfl hk
            rw [List.append_nil] at hno
            cases hno.symm.trans hel
      · dsimp only
        rw [if_neg hel]
        refine hnext.trans (hpass fun r'' hr'' => ?_)
        cases hk.symm.trans hr''
        exact Bool.eq_false_iff.mpr hel

theorem sharesNet_eq_false {a b : List Nat} : sharesNet a b = false ↔ ∀ n ∈ b, n ∉ a := by
  simp only [sharesNet, List.any_eq_false, decide_eq_true_eq]
  exact ⟨fun h n hb ha => h n ha hb, fun h n ha hb => h n hb ha⟩

theorem Part.netsFree_iff {p : Part} {nets : List Nat} :
    p.netsFree nets = true ↔ ∀ x ∈ p.inFlight, ∀ n ∈ nets, n ∉ x.nets := by
  simp only [Part.netsFree, List.all_eq_true, Bool.not_eq_true', sharesNet_eq_false]

theorem StepRecord.alone_iff {r : StepRecord} : r.alone = true ↔ r.solo = true ∨ r.kind = .scan := by
  simp [StepRecord.alone]

theorem StepRecord.alone_eq_false {r : StepRecord} : r.alone = false ↔ r.solo = false ∧ r.kind ≠ .scan := by
  simp [StepRecord.alone]

/-- The BARRIER, SOLO and SCAN conditions (R56). -/
theorem Part.orderMet_iff {p : Part} {r : StepRecord} {oldest : Bool} : p.orderMet r oldest = true ↔
    (r.barrier = true → oldest = true ∧ p.inFlight = []) ∧ (r.solo = true ∨ r.kind = .scan → p.inFlight = []) ∧
      ∀ x ∈ p.inFlight, x.record.solo = false ∧ x.record.kind ≠ .scan := by
  have himp : ∀ (b : Bool) (q : Prop), (b = false ∨ q) ↔ (b = true → q) := fun b q => by cases b <;> simp
  rw [← StepRecord.alone_iff]
  simp only [← StepRecord.alone_eq_false, Part.orderMet, Bool.and_eq_true, Bool.or_eq_true, Bool.not_eq_true', himp,
    List.isEmpty_iff, List.all_eq_true, and_assoc]

theorem Part.recordFree_iff {p : Part} : p.recordFree = true ↔ p.queue.records.length + p.queue.reserved < 512 := by
  exact decide_eq_true_iff

/-- Conditions 4 to 6 of R54. -/
theorem Part.served_iff {p : Part} {r : StepRecord} : p.served r = true ↔
    (∃ e, r.allows e = true ∧ (p.engine e).state = .idle) ∧ (∀ n ∈ p.requiredNets r, p.candidates none n ≠ []) ∧
      p.queue.records.length + p.queue.reserved < 512 := by
  have hidle : (p.idleEngines r).isEmpty = false ↔ ∃ e, r.allows e = true ∧ (p.engine e).state = .idle := by
    simp only [← Part.mem_idleEngines, List.isEmpty_eq_false_iff_exists_mem]
  simp only [Part.served, Bool.and_eq_true, Bool.not_eq_true', hidle, List.all_eq_true, List.isEmpty_eq_false_iff,
    Part.recordFree_iff, and_assoc]

theorem Part.eligibleBehind_iff {p : Part} {older : List Nat} {r : StepRecord} : p.eligibleBehind older r = true ↔
    p.disp.seq = .running ∧ (∀ x ∈ p.inFlight, ∀ n ∈ p.netSet r, n ∉ x.nets) ∧
      (∀ j ∈ older, ∀ n ∈ p.netSet r, n ∉ p.netsAt j) ∧ (r.barrier = true → older = [] ∧ p.inFlight = []) ∧
      (r.solo = true ∨ r.kind = .scan → p.inFlight = []) ∧
      (∀ x ∈ p.inFlight, x.record.solo = false ∧ x.record.kind ≠ .scan) ∧
      (∃ e, r.allows e = true ∧ (p.engine e).state = .idle) ∧ (∀ n ∈ p.requiredNets r, p.candidates none n ≠ []) ∧
      p.queue.records.length + p.queue.reserved < 512 := by
  have holder : (∀ n ∈ p.netSet r, n ∉ older.flatMap p.netsAt) ↔ ∀ j ∈ older, ∀ n ∈ p.netSet r, n ∉ p.netsAt j := by
    simp only [List.mem_flatMap, not_exists, not_and]
    exact ⟨fun h j hj n hn => h n hn j hj, fun h n hn j hj => h j hj n hn⟩
  simp only [Part.eligibleBehind, Part.eligible, Bool.and_eq_true, decide_eq_true_eq, Part.netsFree_iff, Bool.not_eq_true',
    sharesNet_eq_false, holder, Part.orderMet_iff, List.isEmpty_iff, Part.served_iff, and_assoc]

/-- Settles O26. -/
theorem theOldestEligibleStepOfTheWindowIsChosen : Obligations.TheOldestEligibleStepOfTheWindowIsChosen := by
  intro p barrier w nets meets
  obtain ⟨hrest, hlen, hbarrier, hsome⟩ := p.windowFrom_true_spec p.disp.window p.ring.pendingSlots
  refine ⟨hrest, hlen, hbarrier, hsome, fun i r => ?_⟩
  have hmeets : ∀ older r, p.eligibleBehind older r = true ↔ meets older r := fun _ _ => Part.eligibleBehind_iff
  have hfirst := p.firstEligible_iff [] w i r
  simp only [List.nil_append, List.flatMap_nil, List.isEmpty_nil, ← Bool.not_eq_true, hmeets] at hfirst
  exact hfirst

end Sys2Proof.Machine

/-! PROOFS. The measurement arithmetic and the blocks of results (R129 to R142, R171 to R175). -/

namespace Sys2Proof.Machine

/-! ### Rounded division (R129) -/

/-- The whole numbers nearest to `a / b`, a tie away from zero. -/
def Nearest (a : Int) (b : Nat) (q : Int) : Prop :=
  (0 ≤ a → (2 * q - 1) * b ≤ 2 * a ∧ 2 * a < (2 * q + 1) * b) ∧
  (a < 0 → (2 * q - 1) * b < 2 * a ∧ 2 * a ≤ (2 * q + 1) * b)

/-- The quotient of a number and half a divisor more. -/
theorem half_up_bounds (a : Nat) {b : Nat} (hb : 1 ≤ b) :
    2 * ((a * 2 + b) / (2 * b)) * b ≤ 2 * a + b ∧ 2 * a + b < 2 * ((a * 2 + b) / (2 * b)) * b + 2 * b := by
  have hdiv := Nat.div_add_mod (a * 2 + b) (2 * b)
  have hmod := Nat.mod_lt (a * 2 + b) (show 0 < 2 * b by omega)
  have hmul : 2 * ((a * 2 + b) / (2 * b)) * b = 2 * b * ((a * 2 + b) / (2 * b)) := by ring
  rw [hmul]
  omega

theorem nearest_divHalfAway (a : Int) {b : Nat} (hb : 1 ≤ b) : Nearest a b (divHalfAway a b) := by
  obtain ⟨hle, hlt⟩ := half_up_bounds a.natAbs hb
  unfold divHalfAway
  dsimp only
  generalize (a.natAbs * 2 + b) / (2 * b) = q at hle hlt ⊢
  zify at hle hlt
  refine ⟨fun ha => ?_, fun ha => ?_⟩
  · rw [if_pos ha]
    rw [abs_of_nonneg ha] at hle hlt
    constructor <;> linarith
  · rw [if_neg (not_le.mpr ha)]
    rw [abs_of_neg ha] at hle hlt
    constructor <;> linarith

theorem currentNA_pos (index : Nat) : 1 ≤ currentNA index := by
  unfold currentNA
  split <;> omega

theorem Part.effectiveCurrent_spec (p : Part) (index : Nat) (nets : List Nat) :
    let tender := ∃ n ∈ nets, (p.attrs n).tender = true
    (2 < index → tender → p.effectiveCurrent index nets = (2, true)) ∧
    (index ≤ 2 ∨ ¬ tender → p.effectiveCurrent index nets = (index, false)) := by
  intro tender
  have htender : (nets.any fun n => (p.attrs n).tender) = true ↔ tender := by simp [tender]
  refine ⟨fun hi ht => if_pos ⟨hi, htender.mpr ht⟩, fun h => if_neg ?_⟩
  rintro ⟨hi, ht⟩
  exact h.elim (fun h => absurd hi (not_lt.mpr h)) fun h => h (htender.mp ht)

/-- Settles O48. -/
theorem valuesAndVerdictsFollowTheArithmetic : Obligations.ValuesAndVerdictsFollowTheArithmetic := by
  unfold Obligations.ValuesAndVerdictsFollowTheArithmetic
  intro nearest judged
  have hnearest : ∀ a b, 1 ≤ b → nearest a b (divHalfAway a b) := fun a b hb => nearest_divHalfAway a hb
  refine ⟨⟨rfl, rfl, fun _ => rfl⟩, Part.effectiveCurrent_spec, fun r current nullSum nullCount sum n clip hn => ?_,
    fun r current t ht => ?_, fun r current sum n clip hn => ?_⟩
  · refine ⟨divHalfAway sum n, nullValue nullSum nullCount, hnearest _ _ hn, fun h => if_pos h, fun h => ?_, fun hd => ?_,
      fun hc hlow hhigh => ?_⟩
    · rw [nullValue, if_neg h]
      exact hnearest nullSum 4 (by omega)
    · unfold formIntegrated
      cases clip with
      | true => rfl
      | false => exact (if_neg Bool.false_ne_true).trans (if_pos (hd.resolve_left Bool.false_ne_true))
    · let d := divHalfAway sum n - nullValue nullSum nullCount
      let value := if r.kind = .diode then diodeVoltage d r.gain else resistance d r.gain current
      have hform : formIntegrated r current nullSum nullCount sum n clip = ⟨judgeLimits r value, some value⟩ := by
        subst hc
        exact (if_neg Bool.false_ne_true).trans (if_neg (by rintro (h | h) <;> omega))
      refine ⟨value, hform, fun hk => ?_, fun hk => ?_⟩
      · rw [show value = diodeVoltage d r.gain from if_pos hk]
        exact hnearest _ _ (by omega)
      · rw [show value = resistance d r.gain current from if_neg hk]
        exact hnearest _ _ (currentNA_pos current)
  · obtain ⟨hle, hlt⟩ := half_up_bounds (currentNA current * t * 10) ht
    exact ⟨capacitance current t r.threshold, hle, hlt, rfl⟩
  · exact ⟨divHalfAway sum n, resistance (divHalfAway sum n) r.gain current, hnearest _ _ hn,
      hnearest _ _ (currentNA_pos current), rfl⟩

/-! ### Full blocks (R171) -/

/-- The full blocks formed of a queue, oldest records first, and the part that they leave. -/
def Part.fullBlocks : Nat → Part → List ResultBlock × Part
  | 0, p => ([], p)
  | n + 1, p =>
    if p.queue.block ≠ 0 ∧ p.queue.block ≤ p.queue.records.length then
      let taken := p.takeBlock p.queue.block .full
      let others := Part.fullBlocks n taken.2
      (taken.1 :: others.1, others.2)
    else ([], p)

theorem Part.fullBlocks_of_short {p : Part} (h : ¬ (p.queue.block ≠ 0 ∧ p.queue.block ≤ p.queue.records.length)) (n : Nat) :
    p.fullBlocks n = ([], p) := by
  cases n with
  | zero => rfl
  | succ n => rw [Part.fullBlocks, if_neg h]

theorem Part.fullBlocks_succ {p : Part} (h : p.queue.block ≠ 0 ∧ p.queue.block ≤ p.queue.records.length) (n : Nat) :
    p.fullBlocks (n + 1) = ((p.takeBlock p.queue.block .full).1 :: ((p.takeBlock p.queue.block .full).2.fullBlocks n).1,
      ((p.takeBlock p.queue.block .full).2.fullBlocks n).2) := by
  rw [Part.fullBlocks, if_pos h]

/-- What forming full blocks does to an event: each block is handed and its removal reported. -/
theorem Ev.formBlocks_eq (v : Ev) (n : Nat) : v.formBlocks n =
    { v with p := (v.p.fullBlocks n).2, blocks := v.blocks ++ (v.p.fullBlocks n).1.map fun b => .notice (.block b),
             askEvaluate := v.askEvaluate || !(v.p.fullBlocks n).1.isEmpty,
             askRemoval := v.askRemoval || !(v.p.fullBlocks n).1.isEmpty } := by
  induction n generalizing v with
  | zero => simp [Ev.formBlocks, Part.fullBlocks]
  | succ n ih =>
    unfold Ev.formBlocks
    split
    next h =>
      dsimp only
      rw [ih, Part.fullBlocks_succ h]
      simp
    next h =>
      rw [Part.fullBlocks_of_short h]
      simp

theorem Part.fullBlocks_queue (p : Part) (n : Nat) : (p.fullBlocks n).2 = { p with queue := (p.fullBlocks n).2.queue } := by
  induction n generalizing p with
  | zero => rfl
  | succ n ih =>
    unfold Part.fullBlocks
    split
    · dsimp only
      rw [ih]
      rfl
    · rfl

/-- Blocks do not depend on the link. -/
theorem Part.fullBlocks_onLink (p : Part) (f : LinkPort → LinkPort) (n : Nat) :
    (p.onLink f).fullBlocks n = ((p.fullBlocks n).1, (p.fullBlocks n).2.onLink f) := by
  induction n generalizing p with
  | zero => rfl
  | succ n ih =>
    by_cases h : p.queue.block ≠ 0 ∧ p.queue.block ≤ p.queue.records.length
    · have hlink : ((p.onLink f).takeBlock (p.onLink f).queue.block .full) =
          ((p.takeBlock p.queue.block .full).1, (p.takeBlock p.queue.block .full).2.onLink f) := rfl
      rw [Part.fullBlocks_succ h, Part.fullBlocks_succ (p := p.onLink f) h, hlink, ih]
    · rw [Part.fullBlocks_of_short h, Part.fullBlocks_of_short (p := p.onLink f) h]

/-- The blocks of a queue one by one, and what they leave (R171). -/
theorem Part.fullBlocks_spec (p : Part) (n : Nat) (hb : p.queue.block ≠ 0) (hn : p.queue.records.length ≤ n) :
    let q := p.queue
    let blocks := (p.fullBlocks n).1
    ∃ rest : List ResultRecord, q.records = blocks.flatMap (·.records) ++ rest ∧ rest.length < q.block ∧
      (blocks ≠ [] → (p.fullBlocks n).2.queue =
        { q with records := rest, blockNumber := (q.blockNumber + blocks.length) % 65536 }) ∧
      (blocks = [] → (p.fullBlocks n).2 = p) ∧
      ∀ i b, blocks[i]? = some b → b.records.length = q.block ∧ b.reason = .full ∧
        (b.number = if i = 0 then q.blockNumber else (q.blockNumber + i) % 65536) ∧
        b.stored = q.records.length - (i + 1) * q.block ∧ b.reserved = q.reserved ∧ b.seq = p.disp.seq ∧
        b.time = p.time.tick % 2 ^ 48 := by
  induction n generalizing p with
  | zero =>
    have hnone : p.queue.records = [] := List.length_eq_zero_iff.mp (Nat.le_zero.mp hn)
    exact ⟨[], by simpa [Part.fullBlocks] using hnone, Nat.pos_of_ne_zero hb, by simp [Part.fullBlocks], fun _ => rfl,
      by simp [Part.fullBlocks]⟩
  | succ n ih =>
    by_cases hfull : p.queue.block ≤ p.queue.records.length
    · let next := (p.takeBlock p.queue.block .full).2
      have hlength : next.queue.records.length = p.queue.records.length - p.queue.block := List.length_drop
      obtain ⟨rest, hrecords, hshort, hqueue, hsame, hblocks⟩ := ih next hb (by omega)
      rw [Part.fullBlocks_succ ⟨hb, hfull⟩]
      intro q blocks
      refine ⟨rest, ?_, hshort, fun _ => ?_, fun h => absurd h (List.cons_ne_nil _ _), fun i b hi => ?_⟩
      · have hsplit : q.records = q.records.take q.block ++ next.queue.records := (List.take_append_drop _ _).symm
        rw [hsplit, hrecords, ← List.append_assoc]
        rfl
      · by_cases hnil : (next.fullBlocks n).1 = []
        · have hstay := hsame hnil
          rw [hnil, List.flatMap_nil, List.nil_append] at hrecords
          have hone : blocks.length = (next.fullBlocks n).1.length + 1 := rfl
          rw [hstay, ← hrecords, hone, hnil]
          rfl
        · have hnumber : (next.queue.blockNumber + (next.fullBlocks n).1.length) % 65536 =
              (q.blockNumber + ((next.fullBlocks n).1.length + 1)) % 65536 := by
            rw [show next.queue.blockNumber = (q.blockNumber + 1) % 65536 from rfl]
            omega
          rw [hqueue hnil, hnumber]
          rfl
      · cases i with
        | zero =>
          cases hi
          exact ⟨List.length_take_of_le hfull, rfl, rfl, by simp [Part.takeBlock, q], rfl, rfl, rfl⟩
        | succ i =>
          obtain ⟨hlen, hreason, hnumber, hstored, hrest⟩ := hblocks i b hi
          refine ⟨hlen, hreason, ?_, ?_, hrest⟩
          · rw [hnumber, if_neg (Nat.succ_ne_zero i), show next.queue.blockNumber = (q.blockNumber + 1) % 65536 from rfl]
            split <;> omega
          · rw [hstored, hlength, Nat.sub_sub, show next.queue.block = q.block from rfl, Nat.succ_mul (i + 1), Nat.add_comm]
    · have hnone : p.fullBlocks (n + 1) = ([], p) := Part.fullBlocks_of_short (fun h => hfull h.2) _
      rw [hnone]
      exact ⟨p.queue.records, by simp, not_le.mp hfull, by simp, fun _ => rfl, by simp⟩

/-! ### Blocks at a PACE and at a remainder point (R172, R173) -/

theorem exec_pace_formsBlocks {s : State} {number : Byte} (h : s.Serving number) (body : List Byte)
    (hl : body.length = 6) (hwindow : 1 ≤ byteAt body 0) (hmax : byteAt body 0 ≤ 8) (hhold : u32At body 1 ≤ 100000)
    (hblock : byteAt body 5 ∈ blockSizes) (hchanged : byteAt body 5 ≠ s.part.queue.block) :
    let after := s.part.setPace (byteAt body 0) (u32At body 1) (byteAt body 5)
    let formed := after.fullBlocks (s.part.queue.records.length + 1)
    formed.2.nothingToDispatch = true → s.part.scanner.state ≠ .waitingSpace →
    let reply := OutFrame.reply number 0x61 (.settings (byteAt body 0) (u32At body 1) (byteAt body 5))
    let left := formed.2.answered number 0x61 (reply :: formed.1.map fun b => .notice (.block b))
    exec (.pace number body) s = .next { s with part := left } := by
  intro after formed hquiet hscan reply left
  have hlen : RequestKind.pace.bodyLength = some body.length ∨ RequestKind.pace.bodyLength = none :=
    .inl (congrArg some hl.symm)
  let v := ((Ev.start (s.part.taking number 0x61)).map fun p =>
    p.setPace (byteAt body 0) (u32At body 1) (byteAt body 5)).reply
      (.settings (byteAt body 0) (u32At body 1) (byteAt body 5))
  have hact : owner .pace body (Ev.start (s.part.taking number 0x61)) =
      { v.formBlocks (s.part.queue.records.length + 1) with askEvaluate := true } := by
    refine (if_neg ?_).trans (congrArg (fun w : Ev => { w with askEvaluate := true }) (if_pos (decide_eq_true hchanged)))
    rintro (h | h | h | h)
    · omega
    · exact absurd h (not_lt.mpr hmax)
    · omega
    · exact h hblock
  have hpart : v.p = after.taking number 0x61 := rfl
  have hformed : v.p.fullBlocks (s.part.queue.records.length + 1) = (formed.1, formed.2.taking number 0x61) := by
    rw [hpart]
    exact after.fullBlocks_onLink _ _
  have hscanner : formed.2.scanner = s.part.scanner := by
    rw [show formed.2 = _ from after.fullBlocks_queue _]
    rfl
  rw [Ev.formBlocks_eq, hformed] at hact
  refine exec_answered .pace h hlen hact rfl ?_ rfl (.inr (by rw [hscanner]; exact hscan)) (.inr hquiet) (.inl rfl)
  simp [Ev.frames, v, Ev.start, Ev.map, Ev.reply, Part.taking, Part.onLink, Part.setPace, reply]

/-- The state entered at a remainder point, with records streamed: the remainder block goes out first. -/
theorem Ev.close_remainder {v : Ev} (hc : v.completions = []) (hr : v.askRemoval = false) (he : v.askEvaluate = false)
    (hm : v.askRemainder = true) (hb : v.p.queue.block ≠ 0) (hrec : v.p.queue.records ≠ [])
    (hscan : v.p.scanner.state ≠ .waitingSpace) (hs : v.p.disp.seq ≠ .running) (hd : v.p.disp.direct = none) :
    let taken := v.p.takeBlock v.p.queue.records.length .remainder
    v.close = taken.2.hand ({ v with remainders := v.remainders ++ [.notice (.block taken.1)] } : Ev).frames := by
  intro taken
  have hhand : v.handRemainder = { v with
      p := taken.2, remainders := v.remainders ++ [.notice (.block taken.1)], askRemainder := false,
      askEvaluate := true, askRemoval := true } := if_pos ⟨hb, hrec⟩
  let w : Ev := { v with
    p := taken.2, remainders := v.remainders ++ [.notice (.block taken.1)], askRemainder := false,
    askEvaluate := false, askRemoval := false }
  have hsettled : v.settle settleFuel = w :=
    calc v.settle settleFuel = v.handRemainder.settle 5999 := v.settle_remainder 5999 hc hr he hm
      _ = ({ w with askEvaluate := true, askRemoval := true } : Ev).settle 5999 := by rw [hhand]
      _ = ({ w with askEvaluate := true } : Ev).scannerRemoval.settle 5998 :=
        Ev.settle_removal { w with askEvaluate := true, askRemoval := true } 5998 hc rfl
      _ = ({ w with askEvaluate := true } : Ev).settle 5998 :=
        congrArg (Ev.settle 5998) (Ev.scannerRemoval_idle { w with askEvaluate := true } hscan)
      _ = w.evaluate.settle 5997 := Ev.settle_evaluate { w with askEvaluate := true } 5997 hc rfl rfl
      _ = w.settle 5997 := by rw [w.evaluate_quiet hs hd]
      _ = w := w.settle_plain 5997 hc rfl rfl rfl
  rw [Ev.close, hsettled]
  rfl

/-- Settles O54. -/
theorem blocksTakeTheOldestRecords : Obligations.BlocksTakeTheOldestRecords := by
  refine ⟨fun v fuel hb hn => ?_, fun s number body h hl => ?_, fun s number h => ?_⟩
  · obtain ⟨rest, hrecords, hshort, hqueue, hsame, hblocks⟩ := v.p.fullBlocks_spec fuel hb hn
    intro q t
    have ht : t = _ := v.formBlocks_eq fuel
    refine ⟨(v.p.fullBlocks fuel).1, rest, by rw [ht], hrecords, hshort, fun hne => by rw [ht]; exact hqueue hne,
      fun hnil => ?_, hblocks⟩
    rw [ht, hsame hnil, hnil]
    simp
  · intro p window hold block after formed left hwindow hmax hhold hblock hchanged hquiet hscan
    have hformed : formed = _ := (Ev.start after).formBlocks_eq (p.queue.records.length + 1)
    have hleft : left = (after.fullBlocks (p.queue.records.length + 1)).2 := by
      rw [after.fullBlocks_queue]
      simp only [left, hformed]
      rfl
    have hsize : block ∈ blockSizes := List.mem_cons_of_mem 0 hblock
    have hpace := exec_pace_formsBlocks h body hl hwindow hmax hhold hsize hchanged (hleft ▸ hquiet) hscan
    rw [hleft, hformed]
    exact hpace
  · intro p q remainder hs hd hscan hb hrec
    let v : Ev := ((Ev.start (p.taking number 0x31)).reply .done).enterSeq .paused
    have hact : owner .pause [] (Ev.start (p.taking number 0x31)) = v := by
      have hseq : (Ev.start (p.taking number 0x31)).p.disp.seq = .drained := hs
      rw [owner, ownPause, hseq]
    have hclose : v.close = _ := Ev.close_remainder (v := v) rfl rfl rfl rfl hb hrec hscan (fun h => by cases h) hd
    refine exec_requestOf_taken .pause h (.inl rfl) ?_
    rw [show RequestKind.pause.code = 0x31 from rfl, hact, hclose]
    simp only [Part.takeBlock, List.drop_length, List.take_length]
    rfl

end Sys2Proof.Machine

/-! PROOFS. The measurement engines: connection ready, sampling and quiet phases (R108, R110 to R116). -/

namespace Sys2Proof.Machine

/-! ### One engine of an event -/

@[simp] theorem Part.setEngine_setEngine (p : Part) (e : EngineId) (g h : Engine) :
    (p.setEngine e g).setEngine e h = p.setEngine e h := by
  simp only [Part.setEngine, PerEngine.set_set]

@[simp] theorem Part.setEngine_engine (p : Part) (e : EngineId) : p.setEngine e (p.engine e) = p := by
  simp only [Part.setEngine, Part.engine, PerEngine.set_get]

/-- An event with one engine given. -/
def Ev.withEngine (v : Ev) (e : EngineId) (g : Engine) : Ev := { v with p := v.p.setEngine e g }

theorem Ev.onEngine_eq (v : Ev) (e : EngineId) (f : Engine → Engine) : v.onEngine e f = v.withEngine e (f (v.p.engine e)) :=
  rfl

@[simp] theorem Ev.withEngine_engine (v : Ev) (e : EngineId) (g : Engine) : (v.withEngine e g).p.engine e = g :=
  Part.engine_setEngine_same _ _ _

@[simp] theorem Ev.withEngine_onEngine (v : Ev) (e : EngineId) (g : Engine) (f : Engine → Engine) :
    (v.withEngine e g).onEngine e f = v.withEngine e (f g) := by
  simp only [Ev.onEngine_eq, Ev.withEngine, Part.engine_setEngine_same, Part.setEngine_setEngine]

theorem Ev.withEngine_self (v : Ev) (e : EngineId) : v.withEngine e (v.p.engine e) = v := by
  simp only [Ev.withEngine, Part.setEngine_engine]

theorem micros_eq (n : Nat) : micros n = 100 * n := Nat.mul_comm n 100

/-! ### Requests for samples (R112) -/

/-- An engine that has sent a request for a sample. -/
def Engine.asking (g : Engine) (p : Part) (w : Work) : Engine :=
  { g with
    sequence := (g.sequence + 1) % 256, request := some ((g.sequence + 1) % 256), parted := false,
    interval := some (p.dueIn (100 * apertureMicros w.record.aperture)),
    timeout := some (p.dueIn (100 * (2 * apertureMicros w.record.aperture + 100))) }

theorem Engine.sendRequest_eq {g : Engine} {w : Work} (h : g.work = some w) (p : Part) :
    g.sendRequest p.time = g.asking p w := by
  cases g
  cases h
  simp only [Engine.sendRequest, micros_eq]
  rfl

/-- Entry to a sampling phase of a step without QUIET. -/
theorem Ev.enterSampling_plain {g : Engine} {w : Work} (hw : g.work = some w) (hq : w.record.isQuiet = false) (v : Ev)
    (e : EngineId) (ph : Phase) :
    (v.withEngine e g).enterSampling e ph = v.withEngine e (({ g with phase := some ph } : Engine).asking v.p w) := by
  have hquiet : ((v.withEngine e g).p.engine e).quietStep = false := by
    rw [Ev.withEngine_engine, Engine.quietStep, hw]
    exact hq
  have hask := Engine.sendRequest_eq (g := { g with phase := some ph }) hw v.p
  unfold Ev.enterSampling
  rw [hquiet, ← hask]
  exact Ev.withEngine_onEngine v e g _

/-- Entry to a sampling phase of a QUIET step: the phase is reported (R111). -/
theorem Ev.enterSampling_quiet {g : Engine} {w : Work} (hw : g.work = some w) (hq : w.record.isQuiet = true) (v : Ev)
    (e : EngineId) (ph : Phase) : (v.withEngine e g).enterSampling e ph =
      ({ v with p := v.p.setPlan e { v.p.plan e with quiet := true } } : Ev).withEngine e
        (({ g with phase := some ph } : Engine).asking v.p w) := by
  have hquiet : ((v.withEngine e g).p.engine e).quietStep = true := by
    rw [Ev.withEngine_engine, Engine.quietStep, hw]
    exact hq
  have hask := Engine.sendRequest_eq (g := { g with phase := some ph }) hw v.p
  unfold Ev.enterSampling
  rw [hquiet, ← hask]
  exact Ev.withEngine_onEngine { v with p := v.p.setPlan e { v.p.plan e with quiet := true } } e g _

theorem Ev.enterSettle_eq (v : Ev) (e : EngineId) (g : Engine) : (v.withEngine e g).enterSettle e =
    v.withEngine e { g with phase := some .settle, stimulus := some g.effCurrent, parted := false, phaseWait := some (v.p.dueIn (100 * g.settle)) } := by
  rw [← micros_eq]
  exact Ev.withEngine_onEngine v e g _

theorem Ev.enterDischarge_eq (v : Ev) (e : EngineId) (g : Engine) (ph : Phase) : (v.withEngine e g).enterDischarge e ph =
    v.withEngine e { g with phase := some ph, dischargePath := true, parted := false, phaseWait := some (v.p.dueIn (100 * g.discharge)) } := by
  rw [← micros_eq]
  exact Ev.withEngine_onEngine v e g _

/-! ### Waiting for a still matrix (R84, R111) -/

/-- An engine asks for a still report that it is not given at once. -/
theorem Ev.askStill_waits {v : Ev} (h : ¬ (v.p.relay.still = true ∧ v.p.relay.wouldStart = false)) (e : EngineId) (g : Engine) :
    (v.withEngine e g).askStill e = v.withEngine e { g with stillWait := true } := by
  unfold Ev.askStill
  rw [Ev.withEngine_onEngine]
  exact if_neg (by simpa [Ev.withEngine] using h)

/-- An engine asks for a still report in a still matrix. -/
theorem Ev.askStill_atOnce {v : Ev} (hs : v.p.relay.still = true) (hw : v.p.relay.wouldStart = false) (e : EngineId)
    (g : Engine) : (v.withEngine e g).askStill e = (v.withEngine e { g with stillWait := true }).stillReport e := by
  unfold Ev.askStill
  rw [Ev.withEngine_onEngine]
  exact if_pos (by simp [Ev.withEngine, hs, hw])

/-- A phase that a QUIET step enters with a still report, its quiet phase reported. -/
def Part.samplingQuiet (p : Part) (e : EngineId) (w : Work) (ph : Phase) (g : Engine) : Part :=
  (p.setPlan e { p.plan e with quiet := true }).setEngine e (({ g with phase := some ph, stillWait := false } : Engine).asking p w)

theorem Ev.stillReport_of_not_waiting {v : Ev} {e : EngineId} (h : (v.p.engine e).stillWait = false) : v.stillReport e = v :=
  if_neg (by simp [h])

theorem Ev.stillReport_waiting {g : Engine} (hwait : g.stillWait = true) (v : Ev) (e : EngineId) :
    (v.withEngine e g).stillReport e = match g.phase with
      | some .connect => (v.withEngine e { g with stillWait := false }).enterSampling e .null
      | some .settle => (v.withEngine e { g with stillWait := false }).enterSampling e .integrate
      | _ => v.withEngine e { g with stillWait := false } := by
  unfold Ev.stillReport
  rw [Ev.withEngine_engine, Ev.withEngine_onEngine]
  exact if_pos hwait

theorem Ev.stillReport_connect {v : Ev} {e : EngineId} {g : Engine} {w : Work} (hwait : g.stillWait = true)
    (hw : g.work = some w) (hq : w.record.isQuiet = true) (hp : g.phase = some .connect) :
    (v.withEngine e g).stillReport e = { v with p := v.p.samplingQuiet e w .null g } := by
  rw [Ev.stillReport_waiting hwait]
  split
  next => exact Ev.enterSampling_quiet (g := { g with stillWait := false }) hw hq v e .null
  next h => cases hp.symm.trans h
  next h _ => exact absurd hp h

theorem Ev.stillReport_settle {v : Ev} {e : EngineId} {g : Engine} {w : Work} (hwait : g.stillWait = true)
    (hw : g.work = some w) (hq : w.record.isQuiet = true) (hp : g.phase = some .settle) :
    (v.withEngine e g).stillReport e = { v with p := v.p.samplingQuiet e w .integrate g } := by
  rw [Ev.stillReport_waiting hwait]
  split
  next h => cases hp.symm.trans h
  next => exact Ev.enterSampling_quiet (g := { g with stillWait := false }) hw hq v e .integrate
  next _ h => exact absurd hp h

/-! ### Connection ready (R110) -/

theorem Ev.connectionReady_ignored {v : Ev} {e : EngineId}
    (h : (v.p.engine e).phase ≠ some .connect ∨ (v.p.engine e).stillWait = true ∨ (v.p.engine e).work = none) :
    v.connectionReady e = v := by
  unfold Ev.connectionReady
  dsimp only
  split
  next hp hw =>
    rcases h with h | h | h
    · exact absurd hp h
    · exact if_pos h
    · cases hw.symm.trans h
  next => rfl

/-- What connection ready does in CONNECT, by kind. -/
theorem Ev.connectionReady_connect {v : Ev} {e : EngineId} {w : Work} (hp : (v.p.engine e).phase = some .connect)
    (hw : (v.p.engine e).work = some w) (hs : (v.p.engine e).stillWait = false) :
    let u := v.withEngine e { v.p.engine e with readyMark := true }
    v.connectionReady e =
      if w.record.kind = .cap then u.enterDischarge e .discharge
      else if (w.record.kind = .res2 ∨ w.record.kind = .res4) ∧ w.record.flags.getLsbD 6 = false then
        (if w.record.isQuiet then u.askStill e else u.enterSampling e .null)
      else u.enterSettle e := by
  intro u
  have hquiet : (v.p.engine e).quietStep = w.record.isQuiet := by rw [Engine.quietStep, hw]
  unfold Ev.connectionReady
  simp only [hp, hw, hs, Bool.false_eq_true, if_false, hquiet, StepRecord.noNull]
  cases w.record.kind <;> cases w.record.flags.getLsbD 6 <;> simp [u, Ev.onEngine_eq]

/-- Settles O42. -/
theorem connectionReadyStartsTheFirstPhase : Obligations.ConnectionReadyStartsTheFirstPhase := by
  intro v e g becomes
  refine ⟨Ev.connectionReady_ignored, fun w hp hw hs => ?_⟩
  intro resistance nulls next aperture
  have hready := Ev.connectionReady_connect hp hw hs
  have hwork : ({ g with readyMark := true } : Engine).work = some w := hw
  have hnot : nulls → w.record.kind ≠ .cap := fun hn hk => by
    obtain ⟨hr | hr, -⟩ := hn <;> cases hk.symm.trans hr
  refine ⟨fun hk => hready.trans ?_, fun hk hn => hready.trans ?_, fun hn hq => hready.trans ?_,
    fun hn hq hstill => hready.trans ?_⟩
  · rw [if_pos hk]
    exact Ev.enterDischarge_eq v e { g with readyMark := true } .discharge
  · rw [if_neg hk, if_neg hn]
    exact Ev.enterSettle_eq v e { g with readyMark := true }
  · rw [if_neg (hnot hn), if_pos hn, if_neg (by simp [hq])]
    exact Ev.enterSampling_plain hwork hq v e .null
  · rw [if_neg (hnot hn), if_pos hn, if_pos hq]
    exact Ev.askStill_waits (fun h => by rw [hstill] at h; cases h.1) e { g with readyMark := true }

/-! ### Samples (R108, R112, R113) -/

theorem Ev.nextRequest_eq {g : Engine} {w : Work} (hw : g.work = some w) (v : Ev) (e : EngineId) :
    (v.withEngine e g).nextRequest e = v.withEngine e (if g.interval = none then g.asking v.p w else g) := by
  unfold Ev.nextRequest
  rw [Ev.withEngine_engine, Ev.withEngine_onEngine, ← Engine.sendRequest_eq hw]
  split
  · rfl
  · rfl

/-- An engine whose outstanding sample has come. -/
def Engine.received (g : Engine) (code : Int) : Engine :=
  { g with request := none, timeout := none, clip := g.clip || decide (code = -8388608 ∨ code = 8388607) }

/-- An engine that has added a null sample. -/
def Engine.nulled (g : Engine) (code : Int) : Engine :=
  { g.received code with nullSum := g.nullSum + code, nullCount := g.nullCount + 1 }

/-- An engine that has added a sample of its measurement. -/
def Engine.summed (g : Engine) (code : Int) : Engine :=
  { g.received code with sampleSum := g.sampleSum + code, sampleCount := g.sampleCount + 1 }

theorem Ev.sampleArrives_other {v : Ev} {e : EngineId} {number : Nat} (h : (v.p.engine e).request ≠ some number) (code : Int) :
    v.sampleArrives e number code = v := if_neg h

/-- A null sample. -/
theorem Ev.sampleArrives_null {v : Ev} {e : EngineId} {number : Nat} (h : (v.p.engine e).request = some number)
    (hp : (v.p.engine e).phase = some .null) (code : Int) : v.sampleArrives e number code =
      if (v.p.engine e).nullCount + 1 = 4 then
        ((v.withEngine e { (v.p.engine e).nulled code with interval := none }).leaveQuiet e).enterSettle e
      else (v.withEngine e ((v.p.engine e).nulled code)).nextRequest e := by
  refine (if_pos h).trans ?_
  dsimp only
  split
  next =>
    rw [Ev.onEngine_eq v, Ev.withEngine_onEngine, Ev.withEngine_onEngine]
    rfl
  next hp' => cases hp.symm.trans hp'
  next hp' _ => exact absurd hp hp'

/-- A sample of the measurement. -/
theorem Ev.sampleArrives_integrate {v : Ev} {e : EngineId} {number : Nat} (h : (v.p.engine e).request = some number)
    (hp : (v.p.engine e).phase = some .integrate) (code : Int) : v.sampleArrives e number code =
      if (v.p.engine e).sampleCount + 1 = (v.p.engine e).n then (v.withEngine e ((v.p.engine e).summed code)).endIntegrate e
      else (v.withEngine e ((v.p.engine e).summed code)).nextRequest e := by
  refine (if_pos h).trans ?_
  dsimp only
  split
  next hp' => cases hp.symm.trans hp'
  next =>
    rw [Ev.onEngine_eq v, Ev.withEngine_onEngine]
    rfl
  next _ hp' => exact absurd hp hp'

theorem Ev.leaveQuiet_of_not_quiet {v : Ev} {e : EngineId} (h : (v.p.plan e).quiet = false) : v.leaveQuiet e = v :=
  if_neg (by simp [h])

/-! ### Completed waits (R100, R112, R114) -/

theorem Ev.intervalEnds_none {v : Ev} {e : EngineId} (h : (v.p.engine e).interval = none) : v.intervalEnds e = v := by
  unfold Ev.intervalEnds
  rw [h]

theorem Ev.intervalEnds_some {p : Part} {e : EngineId} {due : Nat} (h : (p.engine e).interval = some due) :
    (Ev.start p).intervalEnds e =
      if (p.engine e).request = none then
        ((Ev.start (p.reach due)).withEngine e { p.engine e with interval := none }).nextRequest e
      else (Ev.start (p.reach due)).withEngine e { p.engine e with interval := none } := by
  unfold Ev.intervalEnds
  rw [show ((Ev.start p).p.engine e).interval = some due from h]
  dsimp only
  rw [Ev.onEngine_eq, Ev.withEngine_engine]
  rfl

theorem Ev.intervalEnds_asks {p : Part} {e : EngineId} {due : Nat} {w : Work} (h : (p.engine e).interval = some due)
    (hw : (p.engine e).work = some w) (hr : (p.engine e).request = none) : (Ev.start p).intervalEnds e =
      (Ev.start (p.reach due)).withEngine e (({ p.engine e with interval := none } : Engine).asking (p.reach due) w) := by
  have hwork : ({ p.engine e with interval := none } : Engine).work = some w := hw
  rw [Ev.intervalEnds_some h, if_pos hr, Ev.nextRequest_eq hwork, if_pos rfl]
  rfl

theorem Ev.intervalEnds_waits {p : Part} {e : EngineId} {due : Nat} (h : (p.engine e).interval = some due)
    (hr : (p.engine e).request ≠ none) :
    (Ev.start p).intervalEnds e = (Ev.start (p.reach due)).withEngine e { p.engine e with interval := none } := by
  rw [Ev.intervalEnds_some h, if_neg hr]

theorem Ev.settled_ignored {v : Ev} {e : EngineId}
    (h : (v.p.engine e).phase ≠ some .settle ∨ (v.p.engine e).phaseWait = none) : v.settled e = v := by
  unfold Ev.settled
  dsimp only
  split
  next hp hw => exact h.elim (absurd hp) fun h => by cases hw.symm.trans h
  next => rfl

theorem Ev.settled_some {p : Part} {e : EngineId} {due : Nat} {w : Work} (hp : (p.engine e).phase = some .settle)
    (hd : (p.engine e).phaseWait = some due) (hw : (p.engine e).work = some w) :
    (Ev.start p).settled e =
      if w.record.isQuiet then ((Ev.start (p.reach due)).withEngine e { p.engine e with phaseWait := none }).askStill e
      else ((Ev.start (p.reach due)).withEngine e { p.engine e with phaseWait := none }).enterSampling e .integrate := by
  have hquiet : ((Ev.start p).p.engine e).quietStep = w.record.isQuiet := by
    rw [Engine.quietStep, show ((Ev.start p).p.engine e).work = some w from hw]
  unfold Ev.settled
  dsimp only
  split
  next due' _ hd' =>
    cases hd.symm.trans hd'
    rw [hquiet]
    rfl
  next hno => exact absurd hd (hno due hp)

section
variable {p : Part} {e : EngineId} {due : Nat} {w : Work} (hp : (p.engine e).phase = some .settle)
  (hd : (p.engine e).phaseWait = some due) (hw : (p.engine e).work = some w)
include hp hd hw

theorem Ev.settled_plain (hq : w.record.isQuiet = false) : (Ev.start p).settled e = (Ev.start (p.reach due)).withEngine e
    (({ p.engine e with phaseWait := none, phase := some .integrate } : Engine).asking (p.reach due) w) := by
  have hwork : ({ p.engine e with phaseWait := none } : Engine).work = some w := hw
  rw [Ev.settled_some hp hd hw, if_neg (by simp [hq]), Ev.enterSampling_plain hwork hq]
  rfl

theorem Ev.settled_waits (hq : w.record.isQuiet = true) (h : ¬ (p.relay.still = true ∧ p.relay.wouldStart = false)) :
    (Ev.start p).settled e =
      (Ev.start (p.reach due)).withEngine e { p.engine e with phaseWait := none, stillWait := true } := by
  have hstill : ¬ ((Ev.start (p.reach due)).p.relay.still = true ∧ (Ev.start (p.reach due)).p.relay.wouldStart = false) := h
  rw [Ev.settled_some hp hd hw, if_pos hq, Ev.askStill_waits hstill]

theorem Ev.settled_atOnce (hq : w.record.isQuiet = true) (hs : p.relay.still = true) (hn : p.relay.wouldStart = false) :
    (Ev.start p).settled e =
      Ev.start ((p.reach due).samplingQuiet e w .integrate { p.engine e with phaseWait := none, stillWait := true }) := by
  have hstill : (Ev.start (p.reach due)).p.relay.still = true := hs
  have hstart : (Ev.start (p.reach due)).p.relay.wouldStart = false := hn
  have hreport := Ev.stillReport_settle (v := Ev.start (p.reach due)) (e := e)
    (g := { p.engine e with phaseWait := none, stillWait := true }) rfl hw hq hp
  rw [Ev.settled_some hp hd hw, if_pos hq, Ev.askStill_atOnce hstill hstart, hreport]
  rfl

end

section
variable {s : State} {e : EngineId} {w : Work}

/-- An event that leaves one engine changed. -/
theorem event_engine {f : Ev → Ev} {q : Part} {g : Engine} (hv : f (Ev.start s.part) = (Ev.start q).withEngine e g) :
    event s f = .next { s with part := q.setEngine e g } := event_map hv

/-- Settles O43. -/
theorem samplesAreRequestedAndAccumulated : Obligations.SamplesAreRequestedAndAccumulated := by
  intro s e p g runs asks
  have hasks : ∀ q w h, asks q w h = h.asking q w := fun _ _ _ => rfl
  refine ⟨fun number code => ?_, fun h => event_same (Ev.intervalEnds_none h), fun due w hd hw => ?_,
    fun h => event_same (Ev.settled_ignored h), fun due w hp hd hw => ⟨fun hq => ?_, fun hq hstill => ?_⟩⟩
  · intro got nulled summed
    refine ⟨fun h => event_same (Ev.sampleArrives_other h _), fun h w hw => ⟨fun hp hn => ?_, fun hp hn hq => ?_,
      fun hp hn => ?_⟩⟩
    · rw [hasks]
      refine event_engine ((Ev.sampleArrives_null h hp code.toInt).trans ((if_neg ?_).trans
        (Ev.nextRequest_eq (g := g.nulled code.toInt) hw _ e)))
      exact fun hc => hn (Nat.succ.inj hc)
    · refine event_engine ((Ev.sampleArrives_null h hp code.toInt).trans ((if_pos (congrArg (· + 1) hn)).trans ?_))
      rw [Ev.leaveQuiet_of_not_quiet hq]
      exact Ev.enterSettle_eq _ e _
    · rw [hasks]
      exact event_engine ((Ev.sampleArrives_integrate h hp code.toInt).trans ((if_neg hn).trans
        (Ev.nextRequest_eq (g := g.summed code.toInt) hw _ e)))
  · rw [hasks]
    by_cases hr : g.request = none
    · rw [if_pos hr]
      exact event_engine (Ev.intervalEnds_asks hd hw hr)
    · rw [if_neg hr]
      exact event_engine (Ev.intervalEnds_waits hd hr)
  · rw [hasks]
    exact event_engine (Ev.settled_plain hp hd hw hq)
  · exact event_engine (Ev.settled_waits hp hd hw hq fun h => by cases hstill.symm.trans h.1)

end

end Sys2Proof.Machine

/-! PROOFS. What follows when the matrix comes to rest, quiet phases, and CAP ramps (R82, R84, R87, R103, R104, R111,
R115 to R118). -/

namespace Sys2Proof.Machine

/-! ### Still reports (R84) -/

theorem Part.noStillWait_iff {p : Part} : p.noStillWait = true ↔ ∀ e, (p.engine e).stillWait = false := by
  simp only [Part.noStillWait, List.all_eq_true, Bool.not_eq_true']
  exact ⟨fun h e => h e e.mem_all, fun h e _ => h e⟩

theorem Ev.foldl_same {f : Ev → EngineId → Ev} (es : List EngineId) {v : Ev} (h : ∀ e ∈ es, f v e = v) : es.foldl f v = v := by
  induction es with
  | nil => rfl
  | cons e es ih =>
    rw [List.foldl_cons, h e List.mem_cons_self]
    exact ih fun e he => h e (List.mem_cons_of_mem _ he)

/-- A fold over all engines in which one alone acts. -/
theorem Ev.foldl_all_one {f : Ev → EngineId → Ev} {v : Ev} {e : EngineId} (hbefore : ∀ g, g ≠ e → f v g = v)
    (hafter : ∀ g, g ≠ e → f (f v e) g = f v e) : EngineId.all.foldl f v = f v e := by
  have hsplit : ∃ before after, EngineId.all = before ++ e :: after ∧ e ∉ before ∧ e ∉ after := by
    cases e
    · exact ⟨[], [.me1, .me2, .me3], rfl, by decide, by decide⟩
    · exact ⟨[.me0], [.me2, .me3], rfl, by decide, by decide⟩
    · exact ⟨[.me0, .me1], [.me3], rfl, by decide, by decide⟩
    · exact ⟨[.me0, .me1, .me2], [], rfl, by decide, by decide⟩
  obtain ⟨before, after, hall, hb, ha⟩ := hsplit
  rw [hall, List.foldl_append, List.foldl_cons,
    Ev.foldl_same before fun g hg => hbefore g fun he => hb (he ▸ hg),
    Ev.foldl_same after fun g hg => hafter g fun he => ha (he ▸ hg)]

theorem Ev.tellStill_of_noStillWait {v : Ev} (h : v.p.noStillWait = true) : v.tellStill = v :=
  Ev.foldl_same _ fun e _ => Ev.stillReport_of_not_waiting (Part.noStillWait_iff.mp h e)

theorem Part.any_stillWait_eq {p : Part} : EngineId.all.any (fun e => (p.engine e).stillWait) = !p.noStillWait := by
  simp [Part.noStillWait, EngineId.all]

/-- Where no engine waits for a still matrix, the link looks for its next transaction, and that is all. -/
theorem Ev.settleLink_of_noStillWait {v : Ev} (h : v.p.noStillWait = true) : v.settleLink = v.look := by
  have htell : v.look.tellStill = v.look := Ev.tellStill_of_noStillWait h
  unfold Ev.settleLink
  rw [Part.any_stillWait_eq, h]
  refine (if_neg Bool.false_ne_true).trans ?_
  dsimp only
  rw [htell, ite_self]

/-- A waiting engine in a matrix that is not still is told nothing. -/
theorem Ev.settleLink_of_not_still {v : Ev} (h : v.p.relay.still = false) (hlook : v.look.p.relay.still = false) :
    v.settleLink = v.look := by
  unfold Ev.settleLink
  rw [h, Bool.and_false, Bool.false_and]
  refine (if_neg Bool.false_ne_true).trans ?_
  dsimp only
  rw [hlook]
  rfl

/-- A look leaves a matrix that is not still as little still. -/
theorem Relay.still_look {r : Relay} (h : r.still = false) (tick : Nat) : (r.look tick).still = false := by
  unfold Relay.look
  split_ifs
  · exact h
  · simp [Relay.still]
  · exact h
  · split
    · simp [Relay.still]
    · exact h

/-- A look that finds nothing to start. -/
theorem Relay.look_of_nothing {r : Relay} (ha : r.allOpenPending = false) (h : r.wouldStart = false) (tick : Nat) :
    r.look tick = r := by
  unfold Relay.look
  split_ifs with hlink hpending hquiet
  · rfl
  · cases ha.symm.trans hpending
  · rfl
  · have hnone : r.startable = none := by
      simpa [Relay.wouldStart, not_not.mp hlink, ha, Bool.eq_false_iff.mpr hquiet] using h
    rw [hnone]

/-- A look in a quiet phase starts no update. -/
theorem Relay.look_of_deferral {r : Relay} (ha : r.allOpenPending = false) (hd : r.deferral = true) (tick : Nat) :
    r.look tick = r := by
  unfold Relay.look
  rw [ha, hd]
  split_ifs <;> first | rfl | contradiction

theorem Ev.judgeReady_of_not {v : Ev} {e : EngineId} (h : v.p.relay.standsReady e = false) : v.judgeReady e = v :=
  if_neg (by simp [h])

theorem Ev.judgeAllReady_of_none {v : Ev} (h : ∀ e, v.p.relay.standsReady e = false) : v.judgeAllReady = v :=
  Ev.foldl_same _ fun e _ => Ev.judgeReady_of_not (h e)

theorem Ev.judgeStopped_of_ne {v : Ev} (h : v.p.disp.seq ≠ .stopping) : v.judgeStopped = v := if_neg fun hc => h hc.1

/-! ### Leaving a quiet phase (R84, R111) -/

/-- The part whose engine has left its quiet phase, the link having looked. -/
def Part.quietLeft (p : Part) (e : EngineId) : Part :=
  let calm := p.setPlan e { p.plan e with quiet := false }
  { calm with relay := calm.relay.look p.time.tick }

theorem Ev.leaveQuiet_of_quiet {v : Ev} {e : EngineId} (h : (v.p.plan e).quiet = true) (hs : v.p.noStillWait = true) :
    v.leaveQuiet e = { v with p := v.p.quietLeft e } := by
  have hcalm : (v.map fun p => p.setPlan e { p.plan e with quiet := false }).p.noStillWait = true := hs
  exact (if_pos h).trans (Ev.settleLink_of_noStillWait hcalm)

/-! ### The end of a card's motion where one engine waits -/

/-- The part whose card has come to rest (R73, R80). -/
def Part.cardRested (p : Part) (card : Nat) : Part :=
  let q := p.reach (p.relay.card card).lastDue
  { q with relay := (q.relay.setCard card (p.relay.card card).settled).deriveAtRest card }

theorem Ev.motionEnds_moving {p : Part} {card : Nat} (h : (p.relay.card card).inMotion = true) :
    Ev.motionEnds card (Ev.start p) = (Ev.start (p.cardRested card)).judgeAllReady.settleLink.judgeStopped := if_pos h

theorem Ev.motionEnds_still {v : Ev} {card : Nat} (h : (v.p.relay.card card).inMotion = false) : v.motionEnds card = v :=
  if_neg (by simp [h])

/-- A still report taken by a QUIET engine that waits for it. -/
theorem Ev.stillReport_of_waiting {v : Ev} {e : EngineId} {w : Work} {ph : Phase} (hwait : (v.p.engine e).stillWait = true)
    (hw : (v.p.engine e).work = some w) (hq : w.record.isQuiet = true)
    (hp : ((v.p.engine e).phase = some .connect ∧ ph = .null) ∨ ((v.p.engine e).phase = some .settle ∧ ph = .integrate)) :
    v.stillReport e = { v with p := v.p.samplingQuiet e w ph (v.p.engine e) } := by
  have hself := v.withEngine_self e
  rcases hp with ⟨hp, rfl⟩ | ⟨hp, rfl⟩
  · rw [← Ev.stillReport_connect hwait hw hq hp, hself]
  · rw [← Ev.stillReport_settle hwait hw hq hp, hself]

/-- Where one engine alone waits for a still matrix, it alone is told. -/
theorem Ev.tellStill_one {v : Ev} {e : EngineId} {w : Work} {ph : Phase} (hw : (v.p.engine e).work = some w)
    (hq : w.record.isQuiet = true) (hwait : ∀ f, (v.p.engine f).stillWait = decide (f = e))
    (hp : ((v.p.engine e).phase = some .connect ∧ ph = .null) ∨ ((v.p.engine e).phase = some .settle ∧ ph = .integrate)) :
    v.tellStill = { v with p := v.p.samplingQuiet e w ph (v.p.engine e) } := by
  have hwaits : (v.p.engine e).stillWait = true := by simp [hwait]
  have hreport := Ev.stillReport_of_waiting hwaits hw hq hp
  have hother : ∀ g, g ≠ e → (v.p.engine g).stillWait = false := fun g hg => by simp [hwait, hg]
  rw [← hreport]
  refine Ev.foldl_all_one (fun g hg => Ev.stillReport_of_not_waiting (hother g hg)) fun g hg => ?_
  refine Ev.stillReport_of_not_waiting ?_
  rw [hreport]
  have hkept : ((v.p.samplingQuiet e w ph (v.p.engine e)).engine g) = v.p.engine g :=
    Part.engine_setEngine_ne _ _ _ _ hg
  rw [hkept]
  exact hother g hg

theorem Part.samplingQuiet_deferral (p : Part) (e : EngineId) (w : Work) (ph : Phase) (g : Engine) :
    (p.samplingQuiet e w ph g).relay.deferral = true := by
  have hquiet : ((p.samplingQuiet e w ph g).relay.plans.get e).quiet = true := by
    simp [Part.samplingQuiet, Part.setPlan]
  exact List.any_eq_true.mpr ⟨e, e.mem_all, hquiet⟩

/-- A still matrix where one engine waits and nothing would start. -/
theorem Ev.settleLink_one {v : Ev} {e : EngineId} {w : Work} {ph : Phase} (hw : (v.p.engine e).work = some w)
    (hq : w.record.isQuiet = true) (hwait : ∀ f, (v.p.engine f).stillWait = decide (f = e))
    (hp : ((v.p.engine e).phase = some .connect ∧ ph = .null) ∨ ((v.p.engine e).phase = some .settle ∧ ph = .integrate))
    (ha : v.p.relay.allOpenPending = false) (hs : v.p.relay.still = true) (hn : v.p.relay.wouldStart = false) :
    v.settleLink = { v with p := v.p.samplingQuiet e w ph (v.p.engine e) } := by
  have hlook : v.look = v := by
    have hrelay := Relay.look_of_nothing ha hn v.p.time.tick
    exact congrArg (fun r : Relay => ({ v with p := { v.p with relay := r } } : Ev)) hrelay
  unfold Ev.settleLink
  rw [hn, Bool.and_false, hlook]
  refine (if_neg Bool.false_ne_true).trans ((if_pos hs).trans ?_)
  exact Ev.tellStill_one hw hq hwait hp

/-- A still matrix where one engine waits and an update would start: the order is free (assumption log 3). -/
theorem Ev.settleLink_one_free {v : Ev} {e : EngineId} {w : Work} {ph : Phase} (hw : (v.p.engine e).work = some w)
    (hq : w.record.isQuiet = true) (hwait : ∀ f, (v.p.engine f).stillWait = decide (f = e))
    (hp : ((v.p.engine e).phase = some .connect ∧ ph = .null) ∨ ((v.p.engine e).phase = some .settle ∧ ph = .integrate))
    (ha : v.p.relay.allOpenPending = false) (hs : v.p.relay.still = true) (hn : v.p.relay.wouldStart = true) :
    ∃ n, v.settleLink = { v with p := { v.p.samplingQuiet e w ph (v.p.engine e) with free := n } } ∨
      v.settleLink = { v with p := { v.p with relay := v.p.relay.look v.p.time.tick, free := n } } := by
  have hany : EngineId.all.any (fun e => (v.p.engine e).stillWait) = true :=
    List.any_eq_true.mpr ⟨e, e.mem_all, by simp [hwait]⟩
  let u : Ev := { v with p := { v.p with free := v.p.free + 1 } }
  have hsettle : v.settleLink = if Config.freeChoice v.p.free % 2 = 0 then u.tellStill.look else u.look := by
    unfold Ev.settleLink
    rw [hany, hs, hn]
    rfl
  refine ⟨v.p.free + 1, ?_⟩
  rw [hsettle]
  split
  · left
    have htell : u.tellStill = { u with p := u.p.samplingQuiet e w ph (v.p.engine e) } := Ev.tellStill_one hw hq hwait hp
    have hrelay := Relay.look_of_deferral (r := (u.p.samplingQuiet e w ph (v.p.engine e)).relay) ha
      (Part.samplingQuiet_deferral _ _ _ _ _) u.p.time.tick
    rw [htell]
    exact congrArg (fun r : Relay => ({ u with p := { u.p.samplingQuiet e w ph (v.p.engine e) with relay := r } } : Ev)) hrelay
  · exact .inr rfl

/-! ### QUIET steps (R84, R111) -/

/-- Connection ready of a QUIET step with null samples. -/
theorem Ev.connectionReady_quiet {v : Ev} {e : EngineId} {w : Work} (hw : (v.p.engine e).work = some w)
    (hq : w.record.isQuiet = true) (hs : (v.p.engine e).stillWait = false) (hp : (v.p.engine e).phase = some .connect)
    (hk : w.record.kind = .res2 ∨ w.record.kind = .res4) (hn : w.record.flags.getLsbD 6 = false) :
    v.connectionReady e = (v.withEngine e { v.p.engine e with readyMark := true }).askStill e := by
  have hcap : w.record.kind ≠ .cap := fun h => by rcases hk with hk | hk <;> cases h.symm.trans hk
  rw [Ev.connectionReady_connect hp hw hs, if_neg hcap, if_pos ⟨hk, hn⟩, if_pos hq]

theorem Ev.quiet_spec (v : Ev) (e : EngineId) (w : Work) :
    let g := v.p.engine e
    let atOnce := v.p.relay.still = true ∧ v.p.relay.wouldStart = false
    (g.stillWait = false → v.stillReport e = v) ∧
    (g.work = some w → w.record.isQuiet = true → g.stillWait = true →
      (g.phase = some .connect → v.stillReport e = { v with p := v.p.samplingQuiet e w .null g }) ∧
      (g.phase = some .settle → v.stillReport e = { v with p := v.p.samplingQuiet e w .integrate g })) ∧
    (g.work = some w → w.record.isQuiet = true → g.stillWait = false → g.phase = some .connect →
      w.record.kind = .res2 ∨ w.record.kind = .res4 → w.record.flags.getLsbD 6 = false →
      (atOnce → v.connectionReady e = { v with p := v.p.samplingQuiet e w .null { g with readyMark := true } }) ∧
      (¬ atOnce → v.connectionReady e = v.withEngine e { g with readyMark := true, stillWait := true })) ∧
    ((v.p.plan e).quiet = false → v.leaveQuiet e = v) ∧
    ((v.p.plan e).quiet = true → v.p.noStillWait = true → v.leaveQuiet e = { v with p := v.p.quietLeft e }) := by
  intro g atOnce
  refine ⟨Ev.stillReport_of_not_waiting, fun hw hq hwait => ⟨fun hp => ?_, fun hp => ?_⟩, fun hw hq hwait hp hk hn =>
    ⟨fun hat => ?_, fun hat => ?_⟩, Ev.leaveQuiet_of_not_quiet, Ev.leaveQuiet_of_quiet⟩
  · exact Ev.stillReport_of_waiting hwait hw hq (.inl ⟨hp, rfl⟩)
  · exact Ev.stillReport_of_waiting hwait hw hq (.inr ⟨hp, rfl⟩)
  · rw [Ev.connectionReady_quiet hw hq hwait hp hk hn, Ev.askStill_atOnce hat.1 hat.2]
    exact Ev.stillReport_connect (g := { g with readyMark := true, stillWait := true }) rfl hw hq hp
  · rw [Ev.connectionReady_quiet hw hq hwait hp hk hn, Ev.askStill_waits hat]

/-- The fourth null sample of a QUIET step: the quiet phase is left, and the link looks. -/
theorem Ev.sampleArrives_fourth_quiet {p : Part} {e : EngineId} {number : Nat} {code : Int}
    (hp : (p.engine e).phase = some .null) (hr : (p.engine e).request = some number) (hn : (p.engine e).nullCount = 3)
    (hq : (p.plan e).quiet = true) (hs : p.noStillWait = true) : (Ev.start p).sampleArrives e number code =
      (Ev.start (p.quietLeft e)).withEngine e { (p.engine e).nulled code with
        interval := none, phase := some .settle, stimulus := some (p.engine e).effCurrent, parted := false, phaseWait := some (p.dueIn (100 * (p.engine e).settle)) } := by
  let g : Engine := { (p.engine e).nulled code with interval := none }
  have hstill : ((Ev.start p).withEngine e g).p.noStillWait = true := by
    rw [Part.noStillWait_iff] at hs ⊢
    intro f
    by_cases hf : f = e
    · rw [hf, Ev.withEngine_engine]
      exact hs e
    · exact (congrArg Engine.stillWait (Part.engine_setEngine_ne p e f g hf)).trans (hs f)
  have hleft : ((Ev.start p).withEngine e g).leaveQuiet e = (Ev.start (p.quietLeft e)).withEngine e g :=
    Ev.leaveQuiet_of_quiet hq hstill
  refine (Ev.sampleArrives_null hr hp code).trans ((if_pos (congrArg (· + 1) hn)).trans ?_)
  exact (congrArg (fun u : Ev => u.enterSettle e) hleft).trans (Ev.enterSettle_eq _ e g)

/-- Settles O44. -/
theorem quietPhasesDeferUpdatesAndEnd : Obligations.QuietPhasesDeferUpdatesAndEnd := by
  unfold Obligations.QuietPhasesDeferUpdatesAndEnd
  intro sampling
  have hsampling : ∀ p e w ph g, sampling p e w ph g = p.samplingQuiet e w ph g := fun _ _ _ _ _ => rfl
  refine ⟨fun v e w => Ev.quiet_spec v e w, fun s e w => ?_⟩
  intro p g runs hw hq
  refine ⟨fun due hp hd => ⟨fun hs hn => ?_, fun hs => ?_⟩, fun number code hp hr hn hquiet hs => ?_,
    fun card ph hp hwait hseq hmoving => ?_⟩
  · exact event_map (Ev.settled_atOnce hp hd hw hq hs hn)
  · refine event_engine (Ev.settled_waits hp hd hw hq ?_)
    rintro ⟨h1, h2⟩
    rcases hs with hs | hs
    · cases h1.symm.trans hs
    · cases h2.symm.trans hs
  · intro calm
    refine event_engine ((Ev.sampleArrives_fourth_quiet hp hr hn hquiet hs).trans ?_)
    have hthree : (p.engine e).nullCount = 3 := hn
    rw [Engine.nulled, hthree]
    rfl
  · intro q rested still hready ha
    have hends : Ev.motionEnds card (Ev.start p) = (Ev.start still).settleLink.judgeStopped := by
      rw [Ev.motionEnds_moving hmoving]
      exact congrArg (fun v : Ev => v.settleLink.judgeStopped) (Ev.judgeAllReady_of_none (v := Ev.start still) hready)
    refine ⟨fun hs => ?_, fun hs hn => ?_, fun hs hn => ?_⟩
    · have hsettle : (Ev.start still).settleLink = (Ev.start still).look :=
        Ev.settleLink_of_not_still hs (Relay.still_look hs _)
      rw [hsettle, Ev.judgeStopped_of_ne hseq] at hends
      exact event_map hends
    · have hsettle := Ev.settleLink_one (v := Ev.start still) hw hq hwait hp ha hs hn
      rw [hsettle, Ev.judgeStopped_of_ne hseq] at hends
      exact event_map hends
    · obtain ⟨n, hsettle | hsettle⟩ := Ev.settleLink_one_free (v := Ev.start still) hw hq hwait hp ha hs hn
      · rw [hsettle, Ev.judgeStopped_of_ne hseq] at hends
        exact ⟨n, .inl (event_map hends)⟩
      · rw [hsettle, Ev.judgeStopped_of_ne hseq] at hends
        exact ⟨n, .inr (event_map hends)⟩

/-! ### CAP ramps (R103, R104, R115 to R118, R137) -/

theorem Part.setCapture_disarm (p : Part) (e : EngineId) (c : Capture) :
    (p.setCapture e c).disarm e = p.setCapture e { c with state := .disarmed } := by
  simp only [Part.disarm, Part.setCapture, PerEngine.get_set_same, PerEngine.set_set, Capture.disarm]

/-- An engine that has left its ramp with an outcome and discharges (R117, R118). -/
def Engine.rampEnded (g : Engine) (p : Part) (f : Formed) (degraded : Bool) : Engine :=
  { g.quietDown with
    formed := some f, timeDegraded := degraded, phase := some .postDischarge, dischargePath := true, parted := false,
    phaseWait := some (p.dueIn (100 * g.discharge)) }

theorem Ev.endRamp_eq (v : Ev) (e : EngineId) (g : Engine) (f : Formed) (degraded : Bool) :
    (v.withEngine e g).endRamp e f degraded =
      ({ v with p := v.p.disarm e } : Ev).withEngine e (g.rampEnded v.p f degraded) := by
  unfold Ev.endRamp
  rw [Ev.withEngine_onEngine]
  exact Ev.enterDischarge_eq { v with p := v.p.disarm e } e { g.quietDown with formed := some f, timeDegraded := degraded } .postDischarge

/-- The engine in RAMP takes its capture (R117, R137). -/
theorem Ev.takeCapture_eq {v : Ev} {e : EngineId} {g : Engine} {w : Work} (hp : g.phase = some .ramp)
    (hw : g.work = some w) (c : Capture) :
    (({ v with p := v.p.setCapture e c } : Ev).withEngine e g).takeCapture e =
      ({ v with p := v.p.setCapture e { c with state := .disarmed } } : Ev).withEngine e
        (g.rampEnded v.p (formCapture w.record g.effCurrent (c.captureTick.getD 0 - c.armTick.getD 0)) c.degraded) := by
  have hcapture : (({ v with p := v.p.setCapture e c } : Ev).withEngine e g).p.time.captures.get e = c :=
    PerEngine.get_set_same _ _ _
  unfold Ev.takeCapture
  rw [Ev.withEngine_engine, hcapture]
  dsimp only
  split
  next w' _ hw' =>
    cases hw.symm.trans hw'
    rw [Ev.endRamp_eq]
    simp only [Part.setCapture_disarm]
    rfl
  next hno => exact absurd hw (hno w hp)

/-- An engine in its ramp (R116). -/
def Engine.ramping (g : Engine) (p : Part) (w : Work) : Engine :=
  { g.quietDown with
    phase := some .ramp, stimulus := some g.effCurrent, parted := false, threshold := some w.record.threshold,
    phaseWait := some (p.dueIn (100000 * w.record.rampLimit)) }

/-- Entry to RAMP, with the front end's answer (R116). -/
theorem Ev.enterRamp_eq {p : Part} {e : EngineId} {w : Work} (hw : (p.engine e).work = some w) (crossed : Bool) :
    (Ev.start p).enterRamp e crossed =
      let armed := (Ev.start (p.setCapture e (Capture.arm p.time crossed))).withEngine e ((p.engine e).ramping p w)
      if crossed then armed.takeCapture e else armed := by
  have hlimit : micros (w.record.rampLimit * 1000) = 100000 * w.record.rampLimit := by
    rw [micros_eq]
    ring
  unfold Ev.enterRamp
  rw [show ((Ev.start p).p.engine e).work = some w from hw]
  dsimp only
  rw [hlimit]
  rfl

section
variable {p : Part} {e : EngineId} {due : Nat}

theorem Ev.discharged_ignored {v : Ev} (h : (v.p.engine e).phase ≠ some .discharge) (crossed : Bool) :
    v.discharged e crossed = v := by
  unfold Ev.discharged
  dsimp only
  split
  next hp _ => exact absurd hp h
  next => rfl

theorem Ev.discharged_some (hp : (p.engine e).phase = some .discharge) (hd : (p.engine e).phaseWait = some due)
    (crossed : Bool) : (Ev.start p).discharged e crossed = (Ev.start (p.reach due)).enterRamp e crossed := by
  unfold Ev.discharged
  dsimp only
  split
  next due' _ hd' => cases hd.symm.trans hd'; rfl
  next hno => exact absurd hd (hno due hp)

theorem Ev.rampLimited_ignored {v : Ev} (h : (v.p.engine e).phase ≠ some .ramp) : v.rampLimited e = v := by
  unfold Ev.rampLimited
  dsimp only
  split
  next hp _ => exact absurd hp h
  next => rfl

theorem Ev.rampLimited_some (hp : (p.engine e).phase = some .ramp) (hd : (p.engine e).phaseWait = some due) :
    (Ev.start p).rampLimited e = (Ev.start (p.reach due)).endRamp e ⟨.overrange, none⟩ false := by
  unfold Ev.rampLimited
  dsimp only
  split
  next due' _ hd' => cases hd.symm.trans hd'; rfl
  next hno => exact absurd hd (hno due hp)

theorem Ev.postDischarged_some {f : Formed} (hp : (p.engine e).phase = some .postDischarge)
    (hd : (p.engine e).phaseWait = some due) (hf : (p.engine e).formed = some f) : (Ev.start p).postDischarged e =
      let off := (Ev.start (p.reach due)).withEngine e { p.engine e with phaseWait := none, dischargePath := false }
      if f.verdict = .openCircuit then off.afterOpen e else off.completeStep e f none none false := by
  unfold Ev.postDischarged
  dsimp only
  split
  next due' f' _ hd' hf' =>
    cases hd.symm.trans hd'
    cases hf.symm.trans hf'
    rfl
  next hno => exact absurd hf (hno due f hp hd)

end

/-- An OPEN in the first attempt of a RETRY_ALT step asks for a re-plan (R115, R119). -/
theorem Ev.afterOpen_retries {v : Ev} {e : EngineId} {g : Engine} {w : Work} (hw : g.work = some w)
    (hk : w.record.kind ≠ .scan) (hflag : w.record.flags.getLsbD 5 = true) (hretry : g.retry = false) :
    (v.withEngine e g).afterOpen e = v.withEngine e { g with replan := .requested } := by
  have hcond : (w.record.retryAlt && !((v.withEngine e g).p.engine e).retry) = true := by
    rw [Ev.withEngine_engine]
    simp [StepRecord.retryAlt, hflag, hk, hretry]
  unfold Ev.afterOpen
  dsimp only
  split
  next hn => rw [Ev.withEngine_engine, hw] at hn; cases hn
  next w' hw' =>
    rw [Ev.withEngine_engine] at hw'
    cases hw.symm.trans hw'
    rw [if_pos hcond, Ev.withEngine_onEngine]

/-- Settles O46. -/
theorem capRampsAreArmedCapturedAndDischarged : Obligations.CapRampsAreArmedCapturedAndDischarged := by
  intro s e w p g c runs off post hw
  refine ⟨fun due hp hd => ?_, fun hp crossed => event_same (Ev.discharged_ignored hp crossed), fun hc => ?_,
    fun armed hp hc ha => ?_, fun due hp hd => ?_, fun hp => event_same (Ev.rampLimited_ignored hp), fun hp hs => ?_,
    fun due f hp hd hf hv hk hflag hretry => ?_⟩
  · intro q degraded ramping
    have hdis := fun crossed => (Ev.discharged_some hp hd crossed).trans (Ev.enterRamp_eq (p := q) hw crossed)
    refine ⟨event_map (hdis false), event_map ((hdis true).trans ?_)⟩
    refine (Ev.takeCapture_eq (v := Ev.start q) (g := g.ramping q w) rfl hw (Capture.arm q.time true)).trans ?_
    have hzero : (Capture.arm q.time true).captureTick.getD 0 - (Capture.arm q.time true).armTick.getD 0 = 0 :=
      Nat.sub_self _
    rw [hzero]
    rfl
  · exact event_same (if_neg hc)
  · let latched : Capture := ⟨.captured, some armed, some p.time.tick, c.degraded⟩
    have hlatched : ({ c with state := .captured, captureTick := some p.time.tick } : Capture) = latched := by rw [ha]
    have hact : (Ev.start p).crossed e = (Ev.start (p.setCapture e latched)).takeCapture e := by
      rw [← hlatched]
      exact if_pos hc
    have hself : ({ Ev.start p with p := p.setCapture e latched } : Ev).withEngine e g = Ev.start (p.setCapture e latched) :=
      Ev.withEngine_self (Ev.start (p.setCapture e latched)) e
    have htake := Ev.takeCapture_eq (v := Ev.start p) (e := e) hp hw latched
    exact event_map (hact.trans ((congrArg (fun v : Ev => v.takeCapture e) hself.symm).trans htake))
  · have hend := Ev.endRamp_eq (Ev.start (p.reach due)) e g ⟨.overrange, none⟩ false
    rw [show (Ev.start (p.reach due)).withEngine e g = Ev.start (p.reach due) from Ev.withEngine_self _ e] at hend
    exact event_map ((Ev.rampLimited_some hp hd).trans hend)
  · have hend := Ev.endRamp_eq (Ev.start p) e g ⟨.openCircuit, none⟩ false
    rw [show (Ev.start p).withEngine e g = Ev.start p from Ev.withEngine_self _ e] at hend
    have hact : (Ev.start p).complianceReported e = (Ev.start p).endRamp e ⟨.openCircuit, none⟩ false :=
      (if_neg hs).trans (if_pos hp)
    exact event_map (hact.trans hend)
  · have hopen : ({ g with phaseWait := none, dischargePath := false } : Engine).work = some w := hw
    refine event_engine ((Ev.postDischarged_some hp hd hf).trans ((if_pos hv).trans ?_))
    exact Ev.afterOpen_retries hopen (fun h => by cases hk.symm.trans h) hflag hretry

end Sys2Proof.Machine

/-! PROOFS. Plans and connection ready as acts of their own: what they leave (R76, R87, R110), re-plans and dispatch
(R64, R66, R119). -/

namespace Sys2Proof.Machine

/-! ### What plans and the link leave of the Relay Sequencer -/

theorem Relay.deriveChanged_queue_only (old r : Relay) : ∃ q, Relay.deriveChanged old r = { r with queue := q } :=
  Relay.foldl_derive_queue_only _ _

/-- A look of the link writes the link, the queue and the mark of a pending ALL_OPEN (R82). -/
theorem Relay.look_link_only (r : Relay) (tick : Nat) :
    ∃ l a q, r.look tick = { r with link := l, allOpenPending := a, queue := q } := by
  unfold Relay.look
  split
  · exact ⟨r.link, r.allOpenPending, r.queue, rfl⟩
  · split
    · exact ⟨_, _, r.queue, rfl⟩
    · split
      · exact ⟨r.link, r.allOpenPending, r.queue, rfl⟩
      · split
        · exact ⟨_, r.allOpenPending, _, rfl⟩
        · exact ⟨r.link, r.allOpenPending, r.queue, rfl⟩

@[simp] theorem Relay.look_plans (r : Relay) (tick : Nat) : (r.look tick).plans = r.plans := by
  obtain ⟨l, a, q, h⟩ := r.look_link_only tick
  rw [h]

@[simp] theorem Relay.look_cards (r : Relay) (tick : Nat) : (r.look tick).cards = r.cards := by
  obtain ⟨l, a, q, h⟩ := r.look_link_only tick
  rw [h]

@[simp] theorem Relay.deriveChanged_plans (old r : Relay) : (Relay.deriveChanged old r).plans = r.plans := by
  obtain ⟨q, h⟩ := Relay.deriveChanged_queue_only old r
  rw [h]

@[simp] theorem Relay.deriveChanged_cards (old r : Relay) : (Relay.deriveChanged old r).cards = r.cards := by
  obtain ⟨q, h⟩ := Relay.deriveChanged_queue_only old r
  rw [h]

/-- The plans once an engine's plan has arrived (R76, R78). -/
theorem Relay.plan_plans (r : Relay) (e : EngineId) (plan : List Pair) :
    (r.plan e plan).1.plans = (r.plans.mapIdx fun f h => if f = e then h else h.loseCards plan).set e
      { r.plans.get e with
        state := .connecting, wanted := plan
        held := if (r.plans.get e).state = .none then [] else (r.plans.get e).held
        hold := if (r.plans.get e).state = .none then none else (r.plans.get e).hold } := by
  simp [Relay.plan]

/-- A plan sent changes the Relay Sequencer alone. -/
theorem Ev.sendPlan_eq (v : Ev) (e : EngineId) (plan : List Pair) : v.sendPlan e plan =
    ({ v with p := { v.p with relay := (v.p.relay.plan e plan).1.look v.p.time.tick } }, (v.p.relay.plan e plan).2) := rfl

section
variable (v : Ev) (e : EngineId) (plan : List Pair)

theorem Ev.sendPlan_plan (f : EngineId) : (v.sendPlan e plan).1.p.plan f = (v.p.relay.plan e plan).1.plans.get f := by
  rw [Ev.sendPlan_eq]
  exact congrArg (fun t : PerEngine EnginePlan => t.get f) (Relay.look_plans _ _)

theorem Ev.sendPlan_wanted : ((v.sendPlan e plan).1.p.plan e).wanted = plan := by
  rw [Ev.sendPlan_plan, Relay.plan_plans, PerEngine.get_set_same]

theorem Ev.sendPlan_held : ((v.sendPlan e plan).1.p.plan e).held =
    if (v.p.plan e).state = .none then [] else (v.p.plan e).held := by
  rw [Ev.sendPlan_plan, Relay.plan_plans, PerEngine.get_set_same]
  rfl

theorem Ev.sendPlan_other {f : EngineId} (h : f ≠ e) : (v.sendPlan e plan).1.p.plan f = (v.p.plan f).loseCards plan := by
  rw [Ev.sendPlan_plan, Relay.plan_plans, PerEngine.get_set_ne _ _ _ _ h, PerEngine.get_mapIdx, if_neg h]
  rfl

end

/-! ### What connection ready leaves (R87, R110) -/

/-- What connection ready and the phases it starts leave of an engine. -/
def Engine.lasting (g : Engine) : Engine :=
  { g with
    phase := none, stimulus := none, dischargePath := false, parted := false, phaseWait := none, interval := none
    timeout := none, request := none, sequence := 0, stillWait := false, readyMark := false }

/-- What they leave of an engine's plan. -/
def EnginePlan.lasting (g : EnginePlan) : EnginePlan := { g with state := .none, quiet := false }

/-- What connection ready of an engine leaves of a part. -/
def Part.lasting (p : Part) (e : EngineId) : Part :=
  (p.setPlan e (p.plan e).lasting).setEngine e (p.engine e).lasting

theorem Part.setEngine_lasting (p : Part) (e : EngineId) {g : Engine} (h : g.lasting = (p.engine e).lasting) :
    (p.setEngine e g).lasting e = p.lasting e := by
  unfold Part.lasting
  rw [Part.engine_setEngine_same, h]
  exact Part.setEngine_setEngine (p.setPlan e (p.plan e).lasting) e g (p.engine e).lasting

theorem Part.setPlan_lasting (p : Part) (e : EngineId) {g : EnginePlan} (h : g.lasting = (p.plan e).lasting) :
    (p.setPlan e g).lasting e = p.lasting e := by
  have hset : (p.setPlan e g).setPlan e (p.plan e).lasting = p.setPlan e (p.plan e).lasting := by
    simp only [Part.setPlan, PerEngine.set_set]
  unfold Part.lasting
  rw [Part.plan_setPlan_same, h, hset]
  rfl

/-- An event that connection ready of an engine leads to. -/
def Ev.Led (v w : Ev) (e : EngineId) : Prop := w = { v with p := w.p } ∧ w.p.lasting e = v.p.lasting e

theorem Ev.Led.refl (v : Ev) (e : EngineId) : v.Led v e := ⟨rfl, rfl⟩

theorem Ev.Led.trans {u v w : Ev} {e : EngineId} (huv : u.Led v e) (hvw : v.Led w e) : u.Led w e := by
  obtain ⟨hv, hvl⟩ := huv
  obtain ⟨hw, hwl⟩ := hvw
  refine ⟨?_, hwl.trans hvl⟩
  rw [hw, hv]

theorem Ev.onEngine_led (v : Ev) (e : EngineId) {f : Engine → Engine} (h : ∀ g, (f g).lasting = g.lasting) :
    v.Led (v.onEngine e f) e := ⟨rfl, v.p.setEngine_lasting e (h _)⟩

theorem Ev.setPlan_led (v : Ev) (e : EngineId) {f : EnginePlan → EnginePlan} (h : ∀ g, (f g).lasting = g.lasting) :
    v.Led (v.map fun p => p.setPlan e (f (p.plan e))) e := ⟨rfl, v.p.setPlan_lasting e (h _)⟩

theorem Ev.enterSampling_led (v : Ev) (e : EngineId) (ph : Phase) : v.Led (v.enterSampling e ph) e := by
  have hsend : ∀ (u : Ev), u.Led (u.onEngine e fun g => { g with phase := some ph }.sendRequest u.p.time) e :=
    fun u => u.onEngine_led e fun _ => rfl
  unfold Ev.enterSampling
  dsimp only
  split
  · exact (v.setPlan_led e (f := fun g => { g with quiet := true }) fun _ => rfl).trans (hsend _)
  · exact hsend v

theorem Ev.stillReport_led (v : Ev) (e : EngineId) : v.Led (v.stillReport e) e := by
  have hcalm : v.Led (v.onEngine e fun g => { g with stillWait := false }) e := v.onEngine_led e fun _ => rfl
  unfold Ev.stillReport
  dsimp only
  split
  · split
    · exact hcalm.trans (Ev.enterSampling_led _ e _)
    · exact hcalm.trans (Ev.enterSampling_led _ e _)
    · exact hcalm
  · exact .refl v e

theorem Ev.askStill_led (v : Ev) (e : EngineId) : v.Led (v.askStill e) e := by
  have hwait : v.Led (v.onEngine e fun g => { g with stillWait := true }) e := v.onEngine_led e fun _ => rfl
  unfold Ev.askStill
  dsimp only
  split
  · exact hwait.trans (Ev.stillReport_led _ e)
  · exact hwait

theorem Ev.enterSettle_led (v : Ev) (e : EngineId) : v.Led (v.enterSettle e) e := v.onEngine_led e fun _ => rfl

theorem Ev.enterDischarge_led (v : Ev) (e : EngineId) (ph : Phase) : v.Led (v.enterDischarge e ph) e :=
  v.onEngine_led e fun _ => rfl

theorem Ev.connectionReady_led (v : Ev) (e : EngineId) : v.Led (v.connectionReady e) e := by
  by_cases h : (v.p.engine e).phase ≠ some .connect ∨ (v.p.engine e).stillWait = true ∨ (v.p.engine e).work = none
  · rw [Ev.connectionReady_ignored h]
    exact .refl v e
  · push Not at h
    obtain ⟨hp, hs, hw⟩ := h
    obtain ⟨w, hw⟩ := Option.ne_none_iff_exists'.mp hw
    have hmark : v.Led (v.withEngine e { v.p.engine e with readyMark := true }) e :=
      v.onEngine_led e (f := fun g => { g with readyMark := true }) fun _ => rfl
    rw [Ev.connectionReady_connect hp hw (by simpa using hs)]
    refine hmark.trans ?_
    split
    · exact Ev.enterDischarge_led _ e _
    · split
      · split
        · exact Ev.askStill_led _ e
        · exact Ev.enterSampling_led _ e _
      · exact Ev.enterSettle_led _ e

theorem Ev.judgeReady_led (v : Ev) (e : EngineId) : v.Led (v.judgeReady e) e := by
  unfold Ev.judgeReady
  split
  · exact (v.setPlan_led e (f := fun g => { g with state := .ready }) fun _ => rfl).trans (Ev.connectionReady_led _ e)
  · exact .refl v e

section
variable {v w : Ev} {e : EngineId} (h : v.Led w e)
include h

theorem Ev.Led.plan : (w.p.plan e).lasting = (v.p.plan e).lasting := by
  have := congrArg (fun p : Part => p.plan e) h.2
  simpa [Part.lasting, Part.plan, Part.setPlan, Part.setEngine] using this

theorem Ev.Led.plan_ne {f : EngineId} (hf : f ≠ e) : w.p.plan f = v.p.plan f := by
  have := congrArg (fun p : Part => p.plan f) h.2
  simpa [Part.lasting, Part.plan, Part.setPlan, Part.setEngine, hf] using this

theorem Ev.Led.wanted (f : EngineId) : (w.p.plan f).wanted = (v.p.plan f).wanted := by
  by_cases hf : f = e
  · rw [hf]
    exact (congrArg EnginePlan.wanted h.plan :)
  · rw [h.plan_ne hf]

theorem Ev.Led.held (f : EngineId) : (w.p.plan f).held = (v.p.plan f).held := by
  by_cases hf : f = e
  · rw [hf]
    exact (congrArg EnginePlan.held h.plan :)
  · rw [h.plan_ne hf]

theorem Ev.Led.engine : (w.p.engine e).lasting = (v.p.engine e).lasting := by
  have := congrArg (fun p : Part => p.engine e) h.2
  simpa [Part.lasting] using this

theorem Ev.Led.engine_ne {f : EngineId} (hf : f ≠ e) : w.p.engine f = v.p.engine f := by
  have := congrArg (fun p : Part => p.engine f) h.2
  simp only [Part.lasting, Part.engine_setEngine_ne _ _ _ _ hf] at this
  exact this

theorem Ev.Led.disp : w.p.disp = v.p.disp := (congrArg Part.disp h.2 :)
theorem Ev.Led.queue : w.p.queue = v.p.queue := (congrArg Part.queue h.2 :)
theorem Ev.Led.ring : w.p.ring = v.p.ring := (congrArg Part.ring h.2 :)
theorem Ev.Led.map : w.p.map = v.p.map := (congrArg Part.map h.2 :)
theorem Ev.Led.lock : w.p.lock = v.p.lock := (congrArg Part.lock h.2 :)
theorem Ev.Led.templates : w.p.templates = v.p.templates := (congrArg Part.templates h.2 :)
theorem Ev.Led.log : w.p.log = v.p.log := (congrArg Part.log h.2 :)
theorem Ev.Led.link : w.p.link = v.p.link := (congrArg Part.link h.2 :)
theorem Ev.Led.scanner : w.p.scanner = v.p.scanner := (congrArg Part.scanner h.2 :)
theorem Ev.Led.cards : w.p.relay.cards = v.p.relay.cards := (congrArg (fun p : Part => p.relay.cards) h.2 :)
theorem Ev.Led.relayLink : w.p.relay.link = v.p.relay.link := (congrArg (fun p : Part => p.relay.link) h.2 :)
theorem Ev.Led.allOpenPending : w.p.relay.allOpenPending = v.p.relay.allOpenPending :=
  (congrArg (fun p : Part => p.relay.allOpenPending) h.2 :)
theorem Ev.Led.time : w.p.time = v.p.time := (congrArg Part.time h.2 :)

end

/-! ### Turning off (R115, R120 to R125) -/

/-- An engine in no quiet phase turned off. -/
theorem Ev.turnOff_of_not_quiet {v : Ev} {e : EngineId} (h : (v.p.plan e).quiet = false) :
    v.turnOff e = ({ v with p := v.p.disarm e } : Ev).withEngine e (v.p.engine e).quietDown :=
  Ev.leaveQuiet_of_not_quiet (v := (v.onEngine e Engine.quietDown).map fun p => p.disarm e) h

theorem Engine.scanning_eq_false {g : Engine} {w : Work} (hw : g.work = some w) (hk : w.record.kind ≠ .scan) :
    g.scanning = false := by
  rw [Engine.scanning_of_work hw]
  exact decide_eq_false hk

/-- An engine in no quiet phase turned off with its sums discarded. -/
theorem Ev.turnOff_discard {v : Ev} {e : EngineId} (h : (v.p.plan e).quiet = false) :
    (v.turnOff e).onEngine e Engine.discardSums =
      ({ v with p := v.p.disarm e } : Ev).withEngine e (v.p.engine e).quietDown.discardSums := by
  rw [Ev.turnOff_of_not_quiet h, Ev.withEngine_onEngine]

/-- A compliance report with the stimulus on, outside RAMP (R115). -/
theorem Ev.complianceReported_open {v : Ev} {e : EngineId} (hs : (v.p.engine e).stimulus ≠ none)
    (hp : (v.p.engine e).phase ≠ some .ramp) : v.complianceReported e =
      if (v.p.engine e).scanning then ((v.turnOff e).onEngine e Engine.discardSums).testReport .openCircuit
      else ((v.turnOff e).onEngine e Engine.discardSums).afterOpen e := (if_neg hs).trans (if_neg hp)

/-! ### Alternates (R66) -/

/-- The candidates of a net that a re-plan may take in place of the nails used (R66). -/
def Part.alternates (p : Part) (e : EngineId) (net : Nat) (used : List Nat) : List Nat :=
  (p.candidates (some e) net).filter fun m => decide (m ∉ used)

section
variable (p : Part) (e : EngineId) (four : Bool) (source sense : Role) (net s k : Nat)

theorem Part.replanSide_eq : p.replanSide e four source sense net s k =
    match p.resolveSide e (p.plan e).wanted four source sense (p.alternates e net [s, k]) with
    | some pair => (pair, if s = k then [s] else [s, k])
    | none => ((s, k), []) := by
  have hfresh : (p.candidates (some e) net).filter (fun n => decide (n ≠ s) && decide (n ≠ k)) = p.alternates e net [s, k] :=
    List.filter_congr fun n _ => by simp [not_or]
  unfold Part.replanSide
  exact congrArg (fun l => match p.resolveSide e (p.plan e).wanted four source sense l with
    | some pair => (pair, if s = k then [s] else [s, k])
    | none => ((s, k), [])) hfresh

/-- A side without alternates keeps its nails. -/
theorem Part.replanSide_none (h : p.alternates e net [s, k] = []) :
    p.replanSide e four source sense net s k = ((s, k), []) := by
  rw [Part.replanSide_eq, h]
  rfl

/-- A side with alternates takes the best of them, and its nails are excluded. -/
theorem Part.replanSide_some (h : p.alternates e net [s, k] ≠ []) :
    ∃ m, p.best e (p.plan e).wanted source (p.alternates e net [s, k]) = some m ∧
      p.replanSide e four source sense net s k =
        ((m, p.senseNail e (p.plan e).wanted four sense m (p.alternates e net [s, k])), if s = k then [s] else [s, k]) := by
  obtain ⟨m, hm⟩ := Option.ne_none_iff_exists'.mp fun hn => h ((p.best_eq_none_iff e (p.plan e).wanted source _).mp hn)
  refine ⟨m, hm, ?_⟩
  rw [Part.replanSide_eq, Part.resolveSide_eq, hm]
  rfl

theorem Part.replanSide_excluded : (p.replanSide e four source sense net s k).2 =
    if p.alternates e net [s, k] = [] then [] else if s = k then [s] else [s, k] := by
  by_cases h : p.alternates e net [s, k] = []
  · rw [if_pos h, Part.replanSide_none _ _ _ _ _ _ _ _ h]
  · obtain ⟨m, -, hm⟩ := Part.replanSide_some p e four source sense net s k h
    rw [if_neg h, hm]

end

theorem Part.best_mem {p : Part} {e : EngineId} {mine : List Pair} {role : Role} {l : List Nat} {n : Nat}
    (h : p.best e mine role l = some n) : n ∈ l := ((p.best_eq_some_iff e mine role l n).mp h).1

/-- The sense nail is the source's own or a candidate. -/
theorem Part.senseNail_mem {p : Part} {e : EngineId} {mine : List Pair} {four : Bool} {sense : Role} {source : Nat}
    {cands : List Nat} (h : source ∈ cands) : p.senseNail e mine four sense source cands ∈ cands := by
  unfold Part.senseNail
  split
  · cases hb : p.best e mine sense (cands.filter fun m => decide (m ≠ source)) with
    | none => exact h
    | some k => exact (List.mem_filter.mp (Part.best_mem hb)).1
  · exact h

/-- The nails of a step once its sides are re-planned. -/
def Part.renailed (p : Part) (e : EngineId) (x : Entry) (n : Nails) : Nails :=
  let four := decide (x.record.kind = .res4)
  let high := (p.replanSide e four .sh .kh x.record.high n.sh n.kh).1
  let low := (p.replanSide e four .sl .kl x.record.low n.sl n.kl).1
  ⟨high.1, high.2, low.1, low.2, n.guards⟩

/-- The entry of a step once its sides are re-planned. -/
def Part.replannedEntry (p : Part) (e : EngineId) (x : Entry) (n : Nails) : Entry :=
  { x with
    nails := some (p.renailed e x n), retrying := true
    excluded := (if p.alternates e x.record.high [n.sh, n.kh] = [] then [] else if n.sh = n.kh then [n.sh] else [n.sh, n.kh]) ++
      (if p.alternates e x.record.low [n.sl, n.kl] = [] then [] else if n.sl = n.kl then [n.sl] else [n.sl, n.kl])
    twoWire := twoWireOf x.record.kind (p.renailed e x n) }

theorem Part.replanned_eq (p : Part) (e : EngineId) (x : Entry) (n : Nails) : p.replanned e x n =
    if p.alternates e x.record.high [n.sh, n.kh] = [] ∧ p.alternates e x.record.low [n.sl, n.kl] = [] then none
    else some (p.replannedEntry e x n) := by
  have hempty : ∀ (a b : Nat) (l : List Nat), (if l = [] then [] else if a = b then [a] else [a, b]) = [] ↔ l = [] := by
    intro a b l
    split
    · simp [*]
    · split <;> simp [*]
  unfold Part.replanned
  simp only [Part.replanSide_excluded, hempty]
  rfl

theorem twoWireOf_eq (k : StepKind) (n : Nails) : twoWireOf k n = decide (k = .res4 ∧ (n.kh = n.sh ∨ n.kl = n.sl)) := by
  rw [twoWireOf, Bool.decide_and, Bool.decide_or]

/-! ### The Dispatcher's answer, and the engine's (R66, R119) -/

section
variable {p : Part} {e : EngineId}

theorem Ev.replanAsked_ignored {v : Ev} (h : (v.p.engine e).replan ≠ .requested) : v.replanAsked e = v := if_neg h

theorem Ev.replanAsked_declined {x : Entry} {n : Nails} (hr : (p.engine e).replan = .requested)
    (hx : p.disp.inFlight.get e = some x) (hn : x.nails = some n)
    (h : p.disp.seq = .stopping ∨ p.alternates e x.record.high [n.sh, n.kh] = [] ∧ p.alternates e x.record.low [n.sl, n.kl] = []) :
    (Ev.start p).replanAsked e = (Ev.start p).withEngine e { p.engine e with replan := .declined } := by
  refine (if_pos hr).trans ?_
  rw [show (Ev.start p).p.disp.inFlight.get e = some x from hx]
  dsimp only
  rw [hn]
  dsimp only
  split
  · rfl
  · next hseq =>
      have hreplanned : (Ev.start p).p.replanned e x n = none := (p.replanned_eq e x n).trans (if_pos (h.resolve_left hseq))
      rw [hreplanned]
      rfl

/-- The event of a re-plan as its plan is sent and its engine told, before connection ready is judged. -/
def Ev.replanSent (p : Part) (e : EngineId) (y : Entry) (plan : List Pair) : Ev :=
  ((Ev.start (p.setEntry e (some y))).sendPlan e plan).1.onEngine e fun g => { g with replan := .replanned }

theorem Ev.replanAsked_accepted {x : Entry} {n : Nails} (hr : (p.engine e).replan = .requested)
    (hx : p.disp.inFlight.get e = some x) (hn : x.nails = some n) (hseq : p.disp.seq ≠ .stopping)
    (h : ¬ (p.alternates e x.record.high [n.sh, n.kh] = [] ∧ p.alternates e x.record.low [n.sl, n.kl] = [])) :
    (Ev.start p).replanAsked e =
      (Ev.replanSent p e (p.replannedEntry e x n) (p.renailed e x n).pairs).judgeReady e := by
  have hreplanned : (Ev.start p).p.replanned e x n = some (p.replannedEntry e x n) :=
    (p.replanned_eq e x n).trans (if_neg h)
  refine (if_pos hr).trans ?_
  rw [show (Ev.start p).p.disp.inFlight.get e = some x from hx]
  dsimp only
  rw [hn]
  dsimp only
  refine (if_neg hseq).trans ?_
  rw [hreplanned]
  rfl

theorem Ev.replanTaken_ignored {v : Ev} (h : (v.p.engine e).replan = .none ∨ (v.p.engine e).replan = .requested) :
    v.replanTaken e = v := by
  unfold Ev.replanTaken
  rcases h with h | h <;> rw [h]

end

/-- Settles O47. -/
theorem replansTakeAlternatesOrDecline : Obligations.ReplansTakeAlternatesOrDecline := by
  intro s e p g
  refine ⟨fun w hw hk hs hp hflag hretry hq => ?_, fun h => event_same (Ev.replanAsked_ignored h),
    fun h => event_same (Ev.replanTaken_ignored h), fun hr x n hx hn hk => ?_, fun hr x hx => ?_⟩
  · have hscan : ((Ev.start p).p.engine e).scanning = false := Engine.scanning_eq_false hw hk
    have hact := Ev.complianceReported_open (v := Ev.start p) hs hp
    rw [hscan, Ev.turnOff_discard hq] at hact
    exact event_engine (hact.trans (Ev.afterOpen_retries (g := g.quietDown.discardSums) hw hk hflag hretry))
  · intro alternates high low
    refine ⟨fun h => event_engine (Ev.replanAsked_declined hr hx hn h), fun hseq h => ?_⟩
    have hsome : ¬ (p.alternates e x.record.high [n.sh, n.kh] = [] ∧ p.alternates e x.record.low [n.sl, n.kl] = []) :=
      not_and_or.mpr h
    have hact := Ev.replanAsked_accepted hr hx hn hseq hsome
    have hled := Ev.judgeReady_led (Ev.replanSent p e (p.replannedEntry e x n) (p.renailed e x n).pairs) e
    refine ⟨_, p.replannedEntry e x n, p.renailed e x n, event_map (hact.trans hled.1), hled.disp, ?_, ?_, ?_, rfl, ?_⟩
    · exact (hled.wanted e).trans (Ev.sendPlan_wanted _ e _)
    · have := congrArg Engine.replan hled.engine
      exact this.trans (congrArg Engine.replan (Part.engine_setEngine_same _ e _))
    · rw [← twoWireOf_eq]
      rfl
    · intro best sense
      have hsense : ∀ role source nails, sense role source nails =
          p.senseNail e (p.plan e).wanted (decide (x.record.kind = .res4)) role source nails := fun role source nails => by
        simp only [Part.senseNail, decide_eq_true_eq]
        rfl
      refine ⟨fun hh => ?_, fun hh => ?_, fun hl => ?_, fun hl => ?_⟩
      · have := Part.replanSide_none p e (decide (x.record.kind = .res4)) .sh .kh x.record.high n.sh n.kh hh
        exact ⟨congrArg (fun y => y.1.1) this, congrArg (fun y => y.1.2) this⟩
      · obtain ⟨m, hm, hside⟩ := Part.replanSide_some p e (decide (x.record.kind = .res4)) .sh .kh x.record.high n.sh n.kh hh
        have hsh : (p.renailed e x n).sh = m := congrArg (fun y => y.1.1) hside
        have hkh : (p.renailed e x n).kh = _ := congrArg (fun y => y.1.2) hside
        rw [hsh, hkh, hsense]
        exact ⟨hm, rfl, Part.best_mem hm, Part.senseNail_mem (Part.best_mem hm)⟩
      · have := Part.replanSide_none p e (decide (x.record.kind = .res4)) .sl .kl x.record.low n.sl n.kl hl
        exact ⟨congrArg (fun y => y.1.1) this, congrArg (fun y => y.1.2) this⟩
      · obtain ⟨m, hm, hside⟩ := Part.replanSide_some p e (decide (x.record.kind = .res4)) .sl .kl x.record.low n.sl n.kl hl
        have hsl : (p.renailed e x n).sl = m := congrArg (fun y => y.1.1) hside
        have hkl : (p.renailed e x n).kl = _ := congrArg (fun y => y.1.2) hside
        rw [hsl, hkl, hsense]
        exact ⟨hm, rfl, Part.best_mem hm, Part.senseNail_mem (Part.best_mem hm)⟩
  · refine event_engine (q := p) ?_
    have hr' : ((Ev.start s.part).p.engine e).replan = .replanned := hr
    have hx' : (Ev.start s.part).p.disp.inFlight.get e = some x := hx
    unfold Ev.replanTaken
    rw [hr', hx']
    rfl

/-! ### Dispatch (R64, R130) -/

/-- The effective current of an entry, and whether the TENDER cap lowered it (R131); a SCAN step keeps its own. -/
def Part.entryCurrent (p : Part) (x : Entry) : Nat × Bool :=
  if x.record.kind = .scan then (x.record.current, false)
  else p.effectiveCurrent x.record.current (x.record.high :: x.record.low :: x.guardNets)

/-- What an engine is given to work on. -/
def Entry.work (x : Entry) : Work := ⟨x.origin, x.record, x.nails, x.twoWire, x.guardTrimmed⟩

/-- The part as an entry begins, before its engine takes it: the reservation, the claims and the slot (R64). -/
def Part.claimed (p : Part) (e : EngineId) (x : Entry) : Part :=
  { p with
    queue := { p.queue with reserved := p.queue.reserved + 1 }
    disp := { p.disp with inFlight := p.disp.inFlight.set e (some x) }
    ring := match x.origin with
      | some i => (p.ring.setState i .active).advanceNext
      | none => p.ring }

theorem Part.beginStep_eq (p : Part) (e : EngineId) (x : Entry) : p.beginStep e x =
    (p.claimed e x).setEngine e ((p.engine e).take x.work (p.entryCurrent x).1 (p.entryCurrent x).2) := by
  unfold Part.beginStep Part.claimed Part.entryCurrent
  dsimp only
  cases horigin : x.origin with
  | none => rw [Entry.work, horigin]; rfl
  | some i => rw [Entry.work, horigin]; rfl

/-- The event of a dispatch as its plan is sent and its engine told, before connection ready is judged. -/
def Ev.planSent (v : Ev) (e : EngineId) (x : Entry) (plan : List Pair) : Ev :=
  let sent := (v.map fun p => p.beginStep e x).sendPlan e plan
  sent.1.onEngine e fun g => { g with reuseMark := decide (1 ≤ sent.2) }

theorem Ev.dispatch_resolved {v : Ev} {e : EngineId} {r : StepRecord} {n : Nails} (hk : r.kind ≠ .scan)
    (hn : v.p.resolve e r = some n) (origin : Option Nat) :
    v.dispatch e origin r = (v.planSent e (v.p.entryOf origin r (some n)) n.pairs).judgeReady e := by
  unfold Ev.dispatch
  rw [if_neg hk, hn]
  rfl

theorem Part.entryOf_measurement (p : Part) {r : StepRecord} (hk : r.kind ≠ .scan) (origin : Option Nat) (n : Nails) :
    let trimmed := (p.templateNets r).filter fun m => decide (m ≠ r.high ∧ m ≠ r.low)
    p.entryOf origin r (some n) = ⟨origin, r, r.high :: r.low :: p.templateNets r, trimmed, some n,
      decide (r.kind = .res4 ∧ (n.kh = n.sh ∨ n.kl = n.sl)), decide (trimmed.length ≠ (p.templateNets r).length),
      false, [], some n⟩ := by
  intro trimmed
  have htrimmed : p.trimmedGuards r = trimmed := List.filter_congr fun m _ => (Bool.decide_and _ _).symm
  unfold Part.entryOf Part.netSet
  rw [if_neg hk, if_neg hk, htrimmed, ← twoWireOf_eq]
  rfl

/-- The engine of a dispatch, but for what connection ready may set. -/
theorem Ev.planSent_engine (v : Ev) (e : EngineId) (x : Entry) (plan : List Pair) :
    ∃ reuse, (v.planSent e x plan).p.engine e =
      { (v.p.engine e).take x.work (v.p.entryCurrent x).1 (v.p.entryCurrent x).2 with reuseMark := reuse } := by
  unfold Ev.planSent
  dsimp only
  rw [Ev.onEngine_p, Part.engine_setEngine_same]
  generalize ((v.map fun p => p.beginStep e x).sendPlan e plan).2 = k
  refine ⟨decide (1 ≤ k), ?_⟩
  have hbegun : ((v.map fun p => p.beginStep e x).sendPlan e plan).1.p.engine e = (v.p.beginStep e x).engine e := rfl
  rw [hbegun, Part.beginStep_eq, Part.engine_setEngine_same]

theorem Ev.planSent_engine_ne (v : Ev) {e f : EngineId} (hf : f ≠ e) (x : Entry) (plan : List Pair) :
    (v.planSent e x plan).p.engine f = v.p.engine f := by
  unfold Ev.planSent
  dsimp only
  rw [Ev.onEngine_p, Part.engine_setEngine_ne _ _ _ _ hf]
  have hbegun : ((v.map fun p => p.beginStep e x).sendPlan e plan).1.p.engine f = (v.p.beginStep e x).engine f := rfl
  rw [hbegun, Part.beginStep_eq, Part.engine_setEngine_ne _ _ _ _ hf]
  rfl

/-- Everything but the plan and the engine is as the entry began. -/
theorem Ev.planSent_rest (v : Ev) (e : EngineId) (x : Entry) (plan : List Pair) :
    (v.planSent e x plan).p = { v.p.claimed e x with
      relay := (v.planSent e x plan).p.relay, engines := (v.planSent e x plan).p.engines } := by
  unfold Ev.planSent
  dsimp only
  rw [Ev.onEngine_p, Ev.sendPlan_eq]
  simp only [Ev.map_p, Part.beginStep_eq]
  rfl

section
variable (v : Ev) (e : EngineId) (x : Entry) (plan : List Pair)

theorem Ev.planSent_plan (f : EngineId) :
    (v.planSent e x plan).p.plan f = ((v.map fun p => p.beginStep e x).sendPlan e plan).1.p.plan f := rfl

theorem Ev.begun_plan (f : EngineId) : (v.map fun p => p.beginStep e x).p.plan f = v.p.plan f := by
  rw [Ev.map_p, Part.beginStep_eq]
  rfl

end

/-- Settles O29. -/
theorem dispatchReservesClaimsAndStarts : Obligations.DispatchReservesClaimsAndStarts := by
  intro v e origin r n hk hn p t nets trimmed tender lowered g
  have hentry := p.entryOf_measurement hk origin n
  have hled := Ev.judgeReady_led (v.planSent e (p.entryOf origin r (some n)) n.pairs) e
  rw [← Ev.dispatch_resolved hk hn origin] at hled
  have hrest := v.planSent_rest e (p.entryOf origin r (some n)) n.pairs
  obtain ⟨reuse, hengine⟩ := v.planSent_engine e (p.entryOf origin r (some n)) n.pairs
  have hg : g.lasting = _ := hled.engine.trans (congrArg Engine.lasting hengine)
  rw [hentry] at hg
  have hring : t.ring = (p.claimed e (p.entryOf origin r (some n))).ring := hled.ring.trans (congrArg Part.ring hrest :)
  have hcurrent : p.effectiveCurrent r.current (r.high :: r.low :: trimmed) = (if lowered then 2 else r.current, decide lowered) := by
    unfold Part.effectiveCurrent
    by_cases h : lowered
    · rw [if_pos h, if_pos h, decide_eq_true h]
    · rw [if_neg h, if_neg h, decide_eq_false h]
  have hgiven : p.entryCurrent (p.entryOf origin r (some n)) = (if lowered then 2 else r.current, decide lowered) := by
    rw [hentry, Part.entryCurrent, if_neg hk]
    exact hcurrent
  rw [hentry] at hgiven
  refine ⟨hled.queue.trans (congrArg Part.queue hrest :), (hled.disp.trans (congrArg Part.disp hrest :)).trans ?_,
    fun ho => hring.trans ?_, fun i ho => hring.trans ?_, ?_, fun f hf => ?_, ?_, ?_, fun f hf => ⟨?_, ?_⟩,
    hled.map.trans (congrArg Part.map hrest :), hled.lock.trans (congrArg Part.lock hrest :),
    hled.templates.trans (congrArg Part.templates hrest :), hled.log.trans (congrArg Part.log hrest :),
    hled.link.trans (congrArg Part.link hrest :), hled.scanner.trans (congrArg Part.scanner hrest :),
    hled.time.trans (congrArg Part.time hrest :)⟩
  · rw [hentry]
    rfl
  · subst ho
    rfl
  · subst ho
    rfl
  · refine ⟨(congrArg Engine.state hg :), (congrArg Engine.effCurrent hg :).trans (congrArg Prod.fst hgiven),
      (congrArg Engine.clamped hg :).trans (congrArg Prod.snd hgiven), (congrArg Engine.n hg :), (congrArg Engine.settle hg :),
      (congrArg Engine.discharge hg :), (congrArg Engine.retry hg :), (congrArg Engine.clip hg :), (congrArg Engine.work hg :)⟩
  · exact (hled.engine_ne hf).trans (v.planSent_engine_ne hf _ _)
  · rw [hled.wanted, Ev.planSent_plan]
    exact Ev.sendPlan_wanted _ e n.pairs
  · rw [hled.held, Ev.planSent_plan, Ev.sendPlan_held, Ev.begun_plan]
  · rw [hled.wanted, Ev.planSent_plan, Ev.sendPlan_other _ _ _ hf, Ev.begun_plan]
    rfl
  · rw [hled.held, Ev.planSent_plan, Ev.sendPlan_other _ _ _ hf, Ev.begun_plan]
    intro x hx
    simpa using (List.mem_filter.mp hx).2

end Sys2Proof.Machine

/-! PROOFS. The Shorts Scanner's list, its runs and what a test's report leaves (R143 to R154). -/

namespace Sys2Proof.Machine

/-! ### The scan list (R143) -/

theorem Part.mem_scanNets {p : Part} (h : tableWf NetAttrs.unlisted p.map.attrs = true) (a b n : Nat) :
    n ∈ p.scanNets a b ↔ a ≤ n ∧ n ≤ b ∧ (p.attrs n).scan = true := by
  simp only [Part.scanNets, List.mem_map, List.mem_filter, Bool.and_eq_true, decide_eq_true_eq]
  constructor
  · rintro ⟨⟨m, x⟩, ⟨hx, ⟨hscan, ha⟩, hb⟩, rfl⟩
    have hne : x ≠ NetAttrs.unlisted := by rintro rfl; cases hscan
    exact ⟨ha, hb, by rw [Part.attrs, (mem_iff_lookup hne h).mp hx]; exact hscan⟩
  · rintro ⟨ha, hb, hscan⟩
    have hne : p.attrs n ≠ NetAttrs.unlisted := by intro heq; rw [heq] at hscan; cases hscan
    exact ⟨(n, p.attrs n), ⟨(mem_iff_lookup hne h).mpr rfl, ⟨hscan, ha⟩, hb⟩, rfl⟩

theorem Part.scanNets_rise {p : Part} (h : tableWf NetAttrs.unlisted p.map.attrs = true) (a b : Nat) :
    (p.scanNets a b).Pairwise (· < ·) := (tableFrom_keys h).1.sublist (List.filter_sublist.map _)

theorem Part.netUsable_iff (p : Part) (net : Nat) : p.netUsable net = true ↔
    ∃ m ∈ p.nailsOf net, (p.nail m).condition ≠ .disabled ∧ (p.card (m / 64)).status = .ready := by
  simp only [Part.netUsable, Part.usable, List.any_eq_true, Bool.and_eq_true, decide_eq_true_eq]
  rfl

theorem Part.scanList_nets (p : Part) (r : StepRecord) :
    (p.scanList r).map (·.net) = (p.scanNets r.high r.low).filter p.netUsable := by
  rw [Part.scanList, List.map_map]
  exact List.map_id _

/-! ### Runs and their halves (R144, R153) -/

/-- A rising list parted at its entry of a position. -/
theorem filter_le_of_getElem? {l : List Nat} (h : l.Pairwise (· < ·)) {k c : Nat} (hk : l[k]? = some c) :
    l.filter (fun n => decide (n ≤ c)) = l.take (k + 1) ∧ l.filter (fun n => decide (c < n)) = l.drop (k + 1) := by
  induction l generalizing k with
  | nil => cases hk
  | cons a rest ih =>
    obtain ⟨ha, hrest⟩ := List.pairwise_cons.mp h
    cases k with
    | zero =>
      obtain rfl : a = c := Option.some.inj hk
      have hnone : rest.filter (fun n => decide (n ≤ a)) = [] :=
        List.filter_eq_nil_iff.mpr fun n hn => by have := ha n hn; simp only [decide_eq_true_eq]; omega
      have hall : rest.filter (fun n => decide (a < n)) = rest :=
        List.filter_eq_self.mpr fun n hn => decide_eq_true (ha n hn)
      rw [List.filter_cons_of_pos (by simp), List.filter_cons_of_neg (by simp), hnone, hall]
      exact ⟨rfl, rfl⟩
    | succ k =>
      have hc : c ∈ rest := List.mem_of_getElem? hk
      have hac := ha c hc
      obtain ⟨h1, h2⟩ := ih hrest hk
      rw [List.filter_cons_of_pos (by simp; omega), List.filter_cons_of_neg (by simp; omega), h1, h2]
      exact ⟨rfl, rfl⟩

theorem Scanner.mem_run (s : Scanner) (first last i : Nat) :
    i ∈ s.run first last ↔ first ≤ i ∧ i ≤ last ∧ s.untested i = true := by
  simp only [Scanner.run, List.mem_filter, List.mem_map, List.mem_range]
  constructor
  · rintro ⟨⟨k, hk, rfl⟩, hu⟩
    exact ⟨by omega, by omega, hu⟩
  · rintro ⟨h1, h2, hu⟩
    exact ⟨⟨i - first, by omega, by omega⟩, hu⟩

theorem Scanner.run_rise (s : Scanner) (first last : Nat) : (s.run first last).Pairwise (· < ·) := by
  have hrange : ((List.range (last + 1 - first)).map fun k => first + k).Pairwise (· < ·) :=
    List.pairwise_map.mpr (List.pairwise_lt_range.imp fun h => by omega)
  exact hrange.sublist List.filter_sublist

theorem Scanner.run_eq_nil_iff (s : Scanner) (first last : Nat) :
    s.run first last = [] ↔ ∀ i, first ≤ i → i ≤ last → s.untested i = false := by
  simp only [List.eq_nil_iff_forall_not_mem, Scanner.mem_run, not_and, Bool.not_eq_true]

/-- A run cut at one of its members. -/
theorem Scanner.run_cut (s : Scanner) {first last cut : Nat} (h : cut ∈ s.run first last) :
    s.run first cut = (s.run first last).filter (fun n => decide (n ≤ cut)) ∧
      s.run (cut + 1) last = (s.run first last).filter (fun n => decide (cut < n)) := by
  obtain ⟨h1, h2, -⟩ := (s.mem_run first last cut).mp h
  refine ⟨List.Pairwise.eq_of_mem_iff (s.run_rise _ _) ((s.run_rise _ _).sublist List.filter_sublist) fun i => ?_,
    List.Pairwise.eq_of_mem_iff (s.run_rise _ _) ((s.run_rise _ _).sublist List.filter_sublist) fun i => ?_⟩
  · simp only [List.mem_filter, Scanner.mem_run, decide_eq_true_eq]
    constructor
    · rintro ⟨a, b, c⟩; exact ⟨⟨a, by omega, c⟩, b⟩
    · rintro ⟨⟨a, b, c⟩, d⟩; exact ⟨a, d, c⟩
  · simp only [List.mem_filter, Scanner.mem_run, decide_eq_true_eq]
    constructor
    · rintro ⟨a, b, c⟩; exact ⟨⟨by omega, b, c⟩, by omega⟩
    · rintro ⟨⟨a, b, c⟩, d⟩; exact ⟨by omega, b, c⟩

/-- A KNOWN_SHORT run of more than one member is split (R153). -/
theorem Ev.takeKnownShort_split {v : Ev} {entry : StackEntry} {cut : Nat}
    (hlen : 2 ≤ (v.p.scanner.run entry.first entry.last).length)
    (hcut : (v.p.scanner.run entry.first entry.last)[((v.p.scanner.run entry.first entry.last).length + 1) / 2 - 1]? = some cut)
    (x : Evidence) :
    v.takeKnownShort entry x = (v.startTest (.lower { entry with evidence := some x }) entry.first cut, false) := by
  unfold Ev.takeKnownShort
  split
  next h => simp [h] at hlen
  next g h => simp [h] at hlen
  next =>
    dsimp only
    rw [List.getD_eq_getElem?_getD, hcut]
    rfl

/-! ### Reports (R149, R151, R154) -/

/-- The resistance a report is judged by (R142, R149). -/
def TestReport.ohms (r : StepRecord) (effCurrent : Nat) : TestReport → Option Int
  | .openCircuit => none
  | .sampled sum n clip => formScanTest r effCurrent sum n clip

/-- A test is short exactly when its resistance lies below the threshold (R149). -/
theorem TestReport.evidence_eq (report : TestReport) (r : StepRecord) (effCurrent : Nat) (lowered : Bool) :
    report.evidence r effCurrent lowered =
      (report.ohms r effCurrent).bind fun x => if x < (r.threshold : Int) then some ⟨x, lowered⟩ else none := by
  cases report with
  | openCircuit => rfl
  | sampled sum n clip =>
    simp only [TestReport.evidence, TestReport.ohms]
    cases formScanTest r effCurrent sum n clip <;> rfl

/-- An event whose test is over, with the stack given. -/
def Ev.tested (v : Ev) (stack : List StackEntry) : Ev :=
  v.onScanner fun s => { s with test := none, tests := s.tests + 1, stack := stack }

/-- What follows a report by the test's purpose, the evidence given. -/
def Ev.judged (v : Ev) (test : ScanTest) (found : Option Evidence) : Ev :=
  match test.purpose, found with
  | .probe, some x => (v.tested (⟨test.first, test.last, some x⟩ :: v.p.scanner.stack)).nextWork
  | .probe, none => (v.tested v.p.scanner.stack).nextWork
  | .lower entry, some x =>
    (v.tested (⟨entry.first, test.last, some x⟩ :: ⟨test.last + 1, entry.last, none⟩ :: v.p.scanner.stack)).nextWork
  | .lower entry, none => (v.tested (⟨test.last + 1, entry.last, entry.evidence⟩ :: v.p.scanner.stack)).nextWork
  | .unknownEntry entry, some x =>
    let taken := (v.tested v.p.scanner.stack).takeKnownShort entry x
    if taken.2 then taken.1.nextWork else taken.1
  | .unknownEntry _, none => (v.tested v.p.scanner.stack).nextWork

theorem Ev.testReport_eq {v : Ev} {info : ScanInfo} {test : ScanTest} (hs : v.p.scanner.scan = some info)
    (ht : v.p.scanner.test = some test) (report : TestReport) : v.testReport report =
      v.judged test (report.evidence info.record (v.p.engine info.engine).effCurrent test.lowered) := by
  unfold Ev.testReport
  dsimp only
  rw [hs, ht]
  dsimp only
  generalize report.evidence info.record (v.p.engine info.engine).effCurrent test.lowered = found
  unfold Ev.judged
  cases test.purpose with
  | probe => cases found <;> rfl
  | lower entry => cases found <;> rfl
  | unknownEntry entry => cases found <;> rfl

/-! ### The next probe (R145) -/

theorem Scanner.untested_of_length_le {s : Scanner} {i : Nat} (h : s.members.length ≤ i) : s.untested i = false := by
  unfold Scanner.untested
  rw [List.getElem?_eq_none h]

/-- Marking a member leaves whether another is UNTESTED. -/
theorem Scanner.untested_mark_ne (s : Scanner) {i j : Nat} (h : i ≠ j) (st : MemberState) :
    (s.mark i st).untested j = s.untested j := by
  unfold Scanner.untested Scanner.mark
  rw [List.getElem?_modify]
  simp [h]

/-- A Scanner with an empty stack and no UNTESTED member ends its scan. -/
theorem Ev.nextWork_of_none_untested {v : Ev} (hstack : v.p.scanner.stack = [])
    (h : ∀ i, v.p.scanner.untested i = false) : v.nextWork = v.endScanNormally := by
  have hnone : (List.range v.p.scanner.members.length).find? v.p.scanner.untested = none :=
    List.find?_range_eq_none.mpr fun i _ => by rw [h i]; rfl
  unfold Ev.nextWork
  rw [hstack]
  unfold Ev.nextWorkAux
  dsimp only
  rw [hstack]
  dsimp only
  rw [hnone]

/-- A Scanner with an empty stack takes the lowest UNTESTED member as its probe. -/
theorem Ev.nextWork_of_probe {v : Ev} {i : Nat} (hstack : v.p.scanner.stack = []) (hi : v.p.scanner.untested i = true)
    (hlow : ∀ j, j < i → v.p.scanner.untested j = false) :
    let probing := v.onScanner fun s => { s.mark i .probed with probe := some i }
    let last := v.p.scanner.members.length - 1
    v.nextWork = if probing.p.scanner.run (i + 1) last = [] then probing.endScanNormally
      else probing.startTest .probe (i + 1) last := by
  intro probing last
  have hlen : i < v.p.scanner.members.length := by
    by_contra h
    rw [Scanner.untested_of_length_le (not_lt.mp h)] at hi
    cases hi
  have hsome : (List.range v.p.scanner.members.length).find? v.p.scanner.untested = some i :=
    List.find?_range_eq_some.mpr ⟨hi, List.mem_range.mpr hlen, fun j hj => by rw [hlow j hj]; rfl⟩
  unfold Ev.nextWork
  rw [hstack]
  unfold Ev.nextWorkAux
  dsimp only
  rw [hstack]
  dsimp only
  rw [hsome]

/-- Settles O51. -/
theorem scansProbeAndBisectTheirList : Obligations.ScansProbeAndBisectTheirList := by
  refine ⟨fun p r h => ?_, fun s first last => ?_, fun v info test report hs ht => ?_, fun v hstack => ?_⟩
  · intro nets
    have hnets : nets = (p.scanNets r.high r.low).filter p.netUsable := p.scanList_nets r
    rw [hnets]
    refine ⟨fun n => ?_, (Part.scanNets_rise h _ _).sublist List.filter_sublist, fun x hx => ?_⟩
    · rw [List.mem_filter, Part.mem_scanNets h, Part.netUsable_iff]
      tauto
    · obtain ⟨n, -, rfl⟩ := List.mem_map.mp hx
      rfl
  · intro run half
    refine ⟨s.mem_run first last, s.run_rise first last, fun cut hlen hcut => ?_⟩
    have hhalf : half - 1 + 1 = half := by omega
    obtain ⟨hlow, hhigh⟩ := s.run_cut (List.mem_of_getElem? hcut)
    obtain ⟨htake, hdrop⟩ := filter_le_of_getElem? (s.run_rise first last) hcut
    rw [hhalf] at htake hdrop
    refine ⟨hlow.trans htake, hhigh.trans hdrop, fun v x old hv => ?_⟩
    subst hv
    exact Ev.takeKnownShort_split (entry := ⟨first, last, old⟩) hlen hcut x
  · intro old left ohms short
    have hohms : ohms = report.ohms info.record (v.p.engine info.engine).effCurrent := by cases report <;> rfl
    have hreport := Ev.testReport_eq hs ht report
    rw [report.evidence_eq, ← hohms] at hreport
    refine ⟨fun hno => ?_, fun x hx hlt => ?_⟩
    · have hnone : (ohms.bind fun x => if x < (info.record.threshold : Int) then some (⟨x, test.lowered⟩ : Evidence) else none) = none := by
        rw [Option.bind_eq_none_iff]
        exact fun x hx => if_neg fun hlt => hno ⟨x, hx, hlt⟩
      rw [hreport, hnone]
      refine ⟨fun hp => ?_, fun entry hp => ?_, fun entry hp => ?_⟩ <;> (unfold Ev.judged; rw [hp]; rfl)
    · rw [hreport, hx, Option.bind_some, if_pos hlt]
      refine ⟨fun hp => ?_, fun entry hp => ?_, fun entry hp => ?_⟩ <;> (unfold Ev.judged; rw [hp]; rfl)
  · intro s
    refine ⟨Ev.nextWork_of_none_untested hstack, fun i hi hlow => ?_⟩
    intro probing
    have hnext := Ev.nextWork_of_probe hstack hi hlow
    have hother : ∀ j, i < j → probing.p.scanner.untested j = s.untested j := fun j hj =>
      s.untested_mark_ne (Nat.ne_of_lt hj) .probed
    refine ⟨fun hnone => hnext.trans (if_pos ?_), fun j hj hu => hnext.trans (if_neg fun hnil => ?_)⟩
    · exact (Scanner.run_eq_nil_iff _ _ _).mpr fun j hj _ => (hother j hj).trans (hnone j hj)
    · have hlt : j < s.members.length := by
        by_contra h
        rw [Scanner.untested_of_length_le (not_lt.mp h)] at hu
        cases hu
      have hmarked : probing.p.scanner.untested j = false :=
        (Scanner.run_eq_nil_iff _ _ _).mp hnil j hj (Nat.le_sub_one_of_lt hlt)
      cases hu.symm.trans ((hother j hj).symm.trans hmarked)

end Sys2Proof.Machine

/-! PROOFS. The Relay Sequencer: updates in two stages (R79, R80, R83), the card link (R82, R85), the end of motion and of a
hold (R73, R90), enumeration and ALL_OPEN (R74, R93), and connection ready (R87). -/

namespace Sys2Proof.Machine

/-! ### The next update (R79, R80) -/

/-- The relays that are, or are about to be, closed of one nail are of one group. -/
def OneGroup (closed : List Pair) : Prop := ∀ a ∈ closed, ∀ b ∈ closed, a.nail = b.nail → a.role.group = b.role.group

theorem OneGroup.subset {l m : List Pair} (h : OneGroup l) (hsub : ∀ a ∈ m, a ∈ l) : OneGroup m :=
  fun a ha b hb => h a (hsub a ha) b (hsub b hb)

theorem changesEngine_iff (present target : Image) : changesEngine present target = true ↔
    ∃ f e, present.connection = some f ∧ target.connection = some e ∧ f ≠ e := by
  unfold changesEngine
  cases present.connection <;> cases target.connection <;> simp

theorem regroups_iff (present target : Image) : regroups present target = true ↔
    ∃ a ∈ present.closed, ∃ b ∈ target.closed, a.nail = b.nail ∧ a.role.group ≠ b.role.group := by
  simp [regroups]

theorem nextUpdate_final {present target : Image} (hc : changesEngine present target = false)
    (hr : regroups present target = false) : nextUpdate present target = (target, .final) := by
  unfold nextUpdate
  rw [hc, hr]
  rfl

theorem nextUpdate_changes {present target : Image} (hc : changesEngine present target = true) :
    nextUpdate present target = (.released, .stageA) := by
  unfold nextUpdate
  rw [hc]
  rfl

theorem nextUpdate_regroups {present target : Image} (hc : changesEngine present target = false)
    (hr : regroups present target = true) : nextUpdate present target =
      (⟨present.connection, present.closed.filter fun x => decide (x ∈ target.closed)⟩, .stageA) := by
  unfold nextUpdate
  rw [hc, hr]
  rfl

/-- What is closed by the next update is closed in the target. -/
theorem nextUpdate_closed (present target : Image) : ∀ a ∈ (nextUpdate present target).1.closed, a ∈ target.closed := by
  cases hc : changesEngine present target with
  | true => rw [nextUpdate_changes hc]; exact fun a ha => absurd ha List.not_mem_nil
  | false => cases hr : regroups present target with
    | true =>
      rw [nextUpdate_regroups hc hr]
      exact fun a ha => of_decide_eq_true (List.mem_filter.mp ha).2
    | false => rw [nextUpdate_final hc hr]; exact fun a ha => ha

/-- The next update never joins a card to another engine than it is connected to. -/
theorem nextUpdate_connection (present target : Image) : (nextUpdate present target).1.connection = none ∨
    (nextUpdate present target).1.connection = present.connection ∨ present.connection = none := by
  cases hc : changesEngine present target with
  | true => rw [nextUpdate_changes hc]; exact .inl rfl
  | false => cases hr : regroups present target with
    | true => rw [nextUpdate_regroups hc hr]; exact .inr (.inl rfl)
    | false =>
      rw [nextUpdate_final hc hr]
      cases hp : present.connection with
      | none => exact .inr (.inr rfl)
      | some f => cases ht : target.connection with
        | none => exact .inl rfl
        | some e =>
          by_contra h
          have hne : f ≠ e := fun he => h (.inr (.inl (congrArg some he.symm)))
          rw [(changesEngine_iff present target).mpr ⟨f, e, hp, ht, hne⟩] at hc
          cases hc

/-- An update that leaves a card unconnected closes nothing, where present and target do not either. -/
theorem nextUpdate_unconnected {present target : Image} (hp : present.connection = none → present.closed = [])
    (ht : target.connection = none → target.closed = []) (h : (nextUpdate present target).1.connection = none) :
    (nextUpdate present target).1.closed = [] := by
  cases hc : changesEngine present target with
  | true => rw [nextUpdate_changes hc]; rfl
  | false => cases hr : regroups present target with
    | true =>
      rw [nextUpdate_regroups hc hr] at h ⊢
      have hnil := hp h
      simp [hnil]
    | false =>
      rw [nextUpdate_final hc hr] at h ⊢
      exact ht h

/-- Stage A only opens, and the target follows it. -/
theorem nextUpdate_stageA {present target : Image} (htarget : OneGroup target.closed)
    (h : changesEngine present target = true ∨ regroups present target = true) :
    let image := (nextUpdate present target).1
    (nextUpdate present target).2 = .stageA ∧ (∀ a ∈ image.closed, a ∈ present.closed ∧ a ∈ target.closed) ∧
      (image.connection = none ∨ image.connection = present.connection) ∧ nextUpdate image target = (target, .final) := by
  intro image
  cases hc : changesEngine present target with
  | true =>
    have himage : image = .released := congrArg Prod.fst (nextUpdate_changes hc)
    rw [himage]
    exact ⟨congrArg Prod.snd (nextUpdate_changes hc), fun a ha => absurd ha List.not_mem_nil, .inl rfl, nextUpdate_final rfl rfl⟩
  | false =>
    have hr : regroups present target = true := h.resolve_left (by simp [hc])
    have himage : image = ⟨present.connection, present.closed.filter fun x => decide (x ∈ target.closed)⟩ :=
      congrArg Prod.fst (nextUpdate_regroups hc hr)
    rw [himage]
    refine ⟨congrArg Prod.snd (nextUpdate_regroups hc hr), fun a ha => ?_, .inr rfl, nextUpdate_final hc ?_⟩
    · exact ⟨(List.mem_filter.mp ha).1, of_decide_eq_true (List.mem_filter.mp ha).2⟩
    · rw [Bool.eq_false_iff, ne_eq, regroups_iff]
      rintro ⟨a, ha, b, hb, hnail, hgroup⟩
      exact hgroup (htarget a (of_decide_eq_true (List.mem_filter.mp ha).2) b hb hnail)

/-! ### A card that acknowledges (R83, R94) -/

theorem Motion.eq_closed_of_still {m : Motion} (h : m.moving = false) : m = .closed := by
  cases m with
  | closing d => cases h
  | closed => rfl
  | opening d => cases h

/-- A card at rest: its relays stand closed, and so does its connection if it has one. -/
theorem Card.still_iff (x : Card) : x.inMotion = false ↔
    (∀ m, x.connection.motion = some m → m = .closed) ∧ ∀ y ∈ x.relays, y.2 = .closed := by
  simp only [Card.inMotion, Card.motions, List.any_eq_false, List.mem_append, Option.mem_toList, List.mem_map,
    Bool.not_eq_true]
  constructor
  · exact fun h => ⟨fun m hm => Motion.eq_closed_of_still (h m (.inl hm)),
      fun y hy => Motion.eq_closed_of_still (h y.2 (.inr ⟨y, hy, rfl⟩))⟩
  · rintro ⟨hc, hr⟩ m (hm | ⟨y, hy, rfl⟩)
    · rw [hc m hm]; rfl
    · rw [hr y hy]; rfl

/-- The relays a card at rest moves by an image, and the two it keeps. -/
theorem Card.acknowledge_relays {x : Card} (hrest : ∀ y ∈ x.relays, y.2 = .closed) (image : Image) (t : Timebase) :
    (x.acknowledge image t).relays =
      (x.relays.map fun y => (y.1, if y.1 ∈ image.closed then Motion.closed else .opening (t.dueIn 25000))) ++
      (image.closed.filter fun a => !x.relays.any fun y => decide (y.1 = a)).map fun a => (a, .closing (t.dueIn 40000)) := by
  have hkept : x.relays.map (fun y => if y.2 = .closed ∧ y.1 ∉ image.closed then (y.1, Motion.opening (t.dueIn 25000)) else y)
      = x.relays.map fun y => (y.1, if y.1 ∈ image.closed then Motion.closed else .opening (t.dueIn 25000)) := by
    refine List.map_congr_left fun y hy => ?_
    obtain ⟨a, m⟩ := y
    obtain rfl : m = .closed := hrest _ hy
    by_cases ha : a ∈ image.closed <;> simp [ha]
  exact congrArg (· ++ _) hkept

/-- A relay of an acknowledged card: kept in place, or closing, in the image; opening outside it. -/
theorem Card.mem_acknowledge {x : Card} (hrest : ∀ y ∈ x.relays, y.2 = .closed) (image : Image) (t : Timebase)
    (y : Pair × Motion) (hy : y ∈ (x.acknowledge image t).relays) :
    (y.1 ∈ image.closed ∧ (y.2 = .closed ∨ y.2 = .closing (t.dueIn 40000))) ∨
      (y.1 ∉ image.closed ∧ y.2 = .opening (t.dueIn 25000)) := by
  rw [Card.acknowledge_relays hrest, List.mem_append, List.mem_map, List.mem_map] at hy
  rcases hy with ⟨z, -, rfl⟩ | ⟨a, ha, rfl⟩
  · by_cases h : z.1 ∈ image.closed
    · exact .inl ⟨h, .inl (if_pos h)⟩
    · exact .inr ⟨h, if_neg h⟩
  · exact .inl ⟨(List.mem_filter.mp ha).1, .inr rfl⟩

theorem Card.acknowledge_reaches {x : Card} (hrest : ∀ y ∈ x.relays, y.2 = .closed) (image : Image) (t : Timebase) :
    (∀ a ∈ image.closed, ∃ y ∈ (x.acknowledge image t).relays, y.1 = a) ∧
      ∀ y ∈ x.relays, ∃ z ∈ (x.acknowledge image t).relays, z.1 = y.1 := by
  rw [Card.acknowledge_relays hrest]
  have hkept : ∀ y ∈ x.relays, ∃ z ∈ (x.relays.map fun y => (y.1, if y.1 ∈ image.closed then Motion.closed else .opening (t.dueIn 25000))), z.1 = y.1 :=
    fun y hy => ⟨_, List.mem_map.mpr ⟨y, hy, rfl⟩, rfl⟩
  refine ⟨fun a ha => ?_, fun y hy => ?_⟩
  · by_cases h : ∃ y ∈ x.relays, y.1 = a
    · obtain ⟨y, hy, rfl⟩ := h
      obtain ⟨z, hz, hzy⟩ := hkept y hy
      exact ⟨z, List.mem_append_left _ hz, hzy⟩
    · have harrives : a ∈ image.closed.filter fun a => !x.relays.any fun y => decide (y.1 = a) :=
        List.mem_filter.mpr ⟨ha, by simpa using fun b m hb he => h ⟨(b, m), hb, he⟩⟩
      exact ⟨(a, .closing (t.dueIn 40000)), List.mem_append_right _ (List.mem_map.mpr ⟨a, harrives, rfl⟩), rfl⟩
  · obtain ⟨z, hz, hzy⟩ := hkept y hy
    exact ⟨z, List.mem_append_left _ hz, hzy⟩

theorem Card.acknowledge_connection (x : Card) (image : Image) (t : Timebase) : (x.acknowledge image t).connection =
    if x.connection.motion = none ∧ image.connection.isSome then ⟨image.connection, some (.closing (t.dueIn 40000))⟩
    else if x.connection.motion = some .closed ∧ image.connection ≠ x.connection.engine then
      ⟨x.connection.engine, some (.opening (t.dueIn 25000))⟩
    else x.connection := by
  have hjoins : (decide (x.connection.motion = none) && image.connection.isSome) = true ↔
      x.connection.motion = none ∧ image.connection.isSome = true := by simp
  exact if_congr hjoins rfl rfl

theorem Card.acknowledge_operations (x : Card) (image : Image) (t : Timebase) : (x.acknowledge image t).operations =
    min 4294967295 (x.operations + (image.closed.filter fun a => !x.relays.any fun y => decide (y.1 = a)).length +
      if x.connection.motion = none ∧ image.connection.isSome then 1 else 0) := by
  have hjoins : (decide (x.connection.motion = none) && image.connection.isSome) = true ↔
      x.connection.motion = none ∧ image.connection.isSome = true := by simp
  exact congrArg (fun k => min 4294967295 (x.operations + _ + k)) (if_congr hjoins rfl rfl)

/-- The destination of a card at rest is where it stands. -/
theorem Card.destination_still {x : Card} (hrest : x.inMotion = false)
    (hiff : x.connection.engine.isSome ↔ x.connection.motion.isSome) :
    x.destination = ⟨x.connection.engine, x.relays.map (·.1)⟩ := by
  obtain ⟨hconn, hrelays⟩ := x.still_iff.mp hrest
  have hclosed : x.relays.filter (fun y => y.2.towardsClosed) = x.relays :=
    List.filter_eq_self.mpr fun y hy => by rw [hrelays y hy]; rfl
  unfold Card.destination
  rw [hclosed]
  cases hm : x.connection.motion with
  | none =>
    rw [hm] at hiff
    have hnone : x.connection.engine = none := by simpa using hiff
    rw [hnone]
  | some m =>
    obtain rfl := hconn m hm
    rfl

/-- A card's laws of R79: nothing closed or closing on an open or opening connection, and one group a nail. -/
def Card.Lawful (x : Card) : Prop :=
  ((∀ m, x.connection.motion = some m → m.towardsClosed = false) → ∀ z ∈ x.relays, z.2.towardsClosed = false) ∧
    OneGroup ((x.relays.filter fun z => z.2.towardsClosed).map (·.1))

/-- The image that a card at rest acknowledges keeps the laws. -/
theorem Card.acknowledge_lawful {x : Card} {target : Image} (t : Timebase) (hrest : x.inMotion = false)
    (hone : OneGroup target.closed) (htarget : target.connection = none → target.closed = [])
    (hiff : x.connection.engine.isSome ↔ x.connection.motion.isSome) (hlaw : x.Lawful) :
    (x.acknowledge (nextUpdate x.destination target).1 t).Lawful := by
  obtain ⟨hconn, hrelays⟩ := x.still_iff.mp hrest
  let image := (nextUpdate x.destination target).1
  have hdest := Card.destination_still hrest hiff
  have hin : ∀ z ∈ (x.acknowledge image t).relays, z.2.towardsClosed = true → z.1 ∈ image.closed := by
    intro z hz hto
    rcases Card.mem_acknowledge hrelays image t z hz with ⟨hi, -⟩ | ⟨-, ho⟩
    · exact hi
    · rw [ho] at hto; cases hto
  refine ⟨fun hopen z hz => ?_, hone.subset fun a ha => ?_⟩
  · have hpresent : x.destination.connection = none → x.destination.closed = [] := by
      rw [hdest]
      intro (hnone : x.connection.engine = none)
      have hmotion : x.connection.motion = none := by
        rw [hnone] at hiff
        simpa using hiff
      have hno := hlaw.1 fun m hm => by rw [hmotion] at hm; cases hm
      refine List.map_eq_nil_iff.mpr (List.eq_nil_iff_forall_not_mem.mpr fun y hy => ?_)
      have := hno y hy
      rw [hrelays y hy] at this
      cases this
    have hempty : image.connection = none → image.closed = [] := nextUpdate_unconnected hpresent htarget
    have hnone : image.connection = none := by
      rw [Card.acknowledge_connection] at hopen
      cases hm : x.connection.motion with
      | none =>
        by_contra hsome
        have hjoins : x.connection.motion = none ∧ image.connection.isSome := ⟨hm, Option.isSome_iff_ne_none.mpr hsome⟩
        rw [if_pos hjoins] at hopen
        cases hopen _ rfl
      | some m =>
        obtain rfl := hconn m hm
        obtain ⟨f, hf⟩ := Option.isSome_iff_exists.mp (hiff.mpr (by rw [hm]; rfl))
        have hnot : ¬ (x.connection.motion = none ∧ image.connection.isSome) := fun h => by
          have := hm.symm.trans h.1
          cases this
        rw [if_neg hnot] at hopen
        have hne : image.connection ≠ x.connection.engine := by
          intro heq
          rw [if_neg fun h => h.2 heq] at hopen
          cases hopen _ hm
        have hengine : x.destination.connection = x.connection.engine := congrArg Image.connection hdest
        rcases nextUpdate_connection x.destination target with h | h | h
        · exact h
        · exact absurd (h.trans hengine) hne
        · cases hf.symm.trans (hengine.symm.trans h)
    rw [Bool.eq_false_iff]
    intro hto
    have := hin z hz hto
    rw [hempty hnone] at this
    cases this
  · obtain ⟨z, hz, rfl⟩ := List.mem_map.mp ha
    obtain ⟨hz, hto⟩ := List.mem_filter.mp hz
    exact nextUpdate_closed _ _ _ (hin z hz hto)

/-- Settles O41. -/
theorem updatesBreakBeforeTheyMake : Obligations.UpdatesBreakBeforeTheyMake := by
  unfold Obligations.UpdatesBreakBeforeTheyMake
  intro oneGroup
  refine ⟨fun present target hone => ?_, fun x target t hrest hone htarget hiff => ?_⟩
  · intro twoStages image
    have hstages : twoStages ↔ changesEngine present target = true ∨ regroups present target = true := by
      rw [changesEngine_iff, regroups_iff]
    refine ⟨fun h => ?_, fun h => nextUpdate_stageA hone (hstages.mp h)⟩
    rw [hstages, not_or, Bool.not_eq_true, Bool.not_eq_true] at h
    exact nextUpdate_final h.1 h.2
  · intro lawful hlaw image moved arriving joins
    obtain ⟨-, hrelays⟩ := x.still_iff.mp hrest
    have hmem := Card.mem_acknowledge hrelays image t
    obtain ⟨hreach, hkept⟩ := Card.acknowledge_reaches hrelays image t
    refine ⟨Card.acknowledge_lawful t hrest hone htarget hiff hlaw, fun y hy hi => ?_, fun y hy hi => ?_, hreach, hkept,
      Card.acknowledge_operations x image t⟩
    · rcases hmem y hy with ⟨-, h⟩ | ⟨h, -⟩
      · exact h
      · exact absurd hi h
    · rcases hmem y hy with ⟨h, -⟩ | ⟨-, h⟩
      · exact absurd h hi
      · exact h

end Sys2Proof.Machine

/-! PROOFS. The ends of motion, of a hold and of ALL_OPEN, enumeration, the card link, and connection ready (R73, R74, R82 to
R93). -/

namespace Sys2Proof.Machine

/-! ### The end of STOPPING (R51, R92) -/

/-- A part that does not end STOPPING. -/
theorem Ev.judgeStopped_stays {v : Ev}
    (h : v.p.disp.seq ≠ .stopping ∨ v.p.ringInFlight = true ∨ v.p.relay.matrixOpen = false) : v.judgeStopped = v := by
  refine if_neg fun ⟨hseq, hring, hopen⟩ => ?_
  rcases h with h | h | h
  · exact h hseq
  · cases hring.symm.trans h
  · cases hopen.symm.trans h

/-- STOPPING ends. -/
theorem Ev.judgeStopped_stops {v : Ev} (hseq : v.p.disp.seq = .stopping) (hring : v.p.ringInFlight = false)
    (hopen : v.p.relay.matrixOpen = true) : v.judgeStopped = { v with
      p := { v.p with disp := { v.p.disp with seq := .stopped } }, askRemainder := true, entries := v.entries ++ [v.p.seqNotice .stopped] } :=
  if_pos ⟨hseq, hring, hopen⟩

/-- An event of the matrix alone, its frames given, that leaves the sequencer. -/
theorem event_stays {s : State} {f : Ev → Ev} {q : Part} {first : List OutFrame}
    (hv : f (Ev.start s.part) = ({ Ev.start q with first := first } : Ev).judgeStopped)
    (h : q.disp.seq ≠ .stopping ∨ q.ringInFlight = true ∨ q.relay.matrixOpen = false) :
    event s f = .next { s with part := q.hand first } :=
  event_hands (hv.trans (Ev.judgeStopped_stays h)) rfl (by simp [Ev.frames]) rfl (.inl rfl) (.inl rfl) (.inl rfl)

/-- An event of the matrix alone that ends STOPPING. -/
theorem event_stops {s : State} {f : Ev → Ev} {q : Part} {first : List OutFrame}
    (hv : f (Ev.start s.part) = ({ Ev.start q with first := first } : Ev).judgeStopped) (hseq : q.disp.seq = .stopping)
    (hring : q.ringInFlight = false) (hopen : q.relay.matrixOpen = true) (hrem : q.noRemainder = true) :
    event s f = .next { s with
      part := ({ q with disp := { q.disp with seq := .stopped } }).hand (first ++ [q.seqNotice .stopped]) } :=
  event_hands (hv.trans (Ev.judgeStopped_stops hseq hring hopen)) rfl (by simp [Ev.frames]) rfl (.inl rfl) (.inl rfl) (.inr hrem)

/-! ### The ends of motion and of a hold (R73, R90) -/

/-- Once all its motions have ended, a card is at rest. -/
theorem Card.settled_inMotion (x : Card) : x.settled.inMotion = false := by
  have hstep : ∀ m m' : Motion, (if m.moving && true then m.settled else some m) = some m' → m' = .closed := by
    intro m m' h
    cases m <;> simp [Motion.moving, Motion.settled] at h <;> exact h.symm
  refine (Card.still_iff _).mpr ⟨fun m hm => ?_, fun y hy => ?_⟩
  · obtain ⟨n, -, hn⟩ := Option.bind_eq_some_iff.mp hm
    exact hstep n m hn
  · obtain ⟨z, -, hz⟩ := List.mem_filterMap.mp hy
    obtain ⟨m, hm, rfl⟩ := Option.map_eq_some_iff.mp hz
    exact hstep z.2 m hm

/-- The end of a card's motion where no engine waits and no plan stands ready. -/
theorem Ev.motionEnds_calm {p : Part} {card : Nat} (h : (p.relay.card card).inMotion = true) (hs : p.noStillWait = true)
    (hready : ∀ e, (p.cardRested card).relay.standsReady e = false) :
    Ev.motionEnds card (Ev.start p) = (Ev.start (p.cardRested card)).look.judgeStopped := by
  have hwait : (p.cardRested card).noStillWait = true := hs
  have hnone : (Ev.start (p.cardRested card)).judgeAllReady = Ev.start (p.cardRested card) := Ev.judgeAllReady_of_none hready
  rw [Ev.motionEnds_moving h, hnone, Ev.settleLink_of_noStillWait (v := Ev.start (p.cardRested card)) hwait]

theorem Relay.releaseHeld_plans (r : Relay) (e : EngineId) :
    (r.releaseHeld e).plans = r.plans.set e { r.plans.get e with held := [], hold := none } := Relay.deriveChanged_plans _ _

theorem Relay.releaseHeld_cards (r : Relay) (e : EngineId) : (r.releaseHeld e).cards = r.cards :=
  Relay.deriveChanged_cards _ _

theorem Ev.holdExpires_none {v : Ev} {e : EngineId} (h : (v.p.plan e).hold = none) : v.holdExpires e = v := by
  unfold Ev.holdExpires
  rw [h]

theorem Ev.holdExpires_some {v : Ev} {e : EngineId} {due : Nat} (h : (v.p.plan e).hold = some due) :
    v.holdExpires e = (v.map fun p =>
      let q := p.reach due
      { q with relay := q.relay.releaseHeld e }).look := by
  unfold Ev.holdExpires
  rw [h]

/-- Settles O39. -/
theorem motionAndHoldEnd : Obligations.MotionAndHoldEnd := by
  refine ⟨fun s card => ?_, fun s e => ⟨fun h => event_same (Ev.holdExpires_none h), fun due hd => ?_⟩⟩
  · intro x q rested relay after
    refine ⟨fun h => event_same (Ev.motionEnds_still h), fun _ => x.settled_inMotion, fun hm hs hready => ?_⟩
    have hact : Ev.motionEnds card (Ev.start s.part) = ({ Ev.start after with first := [] } : Ev).judgeStopped :=
      Ev.motionEnds_calm hm hs hready
    exact ⟨event_stays hact, event_stops hact⟩
  · intro q relay
    refine ⟨event_map (Ev.holdExpires_some (v := Ev.start s.part) hd), ?_, ?_⟩
    · exact (Relay.look_plans _ _).trans (Relay.releaseHeld_plans _ e)
    · exact (Relay.look_cards _ _).trans (Relay.releaseHeld_cards _ e)

/-! ### Connection ready (R87, R88, R109) -/

theorem touches_iff (c : Nat) (ps : List Pair) : touches c ps = true ↔ ∃ x ∈ ps, x.nail / 64 = c := by
  simp only [touches, List.any_eq_true, beq_iff_eq]
  rfl

theorem Relay.nothingBound_iff (r : Relay) (e : EngineId) : r.nothingBound e = true ↔ r.allOpenPending = false ∧
    (r.link = .idle ∨ ∃ c image start, r.link = .update c image start ∧ (∀ x ∈ (r.plans.get e).wanted, x.nail / 64 ≠ c) ∧
      image.connection ≠ some e) := by
  have htouch : ∀ c, touches c (r.plans.get e).wanted = false ↔ ∀ x ∈ (r.plans.get e).wanted, x.nail / 64 ≠ c := fun c => by
    rw [← Bool.not_eq_true, touches_iff]
    simp
  unfold Relay.nothingBound
  cases r.link <;> simp [htouch]

theorem Relay.standsReady_iff (r : Relay) (e : EngineId) : r.standsReady e = true ↔ (r.plans.get e).state = .connecting ∧
    (∀ x ∈ (r.plans.get e).wanted, (r.card (x.nail / 64)).connection = ⟨some e, some .closed⟩ ∧
      (x, Motion.closed) ∈ (r.card (x.nail / 64)).relays) ∧
    (∀ y ∈ r.cards, y.2.status ≠ .failed → y.2.connection.engine = some e →
      (∃ x ∈ (r.plans.get e).wanted, x.nail / 64 = y.1) ∧ ∀ z ∈ y.2.relays, z.1 ∈ (r.plans.get e).wanted) ∧
    r.nothingBound e = true := by
  have hpair : ∀ x : Pair, r.pairClosed x = true ↔ (x, Motion.closed) ∈ (r.card (x.nail / 64)).relays := fun x => by
    simp only [Relay.pairClosed, List.any_eq_true, Bool.and_eq_true, decide_eq_true_eq, Prod.exists]
    constructor
    · rintro ⟨a, m, h, rfl, rfl⟩
      exact h
    · exact fun h => ⟨x, .closed, h, rfl, rfl⟩
  have hcard : ∀ y : Nat × Card, (decide (y.2.status = .failed) || decide (y.2.connection.engine ≠ some e)
        || (touches y.1 (r.plans.get e).wanted && y.2.relays.all fun z => decide (z.1 ∈ (r.plans.get e).wanted))) = true ↔
      (y.2.status ≠ .failed → y.2.connection.engine = some e →
        (∃ x ∈ (r.plans.get e).wanted, x.nail / 64 = y.1) ∧ ∀ z ∈ y.2.relays, z.1 ∈ (r.plans.get e).wanted) := fun y => by
    simp only [Bool.or_eq_true, Bool.and_eq_true, decide_eq_true_eq, touches_iff, List.all_eq_true]
    tauto
  unfold Relay.standsReady
  simp only [Bool.and_eq_true, decide_eq_true_eq, List.all_eq_true, hpair, hcard, and_assoc]
  refine and_congr_right fun _ => and_congr_left fun _ => forall₂_congr fun x _ => ?_
  exact and_comm

/-- What connection ready is judged by. -/
theorem Relay.standsReady_congr {r r' : Relay} {e : EngineId} (hcards : r'.cards = r.cards) (hlink : r'.link = r.link)
    (hopen : r'.allOpenPending = r.allOpenPending) (hplan : r'.plans.get e = r.plans.get e) :
    r'.standsReady e = r.standsReady e := by
  have hcard : ∀ c, r'.card c = r.card c := fun c => congrArg (fun t => lookup Card.unlisted t c) hcards
  simp only [Relay.standsReady, Relay.nothingBound, Relay.pairClosed, hcards, hlink, hopen, hplan, hcard]

/-- Where one plan alone stands ready, its engine alone is told. -/
theorem Ev.judgeAllReady_one {v : Ev} {e : EngineId} (h : ∀ f, f ≠ e → v.p.relay.standsReady f = false) :
    v.judgeAllReady = v.judgeReady e := by
  have hled := Ev.judgeReady_led v e
  refine Ev.foldl_all_one (fun f hf => Ev.judgeReady_of_not (h f hf)) fun f hf => Ev.judgeReady_of_not ?_
  exact (Relay.standsReady_congr hled.cards hled.relayLink hled.allOpenPending (hled.plan_ne hf)).trans (h f hf)

/-! ### The end of ALL_OPEN (R93) -/

/-- The part whose matrix has been told to open (R93). -/
def Part.matrixOpened (p : Part) (start : Nat) : Part :=
  let q := p.reach (start + 1200)
  { q with relay := q.relay.endAllOpen q.time }

theorem Ev.allOpenEnds_open {p : Part} {start : Nat} (h : p.relay.link = .allOpen start) :
    (Ev.start p).allOpenEnds = (Ev.start (p.matrixOpened start)).judgeAllReady.settleLink.judgeStopped := by
  unfold Ev.allOpenEnds
  rw [show (Ev.start p).p.relay.link = .allOpen start from h]
  rfl

/-- Settles O40. -/
theorem connectionReadyIsJudgedWhenTheMatrixSettles : Obligations.ConnectionReadyIsJudgedWhenTheMatrixSettles := by
  refine ⟨fun r e => ?_, fun v e => rfl, fun s c q r hcases hs hseq e he hother => ?_⟩
  · intro g
    rw [Relay.standsReady_iff, Relay.nothingBound_iff]
  · intro told after hready hwait
    let settled : Part := { q with relay := r }
    have hjudge : (Ev.start settled).judgeAllReady = Ev.start after :=
      (Ev.judgeAllReady_one (v := Ev.start settled) hother).trans ((if_pos he).trans hready)
    have hsettle : (Ev.start settled).judgeAllReady.settleLink = (Ev.start after).look := by
      rw [hjudge]
      exact Ev.settleLink_of_noStillWait (v := Ev.start after) hwait
    have hled : (Ev.start settled).Led (Ev.start after) e := by
      rw [← hjudge, Ev.judgeAllReady_one (v := Ev.start settled) hother]
      exact Ev.judgeReady_led _ e
    have hseq' : (Ev.start after).look.p.disp.seq = settled.disp.seq := congrArg Dispatcher.seq hled.disp
    have hstays : settled.disp.seq ≠ .stopping → (Ev.start after).look.judgeStopped = (Ev.start after).look := by
      rw [← hseq']
      exact Ev.judgeStopped_of_ne
    rcases hcases with ⟨card, rfl, hmoving, hq, hr⟩ | ⟨start, rfl, hlink, hq, hr⟩
    · have hact : Ev.motionEnds card (Ev.start s.part) = (Ev.start settled).judgeAllReady.settleLink.judgeStopped := by
        rw [Ev.motionEnds_moving hmoving]
        simp only [settled, hr, hq, Part.cardRested]
      rw [hsettle] at hact
      exact event_map (hact.trans (hstays (by subst hq; exact hseq)))
    · have hact : (Ev.start s.part).allOpenEnds = (Ev.start settled).judgeAllReady.settleLink.judgeStopped := by
        rw [Ev.allOpenEnds_open hlink]
        simp only [settled, hr, hq, Part.matrixOpened]
      rw [hsettle] at hact
      exact event_map (hact.trans (hstays (by subst hq; exact hseq)))

/-! ### The card link (R82) -/

section
variable {r : Relay} (hidle : r.link = .idle)
include hidle

theorem Relay.look_allOpen (ha : r.allOpenPending = true) (tick : Nat) :
    r.look tick = { r with link := .allOpen tick, allOpenPending := false } :=
  (if_neg (not_not.mpr hidle)).trans (if_pos ha)

/-- Outside quiet deferral the link starts the oldest update that can start. -/
theorem Relay.look_update (ha : r.allOpenPending = false) (hd : r.deferral = false) (tick : Nat) :
    r.look tick = match r.startable with
      | some q => { (r.unqueue q.card) with link := .update q.card q.image tick }
      | none => r := by
  unfold Relay.look
  rw [if_neg (not_not.mpr hidle), ha, hd]
  rfl

end

theorem Relay.deferral_iff (r : Relay) : r.deferral = true ↔ ∃ e, (r.plans.get e).quiet = true := by
  simp only [Relay.deferral, List.any_eq_true]
  exact ⟨fun ⟨e, _, h⟩ => ⟨e, h⟩, fun ⟨e, h⟩ => ⟨e, e.mem_all, h⟩⟩

theorem Relay.deferral_eq_false {r : Relay} (h : ∀ e, (r.plans.get e).quiet = false) : r.deferral = false := by
  rw [Bool.eq_false_iff, ne_eq, Relay.deferral_iff]
  rintro ⟨e, he⟩
  cases he.symm.trans (h e)

/-- What the link does when it looks, by its state. -/
theorem Relay.look_spec (r : Relay) (tick : Nat) :
    (r.link ≠ .idle → r.look tick = r) ∧
    (r.link = .idle → r.allOpenPending = true → r.look tick = { r with link := .allOpen tick, allOpenPending := false }) ∧
    (r.link = .idle → r.allOpenPending = false → (∃ e, (r.plans.get e).quiet = true) → r.look tick = r) ∧
    (r.link = .idle → r.allOpenPending = false → (∀ e, (r.plans.get e).quiet = false) →
      ((∀ u ∈ r.queue, (r.card u.card).inMotion = true) → r.look tick = r) ∧
      ∀ older u younger, r.queue = older ++ u :: younger → (∀ x ∈ older, (r.card x.card).inMotion = true) →
        (r.card u.card).inMotion = false → r.look tick = { r with
          link := .update u.card u.image tick
          queue := (older ++ u :: younger).filter fun x => decide (x.card ≠ u.card) }) := by
  refine ⟨fun h => if_pos h, fun h ha => Relay.look_allOpen h ha tick,
    fun _ ha hq => Relay.look_of_deferral ha (r.deferral_iff.mpr hq) tick, fun h ha hq => ⟨fun hall => ?_, fun older u younger hqueue hold hu => ?_⟩⟩
  · have hnone : r.startable = none := List.find?_eq_none.mpr fun u hu => by simp [hall u hu]
    rw [Relay.look_update h ha (Relay.deferral_eq_false hq), hnone]
  · have hsome : r.startable = some u := List.find?_eq_some_iff_append.mpr
      ⟨by simp [hu], older, younger, hqueue, fun x hx => by simp [hold x hx]⟩
    rw [Relay.look_update h ha (Relay.deferral_eq_false hq), hsome, ← hqueue]
    rfl

/-! ### Acknowledgements (R83, R85) -/

theorem Ev.acknowledged_eq {p : Part} {card start : Nat} {image : Image} (h : p.relay.link = .update card image start) :
    (Ev.start p).acknowledged = if p.relay.timely start p.time.tick then
      (Ev.start { p.reach (start + 1200) with
        relay := { p.relay.setCard card ((p.relay.card card).acknowledge image (p.reach (start + 1200)).time) with link := .idle } }).settleLink
      else Ev.start p := by
  unfold Ev.acknowledged
  rw [show (Ev.start p).p.relay.link = .update card image start from h]
  rfl

theorem Relay.timely_iff (r : Relay) (start tick : Nat) : r.timely start tick = true ↔
    tick ≤ start + 4000 ∧ (r.expired ≠ some start ∨ start + 1200 ≤ tick) := by
  simp only [Relay.timely, Bool.and_eq_true, Bool.or_eq_true, decide_eq_true_eq]
  rfl

theorem Ev.cardFault_ignored {v : Ev} {e : EngineId} (h : (v.p.engine e).state ≠ .active ∨
    (v.p.engine e).phase = some .abortDischarge ∨ (v.p.engine e).phase = some .resultWait) (card : Nat) :
    v.cardFault e card = v := by
  refine if_neg fun ht => ?_
  simp only [Engine.takesCardFault, Bool.and_eq_true, decide_eq_true_eq] at ht
  obtain ⟨⟨h1, h2⟩, h3⟩ := ht
  tauto

/-- A card not acknowledged: the failure, the notice and the fault, before connection ready is judged (R85, R86). -/
def Ev.cardFailing (p : Part) (card start : Nat) : Ev :=
  let q := p.reach (start + 4000)
  let failed : Part := { q with relay := { q.relay.failCard card with expired := some q.time.tick } }
  let told : Ev := { Ev.start failed with
    first := [.notice (.card card q.time.tick (q.relay.card card).operations (p.relay.plannedTo card))] }
  match p.relay.plannedTo card with
  | some e => told.cardFault e card
  | none => told

theorem Ev.ackTimesOut_eq {p : Part} {card start : Nat} {image : Image} (h : p.relay.link = .update card image start) :
    (Ev.start p).ackTimesOut = { ((EngineId.all.filter (p.relay.holdsBack card image)).foldl Ev.judgeReady
      (Ev.cardFailing p card start)).settleLink.judgeStopped with askEvaluate := true } := by
  unfold Ev.ackTimesOut
  rw [show (Ev.start p).p.relay.link = .update card image start from h]
  rfl

theorem Ev.foldl_judgeReady_outer (es : List EngineId) (v : Ev) :
    (es.foldl Ev.judgeReady v).p.outer = v.p.outer ∧ v.Tuned (es.foldl Ev.judgeReady v) := by
  refine ⟨?_, Ev.foldl_tuned Ev.judgeReady_tuned es v⟩
  induction es generalizing v with
  | nil => rfl
  | cons e es ih => rw [List.foldl_cons, ih, Ev.outer_judgeReady]

/-- Settles O37. -/
theorem cardLinkStartsAndEndsTransactions : Obligations.CardLinkStartsAndEndsTransactions := by
  refine ⟨Relay.look_spec, fun s card start image hlink => ?_, fun s card start image hlink hgoes => ?_, fun s hno => ?_⟩
  · intro q moved
    have hact := Ev.acknowledged_eq hlink
    refine ⟨fun hle hexp hs => ?_, fun hlt => ?_, fun hexp hlt => ?_⟩
    · rw [if_pos ((Relay.timely_iff _ _ _).mpr ⟨hle, hexp⟩)] at hact
      exact event_map (hact.trans (Ev.settleLink_of_noStillWait (v := Ev.start { q with relay := { moved with link := .idle } }) hs))
    · exact event_same (hact.trans (if_neg fun h => by have := ((Relay.timely_iff _ _ _).mp h).1; omega))
    · refine event_same (hact.trans (if_neg fun h => ?_))
      rcases ((Relay.timely_iff _ _ _).mp h).2 with h | h
      · exact h hexp
      · omega
  · intro q x failed after notice failing told htold hwait hquiet looked
    have hfailing : Ev.cardFailing s.part card start = failing := by
      unfold Ev.cardFailing
      dsimp only
      cases hplanned : s.part.relay.plannedTo card with
      | none => simp only [failing, notice, hplanned]; rfl
      | some e =>
        have hignored := Ev.cardFault_ignored (v := { Ev.start { q with relay := after } with
          first := [.notice (.card card q.time.tick x.operations (some e))] }) (hgoes e hplanned) card
        refine hignored.trans ?_
        simp only [failing, notice, hplanned]
    obtain ⟨houter, htuned⟩ := Ev.foldl_judgeReady_outer (EngineId.all.filter (s.part.relay.holdsBack card image)) failing
    rw [htold] at houter htuned
    have hdisp : told.disp = s.part.disp := (Part.disp_of_outer houter :)
    have hqueue : told.queue = s.part.queue := htuned.part.queue
    have hring : told.ring = s.part.ring := htuned.part.ring
    have hact : (Ev.start s.part).ackTimesOut =
        { ({ Ev.start looked with first := [notice] } : Ev).judgeStopped with askEvaluate := true } := by
      have hsettle := Ev.settleLink_of_noStillWait (v := { failing with p := told }) hwait
      rw [Ev.ackTimesOut_eq hlink, hfailing, htold, hsettle]
      rfl
    have hflight : looked.ringInFlight = s.part.ringInFlight := congrArg (fun d : Dispatcher => Part.ringInFlight { s.part with disp := d }) hdisp
    refine ⟨fun h => ?_, fun hseq hin hopen hrem => ?_⟩
    · have hstays : ({ Ev.start looked with first := [notice] } : Ev).judgeStopped = { Ev.start looked with first := [notice] } := by
        refine Ev.judgeStopped_stays ?_
        rw [← hdisp, ← hflight] at h
        exact h
      rw [hstays] at hact
      exact event_hands hact rfl rfl rfl (.inl rfl) (.inr hquiet) (.inl rfl)
    · have hstops := Ev.judgeStopped_stops (v := { Ev.start looked with first := [notice] })
        ((congrArg Dispatcher.seq hdisp).trans hseq) (hflight.trans hin) hopen
      rw [hstops] at hact
      have hframe : looked.seqNotice .stopped = s.part.seqNotice .stopped := congrArg (fun r : Ring => Part.seqNotice { s.part with ring := r } .stopped) hring
      rw [← hframe]
      refine event_hands hact rfl rfl rfl (.inl rfl) (.inr ?_) (.inr ?_)
      · have hfree : (told.disp.seq ≠ .running ∧ told.disp.direct = none) ∨ told.recordFree = false := by
          simpa [Part.nothingToDispatch] using hquiet
        simp only [Part.nothingToDispatch, Bool.or_eq_true, Bool.and_eq_true, decide_eq_true_eq, Bool.not_eq_true', Option.isNone_iff_eq_none]
        exact hfree.imp (fun h => ⟨by simp, h.2⟩) id
      · have : told.noRemainder = s.part.noRemainder := congrArg (fun q : ResultQueue => Part.noRemainder { s.part with queue := q }) hqueue
        exact this.trans hrem
  · have hack : (Ev.start s.part).acknowledged = Ev.start s.part := by
      unfold Ev.acknowledged
      split
      next h => exact absurd h (hno _ _ _)
      next => rfl
    have hout : (Ev.start s.part).ackTimesOut = Ev.start s.part := by
      unfold Ev.ackTimesOut
      split
      next h => exact absurd h (hno _ _ _)
      next => rfl
    exact ⟨event_same hack, event_same hout⟩

end Sys2Proof.Machine

/-! PROOFS. The start-up pass and ALL_OPEN (R74, R75, R80, R92, R93, R193). -/

namespace Sys2Proof.Machine

/-- An event of the matrix alone, without frames of its own, that leaves the sequencer. -/
theorem event_calm_stays {s : State} {f : Ev → Ev} {q : Part} (hv : f (Ev.start s.part) = (Ev.start q).judgeStopped)
    (hdisp : q.disp = s.part.disp)
    (h : s.part.disp.seq ≠ .stopping ∨ s.part.ringInFlight = true ∨ q.relay.matrixOpen = false) :
    event s f = .next { s with part := q } := by
  rw [← hdisp, ← Part.ringInFlight_congr (congrArg Dispatcher.inFlight hdisp)] at h
  exact event_stays (first := []) hv h

/-- An event of the matrix alone, without frames of its own, that ends STOPPING. -/
theorem event_calm_stops {s : State} {f : Ev → Ev} {q : Part} (hv : f (Ev.start s.part) = (Ev.start q).judgeStopped)
    (hdisp : q.disp = s.part.disp) (hring : q.ring = s.part.ring) (hqueue : q.queue = s.part.queue)
    (hseq : s.part.disp.seq = .stopping) (hin : s.part.ringInFlight = false) (hopen : q.relay.matrixOpen = true)
    (hrem : s.part.noRemainder = true) : event s f = .next { s with
      part := ({ q with disp := { q.disp with seq := .stopped } }).hand [s.part.seqNotice .stopped] } := by
  have hnotice : q.seqNotice .stopped = s.part.seqNotice .stopped := by rw [Part.seqNotice, hring]; rfl
  have hrem' : q.noRemainder = true := by rw [Part.noRemainder, hqueue]; exact hrem
  rw [← hnotice]
  exact event_stops (first := []) hv (by rw [hdisp]; exact hseq) ((Part.ringInFlight_congr (congrArg Dispatcher.inFlight hdisp)).trans hin) hopen hrem'

/-! ### The start-up pass (R74, R193) -/

theorem Ev.allOpenEnds_startup {p : Part} {start : Nat} (h : p.relay.link = .startupAllOpen start) :
    let q := p.reach (start + 1200)
    (Ev.start p).allOpenEnds =
      Ev.start { q with relay := { q.relay with link := .query 0 q.time.tick (q.time.tick + 26563) } } := by
  intro q
  unfold Ev.allOpenEnds
  rw [show (Ev.start p).p.relay.link = .startupAllOpen start from h]
  rfl

/-- The image once a query has ended: the position's card as found, and relays whose opening is over OPEN. -/
def Part.queried (p : Part) (position start openDue : Nat) (answered : Bool) : Part :=
  let q := p.reach (start + 1200)
  let found := if answered then Card.found position q.time.tick openDue else .unlisted
  { q with relay := (q.relay.setCard position found).settleDue q.time.tick }

theorem Ev.queryEnds_eq {p : Part} {position start openDue : Nat} (h : p.relay.link = .query position start openDue)
    (answered : Bool) : (Ev.start p).queryEnds answered =
      let q := p.queried position start openDue answered
      if position + 1 < 64 then Ev.start { q with relay := { q.relay with link := .query (position + 1) q.time.tick openDue } }
      else (Ev.start q).enumerated := by
  unfold Ev.queryEnds
  rw [show (Ev.start p).p.relay.link = .query position start openDue from h]
  rfl

/-- The end of the enumeration where no engine waits for a still matrix. -/
theorem Ev.enumerated_eq {p : Part} (h : p.noStillWait = true) :
    let after : Part := { p with relay := ({ p.relay with link := .idle } : Relay).look p.time.tick, link := { p.link with mode := .serving } }
    (Ev.start p).enumerated =
      { Ev.start after with first := [.notice (.ready p.link.resetCause 1 after.presentCards p.time.tick)] } := by
  intro after
  let asked : Part := { p with relay := { p.relay with link := .idle }, link := { p.link with mode := .serving } }
  let ready : Ev := { Ev.start asked with
    first := [.notice (.ready p.link.resetCause 1 ({ p with relay := { p.relay with link := .idle } } : Part).presentCards p.time.tick)] }
  have hlook : (Ev.start p).enumerated = ready.look := Ev.settleLink_of_noStillWait (v := ready) h
  have hpresent : after.presentCards = ({ p with relay := { p.relay with link := .idle } } : Part).presentCards :=
    congrArg (fun t => Part.presentCards { p with relay := { p.relay with cards := t } }) (Relay.look_cards _ _)
  rw [hlook, hpresent]
  rfl

/-! ### The end of ALL_OPEN (R93) -/

/-- The cards once every READY one has been changed. -/
theorem lookup_map_ready (f : Card → Card) (cards : List (Nat × Card)) (c : Nat) :
    lookup Card.unlisted (cards.map fun x => if x.2.status = .ready then (x.1, f x.2) else x) c =
      if (lookup Card.unlisted cards c).status = .ready then f (lookup Card.unlisted cards c) else lookup Card.unlisted cards c := by
  induction cards with
  | nil => rfl
  | cons x rest ih =>
    obtain ⟨k, y⟩ := x
    rw [List.map_cons]
    by_cases hk : c = k
    · subst hk
      by_cases hy : y.status = .ready <;> simp [lookup, hy]
    · by_cases hy : y.status = .ready <;> simpa [lookup, hy, hk] using ih

/-- A card once the matrix has been told to open. -/
theorem Relay.endAllOpen_card (r : Relay) (t : Timebase) (c : Nat) : (r.endAllOpen t).card c =
    if (r.card c).status = .ready then ((r.card c).asOf t.tick).openAll (t.dueIn 25000) else r.card c := by
  obtain ⟨q, hq⟩ := Relay.foldl_derive_queue_only (List.range Config.cards) { r with
    link := .idle, cards := r.cards.map (fun x => if x.2.status = .ready then (x.1, (x.2.asOf t.tick).openAll (t.dueIn 25000)) else x) }
  have hcards : (r.endAllOpen t).cards = r.cards.map (fun x =>
      if x.2.status = .ready then (x.1, (x.2.asOf t.tick).openAll (t.dueIn 25000)) else x) :=
    congrArg Relay.cards hq
  rw [Relay.card, hcards]
  exact lookup_map_ready (fun x => (x.asOf t.tick).openAll (t.dueIn 25000)) r.cards c

/-- A relay state with no plan that stands ready and no engine that waits: the link looks, and that is all. -/
theorem Ev.rest_calm {q : Part} {r : Relay} (hs : q.noStillWait = true) (hready : ∀ e, r.standsReady e = false) :
    (Ev.start { q with relay := r }).judgeAllReady.settleLink = Ev.start { q with relay := r.look q.time.tick } := by
  have hnone : (Ev.start { q with relay := r }).judgeAllReady = Ev.start { q with relay := r } := Ev.judgeAllReady_of_none hready
  rw [hnone]
  exact Ev.settleLink_of_noStillWait (v := Ev.start { q with relay := r }) hs

theorem Ev.allOpenEnds_calm {p : Part} {start : Nat} (h : p.relay.link = .allOpen start) (hs : p.noStillWait = true) :
    let q := p.reach (start + 1200)
    (∀ e, (q.relay.endAllOpen q.time).standsReady e = false) → (Ev.start p).allOpenEnds =
      (Ev.start { q with relay := (q.relay.endAllOpen q.time).look q.time.tick }).judgeStopped := by
  intro q hready
  rw [Ev.allOpenEnds_open h]
  unfold Part.matrixOpened
  exact congrArg Ev.judgeStopped (Ev.rest_calm (q := p.reach (start + 1200)) hs hready)

/-! ### The asking of ALL_OPEN (R75, R80, R93) -/

theorem Relay.assignment_cleared {r : Relay} (h : ∀ e, (r.plans.get e).wanted = [] ∧ (r.plans.get e).held = []) (c : Nat) :
    r.assignment c = .unassigned := by
  have hplanned : r.plannedTo c = none := List.find?_eq_none.mpr fun e _ => by simp [touches, (h e).1]
  have hheld : r.heldBy c = none := List.find?_eq_none.mpr fun e _ => by simp [touches, (h e).2]
  rw [Relay.assignment, hplanned, hheld]

theorem Relay.target_of_unassigned {r : Relay} {c : Nat} (h : r.assignment c = .unassigned) : r.target c = .released := by
  rw [Relay.target, h]

/-- A card is released by its target exactly when it is UNASSIGNED. -/
theorem Relay.target_same_released (r : Relay) (c : Nat) : (r.target c).same .released = true ↔ r.assignment c = .unassigned := by
  unfold Relay.target
  cases r.assignment c <;> simp [Image.same, Image.released]

theorem Image.same_released (x : Image) : x.same .released = false ↔ x.connection ≠ none ∨ x.closed ≠ [] := by
  have hsame : x.same .released = true ↔ x.connection = none ∧ x.closed = [] := by
    have hclosed : (x.closed.all fun y => decide (y ∈ ([] : List Pair))) = true ↔ x.closed = [] := by
      simp [List.eq_nil_iff_forall_not_mem]
    have heq : x.same .released =
        (decide (x.connection = none) && (x.closed.all fun y => decide (y ∈ ([] : List Pair))) && true) := rfl
    rw [heq, Bool.and_true, Bool.and_eq_true, hclosed, decide_eq_true_iff]
  rw [← Bool.not_eq_true, hsame]
  tauto

theorem nextUpdate_released (present : Image) : nextUpdate present .released = (.released, .final) := by
  refine nextUpdate_final ?_ ?_
  · unfold changesEngine
    cases present.connection <;> rfl
  · simp [regroups, Image.released]

/-- Whether deriving queues a release of a card that is to be released. -/
def Relay.owesRelease (r : Relay) (c : Nat) : Bool :=
  decide ((r.card c).status = .ready ∧ ((r.destination c).connection ≠ none ∨ (r.destination c).closed ≠ []))

/-- Deriving the release of a card without a queued entry. -/
theorem Relay.derive_release {r : Relay} {c : Nat} (ht : r.target c = .released) (hq : ∀ u ∈ r.queue, u.card ≠ c) :
    r.derive c = { r with queue := r.queue ++ if r.owesRelease c then [⟨c, .released, .final⟩] else [] } := by
  have hunqueue : r.unqueue c = r := by
    have : r.queue.filter (fun q => decide (q.card ≠ c)) = r.queue :=
      List.filter_eq_self.mpr fun u hu => decide_eq_true (hq u hu)
    rw [Relay.unqueue, this]
  have hnone : r.queue.any (fun q => q.card == c) = false := by
    rw [List.any_eq_false]
    exact fun u hu => by simpa using hq u hu
  unfold Relay.derive Relay.owesRelease
  by_cases hready : (r.card c).status = .ready
  · rw [if_neg (not_not.mpr hready), ht]
    dsimp only
    rw [nextUpdate_released, hunqueue]
    by_cases hsame : (r.destination c).same .released = true
    · have hno : ¬ ((r.destination c).connection ≠ none ∨ (r.destination c).closed ≠ []) := by
        rw [← Image.same_released, hsame]
        simp
      simp [hsame, hno]
    · have hyes := (Image.same_released _).mp (Bool.eq_false_iff.mpr hsame)
      simp only [hsame, hready, hyes, Relay.enqueue, hnone, and_self, decide_true, if_true]
      rfl
  · simp [hready]

/-- Releases derived in turn: each owed one joins the queue. -/
theorem Relay.foldl_derive_release (cs : List Nat) {r : Relay} (hnodup : cs.Nodup) (ht : ∀ c, r.target c = .released)
    (hq : ∀ c ∈ cs, ∀ u ∈ r.queue, u.card ≠ c) :
    (cs.foldl Relay.derive r).queue = r.queue ++ (cs.filter r.owesRelease).map fun c => ⟨c, .released, .final⟩ := by
  induction cs generalizing r with
  | nil => simp
  | cons c cs ih =>
    obtain ⟨hnot, hnodup⟩ := List.nodup_cons.mp hnodup
    have hstep := Relay.derive_release (ht c) (hq c List.mem_cons_self)
    let queue := r.queue ++ if r.owesRelease c then [⟨c, .released, .final⟩] else []
    have hrest := ih (r := { r with queue := queue }) hnodup ht fun d hd u hu => ?_
    · rw [List.foldl_cons, hstep, hrest]
      have howes : ({ r with queue := queue } : Relay).owesRelease = r.owesRelease := rfl
      rw [howes, List.filter_cons]
      by_cases h : r.owesRelease c <;> simp [queue, h]
    · rcases List.mem_append.mp hu with hu | hu
      · exact hq d (List.mem_cons_of_mem _ hd) u hu
      · split at hu
        · obtain rfl := List.mem_singleton.mp hu
          rintro rfl
          exact hnot hd
        · cases hu

/-- The relay state as ALL_OPEN is asked, before the releases are derived. -/
def Relay.withdrawn (r : Relay) : Relay :=
  { r with
    queue := [], allOpenPending := true
    plans := r.plans.mapIdx fun _ g => { g with state := .none, wanted := [], held := [], hold := none } }

theorem Relay.withdrawn_plan (r : Relay) (e : EngineId) :
    r.withdrawn.plans.get e = ⟨.none, [], [], none, (r.plans.get e).quiet⟩ := PerEngine.get_mapIdx _ _ _

theorem Relay.withdrawn_assignment (r : Relay) (c : Nat) : r.withdrawn.assignment c = .unassigned :=
  Relay.assignment_cleared (fun e => by rw [Relay.withdrawn_plan]; exact ⟨rfl, rfl⟩) c

/-- What the asking of ALL_OPEN queues: the releases of the cards it makes UNASSIGNED. -/
theorem Relay.askAllOpen_queue (r : Relay) : r.askAllOpen.queue =
    ((List.range 64).filter fun c => decide ((r.card c).status = .ready ∧ r.assignment c ≠ .unassigned ∧
      ((r.destination c).connection ≠ none ∨ (r.destination c).closed ≠ []))).map fun c => ⟨c, ⟨none, []⟩, .final⟩ := by
  have htarget : ∀ c, r.withdrawn.target c = .released := fun c => Relay.target_of_unassigned (r.withdrawn_assignment c)
  have hchanged : (List.range Config.cards).filter (fun c => !(r.target c).same (r.withdrawn.target c)) =
      (List.range 64).filter fun c => decide (r.assignment c ≠ .unassigned) := by
    refine List.filter_congr fun c _ => ?_
    rw [htarget, Bool.eq_iff_iff, Bool.not_eq_true', decide_eq_true_eq, ← Bool.not_eq_true, ne_eq, Relay.target_same_released]
  have hfold := Relay.foldl_derive_release ((List.range 64).filter fun c => decide (r.assignment c ≠ .unassigned))
    (r := r.withdrawn) (List.nodup_range.filter _) htarget fun _ _ u hu => absurd hu List.not_mem_nil
  have hask : r.askAllOpen = ((List.range 64).filter fun c => decide (r.assignment c ≠ .unassigned)).foldl Relay.derive r.withdrawn :=
    congrArg (fun cs => cs.foldl Relay.derive r.withdrawn) hchanged
  have howes : r.withdrawn.owesRelease = r.owesRelease := rfl
  rw [hask, hfold, howes, List.filter_filter]
  refine congrArg (List.map _) (List.filter_congr fun c _ => ?_)
  rw [Bool.eq_iff_iff]
  simp only [Relay.owesRelease, Bool.and_eq_true, decide_eq_true_eq]
  tauto

/-- Settles O36. -/
theorem enumerationAndAllOpenEnd : Obligations.EnumerationAndAllOpenEnd := by
  refine ⟨fun s start h => event_map (Ev.allOpenEnds_startup h), fun s position start openDue answered h => ?_,
    fun s start h hs => ?_, fun r => ?_, fun s h => ?_⟩
  · intro q found relay
    have hfound : (if answered then Card.found position q.time.tick openDue else .unlisted) = found := by
      cases answered <;> rfl
    have hact := Ev.queryEnds_eq h answered
    have hqueried : s.part.queried position start openDue answered = { q with relay := relay } := by
      unfold Part.queried
      dsimp only
      rw [hfound]
    rw [hqueried] at hact
    refine ⟨fun hlt => event_map (hact.trans (if_pos (by omega))), fun hge hs => ?_⟩
    intro after
    have henum := Ev.enumerated_eq (p := { q with relay := relay }) hs
    exact event_hands (hact.trans ((if_neg (by omega)).trans henum)) rfl rfl rfl (.inl rfl) (.inl rfl) (.inl rfl)
  · intro q opened after
    refine ⟨fun hready => ?_, fun c => ?_⟩
    · have hact : (Ev.start s.part).allOpenEnds = (Ev.start after).judgeStopped := Ev.allOpenEnds_calm h hs hready
      have hdisp : after.disp = s.part.disp := by simp only [after]; rfl
      have hring : after.ring = s.part.ring := by simp only [after]; rfl
      have hqueue : after.queue = s.part.queue := by simp only [after]; rfl
      exact ⟨event_calm_stays hact hdisp, event_calm_stops hact hdisp hring hqueue⟩
    · exact Relay.endAllOpen_card q.relay q.time c
  · intro asked present
    obtain ⟨queue, hask⟩ := r.askAllOpen_eq
    have hplans : asked.plans = r.withdrawn.plans := (congrArg Relay.plans hask :)
    have hplan : ∀ e, asked.plans.get e = ⟨.none, [], [], none, (r.plans.get e).quiet⟩ := fun e => by
      rw [hplans, Relay.withdrawn_plan]
    have hpresent : ∀ c, present c = r.destination c := fun c => by
      unfold Relay.destination
      simp only [present]
      cases r.link <;> rfl
    refine ⟨(congrArg Relay.allOpenPending hask :), (congrArg Relay.link hask :), (congrArg Relay.cards hask :),
      (congrArg Relay.holdLimit hask :), hplan, Relay.assignment_cleared fun e => ?_, ?_⟩
    · rw [hplan]
      exact ⟨rfl, rfl⟩
    · simp only [hpresent]
      exact r.askAllOpen_queue
  · have hends : (Ev.start s.part).allOpenEnds = Ev.start s.part := by
      unfold Ev.allOpenEnds
      rcases h with h | ⟨c, image, start, h⟩ <;> rw [show (Ev.start s.part).p.relay.link = _ from h]
    have hquery : ∀ answered, (Ev.start s.part).queryEnds answered = Ev.start s.part := fun answered => by
      unfold Ev.queryEnds
      rcases h with h | ⟨c, image, start, h⟩ <;> rw [show (Ev.start s.part).p.relay.link = _ from h]
    exact ⟨event_same hends, fun answered => event_same (hquery answered)⟩

end Sys2Proof.Machine

/-! PROOFS. Aborts told to no engine or to one, halting errors, and the release of the matrix: STOP, undock and vacuum loss
with no engine at work (R19, R20, R50, R68, R92, R93, R178). -/

namespace Sys2Proof.Machine

/-! ### Aborts told to the ACTIVE engines (R124, R125) -/

theorem Part.noneActive_iff {p : Part} : p.noneActive = true ↔ ∀ e, (p.engine e).state ≠ .active := by
  simp only [Part.noneActive, List.all_eq_true, decide_eq_true_eq]
  exact ⟨fun h e => h e e.mem_all, fun h e _ => h e⟩

theorem Ev.abortAll_none {v : Ev} (h : ∀ e, (v.p.engine e).state ≠ .active) (abort : Ev → EngineId → Ev) :
    v.abortAll abort = v := by
  have hnone : EngineId.all.filter (fun e => decide ((v.p.engine e).state = .active)) = [] :=
    List.filter_eq_nil_iff.mpr fun e _ => by simpa using h e
  unfold Ev.abortAll Ev.activeEngines
  rw [hnone]
  rfl

/-- One ACTIVE engine alone is told; its order is no choice. -/
theorem Ev.abortAll_one {v : Ev} {e : EngineId} (he : (v.p.engine e).state = .active)
    (h : ∀ f, f ≠ e → (v.p.engine f).state ≠ .active) (abort : Ev → EngineId → Ev) : v.abortAll abort = abort v e := by
  have hone : EngineId.all.filter (fun f => decide ((v.p.engine f).state = .active)) = [e] := by
    have hall : EngineId.all.filter (fun f => decide ((v.p.engine f).state = .active)) =
        EngineId.all.filter fun f => decide (f = e) := by
      refine List.filter_congr fun f _ => decide_eq_decide.mpr ⟨fun hf => ?_, fun hf => hf ▸ he⟩
      by_contra hne
      exact h f hne hf
    rw [hall]
    cases e <;> rfl
  unfold Ev.abortAll Ev.activeEngines
  rw [hone]
  rfl

/-! ### Halting errors by sequencer state (R68, R178) -/

/-- The log of a part that has taken an error, its time the event's. -/
def Part.logged (p : Part) (r : ErrorRecord) : Part := { p with log := p.log.take { r with time := p.time48 } }

/-- The part that an error has halted. -/
def Part.haltedBy (p : Part) (r : ErrorRecord) : Part := (p.logged r).entered .halted

theorem Ev.haltingError_halts {v : Ev} (h : v.p.disp.seq = .running ∨ v.p.disp.seq = .pausing) (r : ErrorRecord) :
    v.haltingError r = { v with p := v.p.haltedBy r, askRemainder := true, entries := v.entries ++ [v.p.seqNotice .halted] } := by
  unfold Ev.haltingError
  dsimp only
  rcases h with h | h <;> rw [h] <;> rfl

theorem Ev.haltingError_counts {v : Ev} (h : v.p.disp.seq = .halted) (r : ErrorRecord) :
    v.haltingError r = { v with p := v.p.logged r } := by
  unfold Ev.haltingError
  dsimp only
  rw [h]
  rfl

theorem Ev.haltingError_ignored {v : Ev}
    (h : v.p.disp.seq = .stopped ∨ v.p.disp.seq = .paused ∨ v.p.disp.seq = .drained ∨ v.p.disp.seq = .stopping)
    (r : ErrorRecord) : v.haltingError r = v := by
  unfold Ev.haltingError
  dsimp only
  rcases h with h | h | h | h <;> rw [h]

/-! ### Completions of an event taken together -/

theorem Ev.takeAll_none {v : Ev} (h : v.completions = []) (between : Ev → Ev) : v.takeAll between = between v := by
  have hself : ({ v with completions := [] } : Ev) = v := by rw [← h]
  unfold Ev.takeAll
  rw [h]
  exact congrArg between hself

theorem Part.endWaitingDirect_none {p : Part} (h : p.disp.direct = none) (cause : Cause) : p.endWaitingDirect cause = p := by
  unfold Part.endWaitingDirect
  rw [h]

/-! ### Release-all (R75, R92) -/

theorem Relay.releaseAll_plan (r : Relay) (discharging : EngineId → Bool) (e : EngineId) :
    (r.releaseAll discharging).plans.get e = if discharging e then { r.plans.get e with state := .releaseAtEnd, held := [], hold := none }
      else { r.plans.get e with state := .none, wanted := [], held := [], hold := none } := by
  rw [Relay.releaseAll, Relay.deriveChanged_plans]
  exact PerEngine.get_mapIdx _ _ _

theorem Ev.releaseAll_eq {v : Ev} {discharging : EngineId → Bool}
    (h : ∀ e, decide ((v.p.engine e).phase = some .abortDischarge) = discharging e) : v.releaseAll =
      { v with p := { v.p with relay := (v.p.relay.releaseAll discharging).look v.p.time.tick } } := by
  have hwho : (fun e => decide ((v.p.engine e).phase = some .abortDischarge)) = discharging := funext h
  unfold Ev.releaseAll
  rw [← hwho]
  rfl

/-! ### STOP with no engine at work (R50, R51, R92) -/

theorem ownStop_taken {v : Ev} {body : List Byte}
    (h : v.p.disp.seq = .running ∨ v.p.disp.seq = .pausing ∨ v.p.disp.seq = .paused ∨ v.p.disp.seq = .drained) :
    ownStop body v = v.stopFrom := by
  unfold ownStop
  rcases h with h | h | h | h <;> rw [h]

/-- The part as STOP has discarded the PENDING slots and released the matrix. -/
def Part.stopping (p : Part) (discharging : EngineId → Bool) : Part :=
  { p with
    ring := p.ring.discardPending, disp := { p.disp with seq := .stopping }
    relay := (p.relay.releaseAll discharging).look p.time.tick }

/-- Settles O23. -/
theorem stopDiscardsReleasesAndStops : Obligations.StopDiscardsReleasesAndStops := by
  intro s number h p stop taken reply
  have hlen : RequestKind.stop.bodyLength = some ([] : List Byte).length ∨ RequestKind.stop.bodyLength = none := .inl rfl
  have hseq : (Ev.start (p.taking number 0x33)).p.disp = p.disp := rfl
  have hrefuse : ∀ st, p.disp.seq = st → ownStop [] (Ev.start (p.taking number 0x33)) = (match st with
      | .stopped => (Ev.start (p.taking number 0x33)).refuse .badState
      | .halted => (Ev.start (p.taking number 0x33)).refuse .logUnread
      | .stopping => (Ev.start (p.taking number 0x33)).refuse .busy
      | _ => (Ev.start (p.taking number 0x33)).stopFrom) := fun st hst => by
    unfold ownStop
    rw [hseq, hst]
    cases st <;> rfl
  have hfrom : taken → ownStop [] (Ev.start (p.taking number 0x33)) = (Ev.start (p.taking number 0x33)).stopFrom :=
    fun ht => ownStop_taken ht
  refine ⟨fun hs => exec_refused .stop h hlen (hrefuse _ hs), fun hs => exec_refused .stop h hlen (hrefuse _ hs),
    fun ht hd => exec_refused .stop h hlen ((hfrom ht).trans (if_pos hd)), fun ht hd hactive hphase => ?_⟩
  let relay := (p.relay.releaseAll fun _ => false).look p.time.tick
  have hplan : ∀ e, relay.plans.get e = { p.relay.plans.get e with state := .none, wanted := [], held := [], hold := none } :=
    fun e => by
      simp only [relay, Relay.look_plans, Relay.releaseAll_plan]
      rfl
  refine ⟨relay, rfl, fun e => ?_, fun c _ => ?_, ?_⟩
  · rw [hplan e]
    exact ⟨rfl, rfl, rfl, rfl⟩
  · refine Relay.target_of_unassigned (Relay.assignment_cleared (fun e => ?_) c)
    rw [hplan e]
    exact ⟨rfl, rfl⟩
  · intro after
    let begun : Ev := { Ev.start ((p.taking number 0x33)) with replies := [reply] }
    let discarded : Ev := { begun with
      p := { begun.p with ring := p.ring.discardPending, disp := { p.disp with seq := .stopping } } }
    let released : Ev := { begun with p := (after .stopping).taking number 0x33 }
    have habort : discarded.abortAll (Ev.abortWithDischarge .stopped) = discarded :=
      Ev.abortAll_none (v := discarded) (fun e => Part.noneActive_iff.mp hactive e) _
    have hrelease : discarded.releaseAll = released := Ev.releaseAll_eq fun e => decide_eq_false (hphase e)
    have hact : owner .stop [] (Ev.start (p.taking number 0x33)) = released.judgeStopped := by
      refine (hfrom ht).trans ((if_neg (by rw [hseq, hd]; exact Bool.false_ne_true)).trans ?_)
      have htake : (discarded.abortAll (Ev.abortWithDischarge .stopped)).releaseAll.takeAll id = released := by
        rw [habort, hrelease]
        exact Ev.takeAll_none rfl id
      exact congrArg Ev.judgeStopped htake
    refine ⟨fun hstays => ?_, fun hin hopen hrem => ?_⟩
    · have hstay : released.judgeStopped = released := Ev.judgeStopped_stays (.inr hstays)
      exact exec_answered .stop h hlen (hact.trans hstay) rfl rfl rfl (.inl rfl) (.inl rfl) (.inl rfl)
    · have hstops := Ev.judgeStopped_stops (v := released) rfl hin hopen
      exact exec_answered .stop h hlen (hact.trans hstops) (q := after .stopped) rfl rfl rfl (.inl rfl) (.inl rfl) (.inr hrem)

/-! ### Undock and vacuum loss with no engine at work (R19, R20) -/

/-- The part as its fixture has gone: the interlock, and the matrix asked to open (R19, R93). -/
def Part.undocked (p : Part) (due : Nat) : Part :=
  let q := p.reach due
  { q with
    lock := { p.lock with
      presentLine := ⟨false, false, none⟩, docked := false, identity := .absent, readStart := none, identityLimit := none }
    relay := p.relay.askAllOpen.look q.time.tick }

/-- The part as its vacuum has gone (R20). -/
def Part.unsealed (p : Part) (due : Nat) : Part :=
  { p.reach due with lock := { p.lock with vacuumLine := ⟨false, false, none⟩, vacuum := false } }

/-- The part as its vacuum has gone and the matrix has been released (R20, R92). -/
def Part.vacuumReleased (p : Part) (due : Nat) (discharging : EngineId → Bool) : Part :=
  { p.unsealed due with relay := (p.relay.releaseAll discharging).look (p.reach due).time.tick }

section
variable {p : Part} {due : Nat}

/-- The event of an undock as a whole (R19). -/
theorem Ev.debounced_undock (hwait : p.lock.presentLine.wait = some due) (hraw : p.lock.presentLine.raw = false) :
    Ev.debounced .fixturePresent (Ev.start p) =
      let told := ((Ev.start (p.undocked due)).abortAll (Ev.abortWithoutDischarge .fixtureRemoved)).map
        fun q => q.endWaitingDirect .fixtureRemoved
      let halted := told.takeAll fun v => v.haltingError (interlockError .fixtureRemoved)
      { halted.noteLast (halted.fixtureNotice .undock) with askEvaluate := true } := by
  have hact := Ev.debounced_of_wait (p := p) (line := .fixturePresent) hwait
  rw [show (p.lock.line .fixturePresent).raw = false from hraw] at hact
  exact hact

/-- The event of a vacuum loss with the fixture docked (R20). -/
theorem Ev.debounced_vacuumLost (hwait : p.lock.vacuumLine.wait = some due) (hraw : p.lock.vacuumLine.raw = false)
    (hdock : p.lock.docked = true) :
    Ev.debounced .vacuumGood (Ev.start p) =
      let lost : Ev := { Ev.start (p.unsealed due) with
        first := [.notice (.fixture ⟨true, false, p.lock.identity⟩ .vacuumLost)] }
      let told := (lost.abortAll (Ev.abortWithDischarge .vacuumLost)).map fun q => q.endWaitingDirect .vacuumLost
      let halted := told.releaseAll.takeAll fun v => v.haltingError (interlockError .vacuumLost)
      { halted.judgeStopped with askEvaluate := true } := by
  have hact := Ev.debounced_of_wait (p := p) (line := .vacuumGood) hwait
  rw [show (p.lock.line .vacuumGood).raw = false from hraw] at hact
  refine hact.trans ((if_pos hdock).trans ?_)
  rw [← hdock]
  rfl

theorem Ev.debounced_vacuumLost_undocked (hwait : p.lock.vacuumLine.wait = some due) (hraw : p.lock.vacuumLine.raw = false)
    (hdock : p.lock.docked = false) :
    Ev.debounced .vacuumGood (Ev.start p) = { Ev.start (p.unsealed due) with
      first := [.notice (.fixture ⟨p.lock.docked, false, p.lock.identity⟩ .vacuumLost)] } := by
  have hact := Ev.debounced_of_wait (p := p) (line := .vacuumGood) hwait
  rw [show (p.lock.line .vacuumGood).raw = false from hraw] at hact
  exact hact.trans (if_neg (by simpa [Ev.noteFirst, Part.onLock, Interlock.setLine] using hdock))

section
variable (hactive : p.noneActive = true) (hdirect : p.disp.direct = none)
include hactive hdirect

/-- An undock that finds no engine at work and no direct step. -/
theorem Ev.debounced_undock_quiet (hwait : p.lock.presentLine.wait = some due) (hraw : p.lock.presentLine.raw = false) :
    Ev.debounced .fixturePresent (Ev.start p) =
      { (Ev.start (p.undocked due)).haltingError (interlockError .fixtureRemoved) with
        last := [.notice (.fixture ⟨false, p.lock.vacuum, .absent⟩ .undock)], askEvaluate := true } := by
  have hnone : (Ev.start (p.undocked due)).abortAll (Ev.abortWithoutDischarge .fixtureRemoved) = Ev.start (p.undocked due) :=
    Ev.abortAll_none (Part.noneActive_iff.mp hactive) _
  have hwaits : (p.undocked due).endWaitingDirect .fixtureRemoved = p.undocked due :=
    Part.endWaitingDirect_none (p := p.undocked due) hdirect _
  have htold : ((Ev.start (p.undocked due)).abortAll (Ev.abortWithoutDischarge .fixtureRemoved)).map
      (fun q => q.endWaitingDirect .fixtureRemoved) = Ev.start (p.undocked due) := by
    rw [hnone]
    exact congrArg Ev.start hwaits
  have hview : ((Ev.start (p.undocked due)).haltingError (interlockError .fixtureRemoved)).p.lock = (p.undocked due).lock := by
    rcases Ev.haltingError_p (Ev.start (p.undocked due)) (interlockError .fixtureRemoved) with ⟨-, h⟩ | ⟨-, h⟩ | h <;> rw [h] <;> rfl
  have hlast : ((Ev.start (p.undocked due)).haltingError (interlockError .fixtureRemoved)).last = [] := by
    unfold Ev.haltingError Ev.enterSeq
    dsimp only
    split <;> rfl
  rw [Ev.debounced_undock hwait hraw]
  dsimp only
  rw [htold, Ev.takeAll_none (v := Ev.start (p.undocked due)) rfl, Ev.noteLast, hlast, Ev.fixtureNotice, Part.fixtureView, hview]
  rfl

/-- A vacuum loss that finds no engine at work and no direct step. -/
theorem Ev.debounced_vacuumLost_quiet (hphase : ∀ e, (p.engine e).phase ≠ some .abortDischarge)
    (hwait : p.lock.vacuumLine.wait = some due) (hraw : p.lock.vacuumLine.raw = false) (hdock : p.lock.docked = true) :
    Ev.debounced .vacuumGood (Ev.start p) =
      { (({ Ev.start (p.vacuumReleased due fun _ => false) with
        first := [.notice (.fixture ⟨true, false, p.lock.identity⟩ .vacuumLost)] } : Ev).haltingError
          (interlockError .vacuumLost)).judgeStopped with askEvaluate := true } := by
  let lost : Ev := { Ev.start (p.unsealed due) with
    first := [.notice (.fixture ⟨true, false, p.lock.identity⟩ .vacuumLost)] }
  have hnone : lost.abortAll (Ev.abortWithDischarge .vacuumLost) = lost :=
    Ev.abortAll_none (v := lost) (Part.noneActive_iff.mp hactive) _
  have hwaits : (p.unsealed due).endWaitingDirect .vacuumLost = p.unsealed due :=
    Part.endWaitingDirect_none (p := p.unsealed due) hdirect _
  have htold : (lost.abortAll (Ev.abortWithDischarge .vacuumLost)).map (fun q => q.endWaitingDirect .vacuumLost) = lost := by
    rw [hnone]
    exact congrArg (fun q => ({ lost with p := q } : Ev)) hwaits
  have hrelease : lost.releaseAll = { lost with p := p.vacuumReleased due fun _ => false } :=
    Ev.releaseAll_eq fun e => decide_eq_false (hphase e)
  rw [Ev.debounced_vacuumLost hwait hraw hdock]
  dsimp only
  rw [htold, hrelease, Ev.takeAll_none (v := { lost with p := p.vacuumReleased due fun _ => false }) rfl]
  rfl

end

end

theorem Part.nothingToDispatch_of_idle {p : Part} (hs : p.disp.seq ≠ .running) (hd : p.disp.direct = none) :
    p.nothingToDispatch = true := by
  simp [Part.nothingToDispatch, hs, hd]

/-- Settles O32. -/
theorem undockAndVacuumLossHaltARun : Obligations.UndockAndVacuumLossHaltARun := by
  intro s due p k q fallen quiet record halts calm counted halted undocked undockNotice lowered released lostNotice
  refine ⟨fun hwait hraw hquiet => ?_, fun hwait hraw => ⟨fun hdock => ?_, fun hdock hquiet => ?_⟩⟩
  · obtain ⟨hactive, hdirect, -⟩ := hquiet
    have hact := Ev.debounced_undock_quiet hactive hdirect hwait hraw
    intro undock
    refine ⟨fun hs hrem => ?_, fun hs => ?_, fun hs => ?_⟩
    · rw [Ev.haltingError_halts (v := Ev.start (p.undocked due)) hs] at hact
      exact event_hands hact rfl rfl rfl (.inl rfl)
        (.inr (Part.nothingToDispatch_of_idle (p := (p.undocked due).haltedBy (record .fixtureRemoved)) nofun hdirect)) (.inr hrem)
    · rw [Ev.haltingError_counts (v := Ev.start (p.undocked due)) hs] at hact
      have hrun : p.disp.seq ≠ .running := fun h => by cases hs.symm.trans h
      exact event_hands hact rfl rfl rfl (.inl rfl)
        (.inr (Part.nothingToDispatch_of_idle (p := (p.undocked due).logged (record .fixtureRemoved)) hrun hdirect)) (.inl rfl)
    · have hs' : p.disp.seq = .stopped ∨ p.disp.seq = .paused ∨ p.disp.seq = .drained ∨ p.disp.seq = .stopping := by
        simpa only [calm, or_assoc] using hs
      have hrun : p.disp.seq ≠ .running := fun h => by simp [h] at hs'
      rw [Ev.haltingError_ignored (v := Ev.start (p.undocked due)) hs'] at hact
      exact event_hands hact rfl rfl rfl (.inl rfl)
        (.inr (Part.nothingToDispatch_of_idle (p := p.undocked due) hrun hdirect)) (.inl rfl)
  · exact event_hands (Ev.debounced_vacuumLost_undocked hwait hraw hdock) rfl rfl rfl (.inl rfl) (.inl rfl) (.inl rfl)
  · obtain ⟨hactive, hdirect, hphase⟩ := hquiet
    have hact := Ev.debounced_vacuumLost_quiet hactive hdirect hphase hwait hraw hdock
    have hnotice : lostNotice = .notice (.fixture ⟨true, false, p.lock.identity⟩ .vacuumLost) :=
      congrArg (fun d => OutFrame.notice (.fixture ⟨d, false, p.lock.identity⟩ .vacuumLost)) hdock
    rw [← hnotice] at hact
    let lost : Ev := { Ev.start (p.vacuumReleased due fun _ => false) with first := [lostNotice] }
    refine ⟨fun hs hrem => ?_, fun hs => ?_, fun hs => ?_, fun hs hin hopen hrem => ?_⟩
    · rw [Ev.haltingError_halts (v := lost) hs, Ev.judgeStopped_of_ne (by nofun)] at hact
      exact event_hands hact rfl rfl rfl (.inl rfl)
        (.inr (Part.nothingToDispatch_of_idle (p := lost.p.haltedBy (record .vacuumLost)) nofun hdirect)) (.inr hrem)
    · have hne : p.disp.seq ≠ .stopping := fun h => by cases hs.symm.trans h
      have hrun : p.disp.seq ≠ .running := fun h => by cases hs.symm.trans h
      rw [Ev.haltingError_counts (v := lost) hs, Ev.judgeStopped_of_ne (v := { lost with p := lost.p.logged _ }) hne] at hact
      exact event_hands hact rfl rfl rfl (.inl rfl)
        (.inr (Part.nothingToDispatch_of_idle (p := lost.p.logged (record .vacuumLost)) hrun hdirect)) (.inl rfl)
    · have hignored : p.disp.seq = .stopped ∨ p.disp.seq = .paused ∨ p.disp.seq = .drained ∨ p.disp.seq = .stopping := by
        rcases hs with (hs | hs | hs) | ⟨hs, -⟩ <;> simp [hs]
      have hstays : lost.p.disp.seq ≠ .stopping ∨ lost.p.ringInFlight = true ∨ lost.p.relay.matrixOpen = false := by
        rcases hs with hs | ⟨-, hs⟩
        · exact .inl fun h => by rcases hs with hs | hs | hs <;> cases hs.symm.trans h
        · exact .inr hs
      have hrun : p.disp.seq ≠ .running := fun h => by simp [h] at hignored
      rw [Ev.haltingError_ignored (v := lost) hignored, Ev.judgeStopped_stays hstays] at hact
      exact event_hands hact rfl rfl rfl (.inl rfl) (.inr (Part.nothingToDispatch_of_idle (p := lost.p) hrun hdirect)) (.inl rfl)
    · rw [Ev.haltingError_ignored (v := lost) (.inr (.inr (.inr hs))), Ev.judgeStopped_stops (v := lost) hs hin hopen] at hact
      exact event_hands hact rfl rfl rfl (.inl rfl)
        (.inr (Part.nothingToDispatch_of_idle (p := lost.p.entered .stopped) nofun hdirect)) (.inr hrem)

end Sys2Proof.Machine

/-! PROOFS. What the taking of a completion does to the event, operation by operation (R65, R67, R68, R89, R176 to R178):
the release of its claims, the state it leads the sequencer to, and the error it may be. -/

namespace Sys2Proof.Machine

/-! ### The release of a completion's claims -/

/-- A completion's step as its notices and its halting error name it. -/
def Completion.work (c : Completion) : Work := ⟨c.origin, c.record, none, false, false⟩

/-- The part with the nails marked that a successful retry replaced (R67). -/
def Part.marked (p : Part) (c : Completion) : Part :=
  match p.disp.inFlight.get c.engine with
  | some x => p.markReplaced x c.verdict
  | none => p

theorem Part.marked_map (p : Part) (c : Completion) : ∃ nails, p.marked c = { p with map := { p.map with nails := nails } } := by
  unfold Part.marked
  split
  · exact p.markReplaced_eq _ _
  · exact ⟨p.map.nails, rfl⟩

/-- The part once the claims of a completion are released (R65 step 1, R89). -/
def Part.releasedBy (p : Part) (c : Completion) : Part :=
  { p.marked c with
    relay := (p.relay.complete p.time c.engine).look p.time.tick
    disp := { p.disp with
      inFlight := p.disp.inFlight.set c.engine none, direct := if c.origin = none then none else p.disp.direct } }

theorem Ev.released_eq (v : Ev) (c : Completion) : v.released c = { v with
    p := { v.p with
      relay := (v.p.relay.complete v.p.time c.engine).look v.p.time.tick
      disp := { v.p.disp with
        inFlight := v.p.disp.inFlight.set c.engine none, direct := if c.origin = none then none else v.p.disp.direct } }
    steps := v.steps ++ c.work.stepNotice c.verdict
    entries := v.entries ++ c.work.directNotice c.engine c.verdict c.cause
    askRemainder := v.askRemainder || c.origin.isNone } := by
  cases horigin : c.origin with
  | none => simp [Ev.released, Completion.work, Work.stepNotice, Work.directNotice, horigin, Ev.look, Ev.map, Part.setEntry]
  | some slot =>
    cases hnotify : c.record.notify <;>
      simp [Ev.released, Completion.work, Work.stepNotice, Work.directNotice, horigin, hnotify, Ev.look, Ev.map, Part.setEntry]

/-- The first part of a completion as a whole. -/
theorem Ev.releaseStep_eq (v : Ev) (c : Completion) : v.releaseStep c = { v with
    p := v.p.releasedBy c
    steps := v.steps ++ c.work.stepNotice c.verdict
    entries := v.entries ++ c.work.directNotice c.engine c.verdict c.cause
    askRemainder := v.askRemainder || c.origin.isNone } := by
  cases hx : v.p.disp.inFlight.get c.engine with
  | none =>
    rw [Ev.releaseStep_of_none hx, Ev.released_eq]
    simp [Part.releasedBy, Part.marked, hx]
  | some x =>
    rw [Ev.releaseStep_of_some hx, Ev.released_eq]
    obtain ⟨nails, h⟩ := v.p.markReplaced_eq x c.verdict
    simp [Part.releasedBy, Part.marked, hx, h]

/-- With a completion's entry gone, the ring steps in flight are those of the other engines. -/
theorem Part.ringInFlight_without {p q : Part} {e : EngineId} (h : q.disp.inFlight = p.disp.inFlight.set e none) :
    q.ringInFlight = p.othersInFlight e := by
  have hiff : q.ringInFlight = false ↔ p.othersInFlight e = false := by
    rw [Part.ringInFlight_eq_false]
    simp only [Part.othersInFlight, List.any_eq_false, h]
    constructor
    · intro hq f _
      by_cases hf : f = e
      · simp [hf]
      · cases hx : p.disp.inFlight.get f with
        | none => simp
        | some x => simp [hq f x (by rw [PerEngine.get_set_ne _ _ _ _ hf, hx])]
    · intro hp f x hx
      by_cases hf : f = e
      · rw [hf, PerEngine.get_set_same] at hx; cases hx
      · rw [PerEngine.get_set_ne _ _ _ _ hf] at hx
        simpa [hx, hf] using hp f f.mem_all
  cases hq : q.ringInFlight <;> cases hp : p.othersInFlight e <;> simp_all

/-! ### The judging of a completion -/

/-- The halting error of a completion at a time (R68). -/
def Completion.errorAt (c : Completion) (time : Nat) : Option ErrorRecord := c.work.endErrorOn c.engine c.verdict c.cause c.card time

theorem Completion.errorAt_ring {c : Completion} {slot : Nat} (h : c.origin = some slot) (time : Nat) :
    c.errorAt time = c.error.map fun r => { r with time := time } := by
  unfold Completion.errorAt Work.endErrorOn Work.endError Completion.error
  simp only [Completion.work, h]
  by_cases hfault : c.verdict = .fault
  · simp only [hfault, if_true, Option.map_map]
    cases c.cause <;> rfl
  · by_cases hfail : c.record.stopOnFail = true ∧ c.verdict.failing = true <;> simp [hfault, hfail]

theorem Completion.errorAt_direct {c : Completion} (h : c.origin = none) (time : Nat) : c.errorAt time = none := by
  simp [Completion.errorAt, Work.endErrorOn, Work.endError, Completion.work, h]

theorem Completion.errorAt_isSome {c : Completion} {slot : Nat} (h : c.origin = some slot) (time : Nat) :
    (c.errorAt time).isSome = c.error.isSome := by simp [Completion.errorAt_ring h]

/-- The sequencer and the log of a part replaced. -/
def Part.sequenced (p : Part) (st : SeqState) (log : ErrorLog) : Part := { p with log := log, disp := { p.disp with seq := st } }

/-- An event that has led the sequencer from one state to another, with its SEQ_NOTICE and its remainder point (R44, R172). -/
def Ev.sequenced (v : Ev) (st : SeqState) (log : ErrorLog) : Ev :=
  let q := v.p.sequenced st log
  { v with
    p := q, entries := v.entries ++ q.seqEntry v.p.disp.seq
    askRemainder := v.askRemainder || decide (q.seqEntry v.p.disp.seq ≠ []) }

/-- Where the sequencer stays, only the log is replaced. -/
theorem Ev.sequenced_stay {v : Ev} {st : SeqState} (h : v.p.disp.seq = st) (log : ErrorLog) :
    v.sequenced st log = { v with p := { v.p with log := log } } := by
  subst h
  simp [Ev.sequenced, Part.sequenced, Part.seqEntry]

theorem Ev.sequenced_same {v : Ev} {st : SeqState} (h : v.p.disp.seq = st) : v.sequenced st v.p.log = v := Ev.sequenced_stay h _

/-- A state entry, by whether it is announced. -/
theorem Ev.enterSeq_eq {v : Ev} {st : SeqState} (h : st ≠ v.p.disp.seq) : v.enterSeq st = v.sequenced st v.p.log := by
  unfold Ev.enterSeq Ev.sequenced Part.seqEntry
  cases hst : st.announced <;> simp [Part.sequenced, hst, h, Part.seqNotice]

/-- The state a halting error leads to (R68). -/
def SeqState.afterHalt : SeqState → SeqState
  | .running => .halted
  | .pausing => .halted
  | st => st

/-- A halting error, with the log it leaves. -/
theorem Ev.haltingError_eq (v : Ev) (r : ErrorRecord) : v.haltingError r = v.sequenced v.p.disp.seq.afterHalt
    (v.p.log.afterError v.p.disp.seq (some { r with time := v.p.time48 })) := by
  unfold Ev.haltingError
  dsimp only
  cases hs : v.p.disp.seq with
  | running => exact Ev.enterSeq_eq (v := v.map _) (by simp [hs])
  | pausing => exact Ev.enterSeq_eq (v := v.map _) (by simp [hs])
  | halted => exact (Ev.sequenced_stay hs _).symm
  | stopped | paused | drained | stopping => exact (Ev.sequenced_same hs).symm

/-- The state entries that follow a completion (R46, R47, R51). -/
theorem Ev.judgeState_eq (v : Ev) : v.judgeState = v.sequenced (v.p.disp.seq.afterStep false false v.p.ringInFlight
    (decide (v.p.ring.pendingSlots ≠ [])) v.p.relay.matrixOpen) v.p.log := by
  unfold Ev.judgeState
  cases hs : v.p.disp.seq with
  | running =>
    by_cases hgo : v.p.ringInFlight = true ∨ v.p.ring.pendingSlots ≠ []
    · simpa [SeqState.afterStep, hgo] using (Ev.sequenced_same hs).symm
    · simpa [SeqState.afterStep, hgo] using Ev.enterSeq_eq (v := v) (st := .drained) (by simp [hs])
  | pausing =>
    cases hin : v.p.ringInFlight with
    | true => simpa [SeqState.afterStep] using (Ev.sequenced_same hs).symm
    | false => simpa [SeqState.afterStep] using Ev.enterSeq_eq (v := v) (st := .paused) (by simp [hs])
  | stopping =>
    dsimp only
    by_cases hopen : v.p.ringInFlight = false ∧ v.p.relay.matrixOpen = true
    · have hstops : v.judgeStopped = v.enterSeq .stopped := if_pos ⟨hs, hopen⟩
      rw [hstops]
      simpa [SeqState.afterStep, hopen] using Ev.enterSeq_eq (v := v) (st := .stopped) (by simp [hs])
    · have hstays : v.judgeStopped = v := by
        unfold Ev.judgeStopped
        exact if_neg fun h => hopen h.2
      rw [hstays]
      simpa [SeqState.afterStep, hopen] using (Ev.sequenced_same hs).symm
  | halted | stopped | paused | drained => exact (Ev.sequenced_same hs).symm

/-- PAUSE_AFTER with the state entries after it (R46 to R48, R51). -/
theorem Ev.pauseAfter_judgeState (v : Ev) (c : Completion) : (v.pauseAfter c).judgeState =
    v.sequenced (v.p.disp.seq.afterStep false c.record.pauseAfter v.p.ringInFlight
      (decide (v.p.ring.pendingSlots ≠ [])) v.p.relay.matrixOpen) v.p.log := by
  unfold Ev.pauseAfter
  by_cases hpause : c.record.pauseAfter = true ∧ v.p.disp.seq = .running
  · rw [if_pos hpause, hpause.1, hpause.2]
    cases hin : v.p.ringInFlight with
    | true =>
      have hentered := Ev.enterSeq_eq (v := v) (st := .pausing) (by simp [hpause.2])
      have hstays : (v.sequenced .pausing v.p.log).judgeState = v.sequenced .pausing v.p.log :=
        (Ev.judgeState_eq _).trans (Ev.sequenced_same (by
          rw [Part.ringInFlight_congr (p := v.p) (q := (v.sequenced .pausing v.p.log).p) rfl, hin]; rfl))
      simpa [SeqState.afterStep, hentered] using hstays
    | false =>
      have hentered := Ev.enterSeq_eq (v := v) (st := .paused) (by simp [hpause.2])
      have hstays : (v.sequenced .paused v.p.log).judgeState = v.sequenced .paused v.p.log := rfl
      simpa [SeqState.afterStep, hentered] using hstays
  · rw [if_neg hpause, Ev.judgeState_eq]
    cases hs : v.p.disp.seq with
    | running =>
      have hno : c.record.pauseAfter = false := by simpa [hs] using hpause
      rw [hno]
    | pausing | stopping | halted | stopped | paused | drained => rfl

/-- The judging of a direct step's completion asks for an evaluation (R65 step 5). -/
theorem Ev.judgeStep_direct {v : Ev} {c : Completion} (h : c.origin = none) : v.judgeStep c = { v with askEvaluate := true } := by
  simp [Ev.judgeStep, h]

/-- The judging of a ring step's completion: the state it leads to, and its error (R46 to R48, R51, R68). -/
theorem Ev.judgeStep_ring {v : Ev} {c : Completion} {slot : Nat} (h : c.origin = some slot) :
    v.judgeStep c = ({ v with askEvaluate := true } : Ev).sequenced
      (v.p.disp.seq.afterStep c.error.isSome c.record.pauseAfter v.p.ringInFlight (decide (v.p.ring.pendingSlots ≠ []))
        v.p.relay.matrixOpen)
      (v.p.log.afterError v.p.disp.seq (c.errorAt v.p.time48)) := by
  let w : Ev := { v with askEvaluate := true }
  have hstep : v.judgeStep c = ((match c.error with
      | some r => w.haltingError r
      | none => w).pauseAfter c).judgeState := by
    unfold Ev.judgeStep
    rw [h]
    rfl
  rw [hstep, Completion.errorAt_ring h]
  cases c.error with
  | none =>
    have hlog : v.p.log.afterError v.p.disp.seq none = v.p.log := by cases v.p.disp.seq <;> rfl
    exact (w.pauseAfter_judgeState c).trans (congrArg (w.sequenced _) hlog.symm)
  | some r =>
    dsimp only
    rw [Ev.haltingError_eq]
    cases hs : v.p.disp.seq with
    | running | pausing | halted =>
      rw [Ev.pauseAfter_judgeState]
      exact Ev.sequenced_same rfl
    | stopped | paused | drained | stopping =>
      have hstays : w.sequenced v.p.disp.seq.afterHalt (v.p.log.afterError v.p.disp.seq (some { r with time := v.p.time48 })) = w := by
        rw [hs]
        exact Ev.sequenced_same hs
      rw [← hs]
      exact (congrArg (fun x => (Ev.pauseAfter x c).judgeState) hstays).trans ((w.pauseAfter_judgeState c).trans (by rw [show w.p.disp.seq = v.p.disp.seq from rfl, hs]; rfl))

/-- The part once a completion has been taken, after the release of its claims. -/
def Part.takenBy (p : Part) (c : Completion) : Part :=
  match c.origin with
  | none => p.releasedBy c
  | some _ => (p.releasedBy c).sequenced
      (p.disp.seq.afterStep (c.errorAt 0).isSome c.record.pauseAfter (p.othersInFlight c.engine)
        (decide (p.ring.pendingSlots ≠ [])) (p.releasedBy c).relay.matrixOpen)
      (p.log.afterError p.disp.seq (c.errorAt p.time48))

theorem Part.releasedBy_rest (p : Part) (c : Completion) : ∃ nails, p.releasedBy c = { p with
    map := { p.map with nails := nails }
    relay := (p.relay.complete p.time c.engine).look p.time.tick
    disp := { p.disp with
      inFlight := p.disp.inFlight.set c.engine none, direct := if c.origin = none then none else p.disp.direct } } := by
  obtain ⟨nails, h⟩ := p.marked_map c
  exact ⟨nails, by rw [Part.releasedBy, h]⟩

/-- A completion taken as a whole (R65). -/
theorem Ev.takeCompletion_eq (v : Ev) (c : Completion) : v.takeCompletion c = { v with
    p := v.p.takenBy c
    steps := v.steps ++ c.work.stepNotice c.verdict
    entries := v.entries ++ (c.work.directNotice c.engine c.verdict c.cause ++ (v.p.takenBy c).seqEntry v.p.disp.seq)
    askEvaluate := true
    askRemainder := v.askRemainder ||
      decide (c.work.directNotice c.engine c.verdict c.cause ++ (v.p.takenBy c).seqEntry v.p.disp.seq ≠ []) } := by
  obtain ⟨nails, hrest⟩ := v.p.releasedBy_rest c
  unfold Ev.takeCompletion Part.takenBy
  rw [Ev.releaseStep_eq]
  cases horigin : c.origin with
  | none =>
    have hseq : (v.p.releasedBy c).seqEntry v.p.disp.seq = [] := by simp [Part.seqEntry, hrest]
    rw [Ev.judgeStep_direct horigin]
    simp [hseq, Completion.work, Work.directNotice, horigin]
  | some slot =>
    have hin : (v.p.releasedBy c).ringInFlight = v.p.othersInFlight c.engine := Part.ringInFlight_without (by rw [hrest])
    rw [Ev.judgeStep_ring horigin, Completion.errorAt_isSome horigin]
    simp only [hin]
    simp [hrest, Ev.sequenced, Completion.work, Work.directNotice, horigin, Part.time48]

/-- The Dispatcher's taking of a completion is what its statement says. -/
theorem Ev.takeCompletion_taken {v : Ev} {c : Completion} {x : Entry} (hx : v.p.disp.inFlight.get c.engine = some x) :
    v.CompletionTaken (v.takeCompletion c) c x := by
  obtain ⟨nails, hrest⟩ := v.p.releasedBy_rest c
  have hmap : x.retrying = false → (v.p.releasedBy c).map = v.p.map := by
    intro h
    simp [Part.releasedBy, Part.marked, hx, Part.markReplaced, h]
  have hp : ∃ st log, v.p.takenBy c = (v.p.releasedBy c).sequenced st log ∧
      st = (match c.origin with
        | none => v.p.disp.seq
        | some _ => v.p.disp.seq.afterStep (c.errorAt 0).isSome c.record.pauseAfter (v.p.othersInFlight c.engine)
            (decide (v.p.ring.pendingSlots ≠ [])) (v.p.releasedBy c).relay.matrixOpen) ∧
      log = v.p.log.afterError v.p.disp.seq (c.errorAt v.p.time48) := by
    unfold Part.takenBy
    cases horigin : c.origin with
    | none =>
      refine ⟨_, _, ?_, rfl, rfl⟩
      have hlog : v.p.log.afterError v.p.disp.seq none = v.p.log := by cases v.p.disp.seq <;> rfl
      simp only [Completion.errorAt_direct horigin, hlog]
      rw [hrest]
      rfl
    | some slot => exact ⟨_, _, rfl, rfl, rfl⟩
  obtain ⟨st, log, htaken, hst, hlog⟩ := hp
  have hrelay : (v.p.releasedBy c).relay = (v.p.relay.complete v.p.time c.engine).look v.p.time.tick := by rw [hrest]
  rw [Ev.takeCompletion_eq]
  refine ⟨?_, ?_, ?_, ?_, ?_, fun h => ?_, ?_, rfl, (List.append_assoc _ _ _).symm, ⟨rfl, rfl, rfl, rfl, rfl, rfl, rfl⟩, rfl, ?_⟩
  · exact ⟨by rw [htaken, Part.sequenced, hrest], by rw [htaken, Part.sequenced, hrest]⟩
  · rw [htaken, Part.sequenced, hrest]
  · rw [htaken, Part.sequenced, hrest]
  · rw [htaken, Part.sequenced, hst]; rfl
  · rw [htaken, Part.sequenced, hlog]; rfl
  · rw [htaken, Part.sequenced]; exact hmap h
  · rw [htaken, Part.sequenced, hrest]
    exact ⟨rfl, rfl, rfl, rfl, rfl, rfl, rfl, rfl, rfl⟩
  · simp

end Sys2Proof.Machine

/-! PROOFS. The end of a measurement step (R65 to R68, R84, R122, R123, R168, R171): what turning off, the final record and
the completion do to the part, and the event in which nothing follows. -/

namespace Sys2Proof.Machine

/-! ### An event that owes nothing that acts -/

/-- Turns that find the Scanner not waiting, nothing to evaluate and no remainder to send change nothing (R58, R169, R172). -/
theorem Ev.settle_idle {v : Ev} (hc : v.completions = []) (hr : v.askRemoval = false ∨ v.p.scanner.state ≠ .waitingSpace)
    (he : ∀ w : Ev, w.p = v.p → w.evaluate = w) (hm : v.askRemainder = false ∨ v.p.noRemainder = true) (n : Nat) :
    (v.settle n).p = v.p ∧ (v.settle n).frames = v.frames := by
  induction n generalizing v with
  | zero => exact ⟨rfl, rfl⟩
  | succ n ih =>
    by_cases hrem : v.askRemoval = true
    · have hidle : ({ v with askRemoval := false } : Ev).scannerRemoval = { v with askRemoval := false } :=
        Ev.scannerRemoval_idle _ (hr.resolve_left (by simp [hrem]))
      rw [v.settle_removal n hc hrem, hidle]
      exact ih (v := { v with askRemoval := false }) hc (.inl rfl) he hm
    · have hno : v.askRemoval = false := by simpa using hrem
      by_cases heval : v.askEvaluate = true
      · rw [v.settle_evaluate n hc hno heval, he { v with askEvaluate := false } rfl]
        exact ih (v := { v with askEvaluate := false }) hc (.inl hno) he hm
      · have hev : v.askEvaluate = false := by simpa using heval
        by_cases hask : v.askRemainder = true
        · have hstand : v.handRemainder = { v with askRemainder := false } := by
            have hnone := hm.resolve_left (by simp [hask])
            unfold Ev.handRemainder
            refine if_neg fun h => ?_
            simp [Part.noRemainder, h.1, h.2] at hnone
          rw [v.settle_remainder n hc hno hev hask, hstand]
          exact ih (v := { v with askRemainder := false }) hc (.inl hno) he (.inl rfl)
        · rw [v.settle_plain (n + 1) hc hno hev (by simpa using hask)]
          exact ⟨rfl, rfl⟩

/-- Such an event hands its frames. -/
theorem Ev.finished_idle {v : Ev} (hc : v.completions = []) (hr : v.askRemoval = false ∨ v.p.scanner.state ≠ .waitingSpace)
    (he : ∀ w : Ev, w.p = v.p → w.evaluate = w) (hm : v.askRemainder = false ∨ v.p.noRemainder = true) (n : Nat) :
    v.finished n = v.p.hand v.frames := by
  obtain ⟨hp, hf⟩ := Ev.settle_idle hc hr he hm n
  rw [Ev.finished, hp, hf]

/-- An event whose one completion is taken, and which then is finished (R65). -/
theorem event_completion {s : State} {f : Ev → Ev} {v : Ev} {c : Completion} (hv : f (Ev.start s.part) = v)
    (hc : v.completions = [c]) : event s f = .next { s with
      part := (({ v with completions := [] } : Ev).takeCompletion c).finished (settleFuel - 1) } := by
  unfold event Ev.close Ev.finished
  rw [hv]
  have hturn : v.settle settleFuel = (({ v with completions := [] } : Ev).takeCompletion c).settle (settleFuel - 1) :=
    v.settle_completion 5999 c [] hc
  dsimp only
  rw [hturn]

/-! ### An evaluation with nothing PENDING (R58) -/

/-- With no slot PENDING and no direct step, an evaluation changes nothing. -/
theorem Ev.evaluate_idle {v : Ev} (hp : v.p.ring.pendingSlots = []) (hd : v.p.disp.direct = none) : v.evaluate = v := by
  have h1 : v.judgeDirect = v := by simp [Ev.judgeDirect, hd]
  have h2 : v.judgeFailure = v := by
    unfold Ev.judgeFailure
    dsimp only
    rw [hp]
    split
    next h => cases h
    · rfl
  have h3 : v.p.windowSlots = [] := by
    unfold Part.windowSlots
    rw [hp]
    cases v.p.disp.window <;> rfl
  unfold Ev.evaluate
  rw [h1, h2]
  simp [Ev.dispatchEligible, h3, Part.firstEligible]

/-- The seek for a PENDING slot ends at COMMIT where there is none. -/
theorem Ring.seekPending_of_none {r : Ring} (hcommit : r.commit < 1024) (n : Nat) {i : Nat} (hi : i < 1024)
    (hnone : ∀ j, j < (r.commit + 1024 - i) % 1024 → r.stateOf ((i + j) % 1024) ≠ .pending) :
    r.seekPending n i = r.commit := by
  induction n generalizing i with
  | zero => rfl
  | succ n ih =>
    unfold Ring.seekPending
    split
    · rfl
    next hne =>
      have hfirst : r.stateOf i ≠ .pending := by
        have h := hnone 0 (by omega)
        rwa [Nat.add_zero, Nat.mod_eq_of_lt hi] at h
      rw [if_neg hfirst]
      refine ih (ringNext_lt i) fun j hj => ?_
      have hstep : (ringNext i + j) % 1024 = (i + (j + 1)) % 1024 := by simp only [ringNext, Config.slots]; omega
      rw [hstep]
      exact hnone (j + 1) (by simp only [ringNext, Config.slots] at hj; omega)

theorem Ring.retireFrom_positions (n : Nat) (r : Ring) : (r.retireFrom n).next = r.next ∧ (r.retireFrom n).commit = r.commit := by
  induction n generalizing r with
  | zero => exact ⟨rfl, rfl⟩
  | succ n ih =>
    unfold Ring.retireFrom
    split
    · exact ⟨rfl, rfl⟩
    · split
      · exact ih r.retireOne
      · exact ⟨rfl, rfl⟩

/-- The end of a step makes no slot PENDING. -/
theorem Ring.endedBy_pendingSlots {r : Ring} (hr : r.InRange) (h : r.pendingSlots = []) (origin : Option Nat) :
    (r.endedBy origin).pendingSlots = [] := by
  cases origin with
  | none => exact h
  | some i =>
    obtain ⟨-, hnext, hcommit⟩ := hr.positions
    have hnone : ∀ j, j < (r.commit + 1024 - r.next) % 1024 → (r.setState i .done).stateOf ((r.next + j) % 1024) ≠ .pending := by
      intro j hj
      have hbefore : r.stateOf ((r.next + j) % 1024) ≠ .pending := by
        have hmem := List.filter_eq_nil_iff.mp h ((r.next + j) % 1024) (List.mem_map.mpr ⟨j, List.mem_range.mpr hj, rfl⟩)
        simpa using hmem
      rw [Ring.stateOf_setState hr]
      split
      · nofun
      · exact hbefore
    have hseek : (r.setState i .done).advanceNext.next = r.commit :=
      Ring.seekPending_of_none (r := r.setState i .done) hcommit Config.slots hnext hnone
    obtain ⟨hn, hc⟩ := Ring.retireFrom_positions Config.slots (r.setState i .done).advanceNext
    have hat : (r.endedBy (some i)).next = r.commit := hn.trans hseek
    have hat' : (r.endedBy (some i)).commit = r.commit := hc
    unfold Ring.pendingSlots
    rw [hat, hat', show (r.commit + Config.slots - r.commit) % Config.slots = 0 by simp]
    rfl

/-! ### The final record (R123, R168, R171) -/

/-- The full blocks of a queue of at most B records. -/
theorem Part.fullBlocks_once {p : Part} (h : p.queue.block = 0 ∨ p.queue.records.length ≤ p.queue.block) (n : Nat) :
    p.fullBlocks (n + 1) = if p.queue.block ≠ 0 ∧ p.queue.records.length = p.queue.block then
      ([⟨p.queue.blockNumber, .full, 0, p.queue.reserved, p.time48, p.disp.seq, p.queue.records⟩],
        { p with queue := { p.queue with records := [], blockNumber := (p.queue.blockNumber + 1) % 65536 } })
    else ([], p) := by
  by_cases hfull : p.queue.block ≠ 0 ∧ p.queue.records.length = p.queue.block
  · obtain ⟨hne, hlen⟩ := hfull
    have htaken : p.takeBlock p.queue.block .full =
        (⟨p.queue.blockNumber, .full, 0, p.queue.reserved, p.time48, p.disp.seq, p.queue.records⟩,
          { p with queue := { p.queue with records := [], blockNumber := (p.queue.blockNumber + 1) % 65536 } }) := by
      simp [Part.takeBlock, ← hlen]
    rw [if_pos ⟨hne, hlen⟩, Part.fullBlocks_succ ⟨hne, hlen.ge⟩, htaken, Part.fullBlocks_of_short (by simp)]
  · rw [if_neg hfull, Part.fullBlocks_of_short (by omega)]

/-- A final record that joins the queue fills at most one block. -/
theorem Ev.appendFinal_eq {v : Ev} (h : v.p.queue.block = 0 ∨ v.p.queue.records.length < v.p.queue.block) (r : ResultRecord) :
    v.appendFinal r =
      let final : ResultRecord := { r with time := v.p.time48 }
      let full := decide (v.p.queue.records.length + 1 = v.p.queue.block)
      { v with
        p := { v.p with queue := ({ v.p.queue with reserved := v.p.queue.reserved - 1 } : ResultQueue).joined final }
        blocks := v.blocks ++ v.p.filledBlock final
        askEvaluate := v.askEvaluate || full, askRemoval := v.askRemoval || full } := by
  have hlen : ∀ x : ResultRecord, (v.p.queue.records ++ [x]).length = v.p.queue.records.length + 1 := fun x => by simp
  unfold Ev.appendFinal Ev.append
  rw [Ev.formBlocks_eq]
  dsimp only [Ev.map_p]
  rw [Part.fullBlocks_once (by simp only [hlen]; omega)]
  dsimp only
  rw [hlen]
  by_cases hfull : v.p.queue.records.length + 1 = v.p.queue.block
  · rw [if_pos ⟨by omega, hfull⟩]
    simp [ResultQueue.joined, Part.filledBlock, hfull, Part.time48, Ev.map]
  · rw [if_neg fun hc => hfull hc.2]
    simp [ResultQueue.joined, Part.filledBlock, hfull, Part.time48, Ev.map]

/-! ### Turning off (R84, R120 to R125) -/

/-- The relays once an engine has left the quiet phase it may be in, and the link has looked (R84). -/
def Part.leftRelay (p : Part) (e : EngineId) : Relay :=
  if (p.plan e).quiet then
    ({ p.relay with plans := p.relay.plans.set e { p.plan e with quiet := false } } : Relay).look p.time.tick
  else p.relay

/-- The part with the relays and the capture unit as an engine that is turned off leaves them. -/
def Part.silenced (p : Part) (e : EngineId) : Part := { p.disarm e with relay := p.leftRelay e }

theorem Part.leftRelay_not_quiet (p : Part) (e : EngineId) : ((p.leftRelay e).plans.get e).quiet = false := by
  unfold Part.leftRelay
  split
  · rw [Relay.look_plans, PerEngine.get_set_same]
  next h => exact Bool.eq_false_iff.mpr h

/-- An engine turned off beside engines that wait for no still matrix. -/
theorem Ev.turnOff_alone {v : Ev} {e : EngineId} (h : v.p.AloneInQuiet e) :
    v.turnOff e = ({ v with p := v.p.silenced e } : Ev).withEngine e (v.p.engine e).quietDown := by
  by_cases hq : (v.p.plan e).quiet = true
  · let off : Ev := (v.onEngine e Engine.quietDown).map fun p => p.disarm e
    have hcalm : off.p.noStillWait = true := by
      refine Part.noStillWait_iff.mpr fun f => ?_
      by_cases hf : f = e
      · rw [hf, show off.p.engine e = (v.p.engine e).quietDown from Part.engine_setEngine_same _ _ _]
        rfl
      · rw [show off.p.engine f = v.p.engine f from Part.engine_setEngine_ne _ _ _ _ hf]
        exact h hq f hf
    have hleft : v.p.leftRelay e =
        ({ v.p.relay with plans := v.p.relay.plans.set e { v.p.plan e with quiet := false } } : Relay).look v.p.time.tick :=
      if_pos hq
    refine (Ev.leaveQuiet_of_quiet (v := off) hq hcalm).trans ?_
    rw [Part.silenced, hleft]
    rfl
  · have hq' : (v.p.plan e).quiet = false := by simpa using hq
    have hleft : v.p.leftRelay e = v.p.relay := if_neg hq
    rw [Ev.turnOff_of_not_quiet hq', Part.silenced, hleft]
    rfl

/-! ### The completion of a step (R122) -/

/-- The part once a step has ended on its engine, before its completion is taken (R122, R123, R168). -/
def Part.stepDone (p : Part) (e : EngineId) (w : Work) (f : Formed) (cause : Option Cause) (after : Engine) : Part :=
  { (p.silenced e).setEngine e after with
    queue := ({ p.queue with reserved := p.queue.reserved - 1 } : ResultQueue).joined (p.workRecord e w f cause)
    ring := p.ring.endedBy w.origin }

/-- A step completed on its engine, as a whole. -/
theorem Ev.completeStep_eq {v : Ev} {e : EngineId} {w : Work} (hw : (v.p.engine e).work = some w) (halone : v.p.AloneInQuiet e)
    (hblock : v.p.queue.block = 0 ∨ v.p.queue.records.length < v.p.queue.block) (f : Formed) (cause : Option Cause)
    (card : Option Nat) (faulted : Bool) :
    v.completeStep e f cause card faulted =
      let full := decide (v.p.queue.records.length + 1 = v.p.queue.block)
      { v with
        p := v.p.stepDone e w f cause ((v.p.engine e).ended faulted)
        blocks := v.blocks ++ v.p.filledBlock (v.p.workRecord e w f cause)
        askEvaluate := v.askEvaluate || full, askRemoval := v.askRemoval || full
        completions := v.completions ++ [⟨e, w.origin, w.record, f.verdict, cause, card⟩] } := by
  let full := decide (v.p.queue.records.length + 1 = v.p.queue.block)
  let queue := ({ v.p.queue with reserved := v.p.queue.reserved - 1 } : ResultQueue).joined (v.p.workRecord e w f cause)
  let base : Ev := { v with
    p := { v.p.silenced e with queue := queue }
    blocks := v.blocks ++ v.p.filledBlock (v.p.workRecord e w f cause)
    askEvaluate := v.askEvaluate || full, askRemoval := v.askRemoval || full }
  have hrecord : ((v.turnOff e).p.engine e).finalRecord e w f cause = { v.p.workRecord e w f cause with time := 0 } := by
    rw [Ev.turnOff_alone halone, Ev.withEngine_engine]
    rfl
  have happend : (v.turnOff e).appendFinal (((v.turnOff e).p.engine e).finalRecord e w f cause) =
      base.withEngine e (v.p.engine e).quietDown := by
    rw [hrecord, Ev.turnOff_alone halone]
    exact Ev.appendFinal_eq (v := ({ v with p := v.p.silenced e } : Ev).withEngine e (v.p.engine e).quietDown) hblock _
  have hended : (base.withEngine e (v.p.engine e).quietDown).onEngine e (fun g => g.ended faulted) =
      base.withEngine e ((v.p.engine e).ended faulted) := base.withEngine_onEngine e _ _
  unfold Ev.completeStep
  rw [hw]
  dsimp only
  rw [happend, hended]
  unfold Part.stepDone
  cases w.origin <;> rfl

/-- Two engines that give the same final record of a step, and the same number of the last request. -/
def Engine.SameMarks (g h : Engine) : Prop :=
  g.clamped = h.clamped ∧ g.retry = h.retry ∧ g.timeDegraded = h.timeDegraded ∧ g.reuseMark = h.reuseMark ∧
    g.readyMark = h.readyMark ∧ g.sequence = h.sequence

theorem Part.workRecord_setEngine {q : Part} {e : EngineId} {g : Engine} (h : g.SameMarks (q.engine e)) (w : Work) (f : Formed)
    (cause : Option Cause) : (q.setEngine e g).workRecord e w f cause = q.workRecord e w f cause := by
  obtain ⟨hclamped, hretry, hdegraded, hreuse, hready, -⟩ := h
  unfold Part.workRecord
  rw [Part.engine_setEngine_same, hclamped, hretry, hdegraded, hreuse, hready]
  rfl

/-- What else the engine holds does not reach the end of its step. -/
theorem Part.stepDone_setEngine {q : Part} {e : EngineId} {g : Engine} (h : g.SameMarks (q.engine e)) (w : Work) (f : Formed)
    (cause : Option Cause) (after : Engine) : (q.setEngine e g).stepDone e w f cause after = q.stepDone e w f cause after := by
  have hset : ((q.setEngine e g).silenced e).setEngine e after = (q.silenced e).setEngine e after :=
    Part.setEngine_setEngine (q.silenced e) e g after
  unfold Part.stepDone
  rw [hset, Part.workRecord_setEngine h]
  rfl

theorem Part.silenced_silenced (q : Part) (e : EngineId) : (q.silenced e).silenced e = q.silenced e := by
  have hrelay : (q.silenced e).leftRelay e = q.leftRelay e :=
    if_neg (by rw [show ((q.silenced e).plan e).quiet = false from q.leftRelay_not_quiet e]; nofun)
  have htime : (q.time.captures.set e (q.time.captures.get e).disarm).set e
      ((q.time.captures.set e (q.time.captures.get e).disarm).get e).disarm = q.time.captures.set e (q.time.captures.get e).disarm := by
    rw [PerEngine.set_set, PerEngine.get_set_same]
    rfl
  have hdisarm : (q.silenced e).disarm e = q.silenced e := congrArg (fun c => { q.silenced e with time := { q.time with captures := c } }) htime
  rw [Part.silenced, hrelay, hdisarm]
  rfl

/-- An engine that is turned off twice ends its step as one that is turned off once. -/
theorem Part.stepDone_silenced (q : Part) (e : EngineId) (w : Work) (f : Formed) (cause : Option Cause) (after : Engine) :
    (q.silenced e).stepDone e w f cause after = q.stepDone e w f cause after := by
  unfold Part.stepDone
  rw [q.silenced_silenced]
  rfl

theorem Part.aloneInQuiet_silenced (q : Part) (e : EngineId) : (q.silenced e).AloneInQuiet e := fun h => by
  rw [show ((q.silenced e).plan e).quiet = false from q.leftRelay_not_quiet e] at h
  cases h

theorem Part.AloneInQuiet.setEngine {q : Part} {e : EngineId} (h : q.AloneInQuiet e) (g : Engine) :
    (q.setEngine e g).AloneInQuiet e := fun hq f hf => by
  rw [Part.engine_setEngine_ne _ _ _ _ hf]
  exact h hq f hf

/-- The completion that a step's end reports. -/
def Work.completion (w : Work) (e : EngineId) (verdict : Verdict) (cause : Option Cause) (card : Option Nat) : Completion :=
  ⟨e, w.origin, w.record, verdict, cause, card⟩

/-- The part once the completion of a step that has ended is taken. -/
theorem Part.stepDone_takenBy {q : Part} {e : EngineId} {x : Entry} (hx : q.disp.inFlight.get e = some x) (w : Work)
    (f : Formed) (cause : Option Cause) (after : Engine) (card : Option Nat) :
    let c := w.completion e f.verdict cause card
    let t := q.stepDone e w f cause after
    t.takenBy c = { t.markReplaced x f.verdict with
      relay := q.stepRelay e
      log := q.log.afterError q.disp.seq (c.errorAt q.time48)
      disp := ⟨match w.origin with
        | none => q.disp.seq
        | some _ => q.disp.seq.afterStep (c.errorAt 0).isSome w.record.pauseAfter (q.othersInFlight e)
            (decide ((q.ring.endedBy w.origin).pendingSlots ≠ [])) (q.stepRelay e).matrixOpen,
        q.disp.window, q.disp.inFlight.set e none, if w.origin = none then none else q.disp.direct⟩ } := by
  intro c t
  have hreleased : t.releasedBy c = { t.markReplaced x f.verdict with
      relay := q.stepRelay e
      disp := ⟨q.disp.seq, q.disp.window, q.disp.inFlight.set e none, if w.origin = none then none else q.disp.direct⟩ } := by
    have hmarked : t.marked c = t.markReplaced x f.verdict := by
      unfold Part.marked
      rw [show t.disp.inFlight.get c.engine = some x from hx]
      rfl
    rw [Part.releasedBy, hmarked]
    rfl
  unfold Part.takenBy
  rw [hreleased]
  obtain ⟨nails, hmarks⟩ := t.markReplaced_eq x f.verdict
  rw [hmarks]
  cases horigin : w.origin with
  | none =>
    have hlog : q.log.afterError q.disp.seq (c.errorAt q.time48) = q.log := by
      rw [Completion.errorAt_direct horigin]
      cases q.disp.seq <;> rfl
    rw [hlog, show c.origin = none from horigin]
    rfl
  | some i =>
    rw [show c.origin = some i from horigin]
    have hring : t.ring = q.ring.endedBy (some i) := by rw [← horigin]; rfl
    simp only [hring]
    rfl

/-- What the end of a step leaves of its own work, whatever the relays, the sequencer, the log and the link become. -/
theorem Part.stepDone_workEnded {q : Part} {e : EngineId} {w : Work} {x : Entry} {f : Formed} {cause : Option Cause}
    {faulted : Bool} {g : Engine} (hg : g.sequence = (q.engine e).sequence) {t : Part} {relay : Relay} {seq : SeqState}
    {log : ErrorLog} {link : LinkPort}
    (ht : t = { (q.stepDone e w f cause (g.ended faulted)).markReplaced x f.verdict with
      relay := relay, log := log, link := link,
      disp := ⟨seq, q.disp.window, q.disp.inFlight.set e none, if w.origin = none then none else q.disp.direct⟩ }) :
    q.WorkEnded t e w x f cause faulted := by
  let P := q.stepDone e w f cause (g.ended faulted)
  obtain ⟨nails, hmarks⟩ := P.markReplaced_eq x f.verdict
  have hmap : t.map = { q.map with nails := nails } := by rw [ht]; exact congrArg Part.map hmarks
  rw [show (q.stepDone e w f cause (g.ended faulted)).markReplaced x f.verdict = _ from hmarks] at ht
  have hengine : t.engine e = g.ended faulted := by rw [ht]; exact PerEngine.get_set_same _ _ _
  refine ⟨by rw [ht]; rfl, ?_, fun h hh => by rw [ht]; exact PerEngine.get_set_ne _ _ _ _ hh, by rw [ht]; rfl,
    by rw [ht]; exact ⟨rfl, rfl⟩, ?_, by rw [ht], fun hwf n => ?_, by rw [hmap], by rw [ht]; exact ⟨rfl, rfl, rfl⟩⟩
  · rw [hengine]
    exact ⟨rfl, rfl, rfl, rfl, rfl, rfl, rfl, rfl, rfl, hg⟩
  · rw [ht]
    change q.ring.endedBy w.origin = _
    cases w.origin <;> rfl
  · obtain ⟨marked, heq, -, hread⟩ := Part.markReplaced_spec (p := P) hwf x f.verdict
    have hsame : nails = marked := congrArg (fun p : Part => p.map.nails) (hmarks.symm.trans heq)
    have hnail : t.nail n = lookup .unlisted marked n := by rw [← hsame, Part.nail, hmap]
    rw [hnail, hread]
    rfl

/-! ### The event in which a step ends -/

/-- The event in which a step has ended on its engine, its completion not yet taken (R122, R168, R171). -/
def Part.stepEnds (q : Part) (e : EngineId) (w : Work) (f : Formed) (cause : Option Cause) (card : Option Nat) (after : Engine) :
    Ev :=
  let full := decide (q.queue.records.length + 1 = q.queue.block)
  { Ev.start (q.stepDone e w f cause after) with
    blocks := q.filledBlock (q.workRecord e w f cause)
    askEvaluate := full, askRemoval := full, completions := [w.completion e f.verdict cause card] }

/-- An engine that serves a step completes it as that step's end, whatever else the engine and the turning off hold. -/
theorem Part.completeStep_ends {q : Part} {e : EngineId} {w : Work} {g : Engine} (hg : g.SameMarks (q.engine e))
    (hw : g.work = some w) (halone : q.AloneInQuiet e)
    (hblock : q.queue.block = 0 ∨ q.queue.records.length < q.queue.block) (f : Formed) (cause : Option Cause) (card : Option Nat)
    (faulted : Bool) :
    ((Ev.start q).withEngine e g).completeStep e f cause card faulted = q.stepEnds e w f cause card (g.ended faulted) := by
  have hengine : ((Ev.start q).withEngine e g).p.engine e = g := Ev.withEngine_engine _ _ _
  have hdone : (q.setEngine e g).stepDone e w f cause (g.ended faulted) = q.stepDone e w f cause (g.ended faulted) :=
    Part.stepDone_setEngine hg w f cause _
  have hrecord : (q.setEngine e g).workRecord e w f cause = q.workRecord e w f cause := Part.workRecord_setEngine hg w f cause
  rw [Ev.completeStep_eq (by rw [hengine]; exact hw) (halone.setEngine g) hblock, hengine]
  dsimp only [Ev.withEngine, Ev.start]
  rw [hdone, hrecord]
  rfl

/-- The same of an engine that was turned off before. -/
theorem Part.completeStep_ends_silenced {q : Part} {e : EngineId} {w : Work} {g : Engine} (hg : g.SameMarks (q.engine e))
    (hw : g.work = some w) (hblock : q.queue.block = 0 ∨ q.queue.records.length < q.queue.block) (f : Formed)
    (cause : Option Cause) (card : Option Nat) (faulted : Bool) :
    ((Ev.start (q.silenced e)).withEngine e g).completeStep e f cause card faulted =
      q.stepEnds e w f cause card (g.ended faulted) := by
  have hdone := q.stepDone_silenced e w f cause (g.ended faulted)
  have hends := Part.completeStep_ends (q := q.silenced e) hg hw (q.aloneInQuiet_silenced e) hblock f cause card faulted
  rw [hends]
  unfold Part.stepEnds
  rw [hdone]
  rfl

section
variable {q : Part} {e : EngineId} {w : Work} {x : Entry} {f : Formed} {cause : Option Cause} {faulted : Bool} {g : Engine}

/-- Without a card the error of a completion is the one of its step's end (R68). -/
theorem Work.completion_error (w : Work) (e : EngineId) (f : Formed) (cause : Option Cause) (time : Nat) :
    (w.completion e f.verdict cause none).errorAt time = w.endError e f cause time := by
  cases horigin : w.origin with
  | none => simp [Completion.errorAt, Work.endErrorOn, Work.endError, Work.completion, Completion.work, horigin]
  | some slot =>
    by_cases hfault : f.verdict = .fault
    · cases cause <;> simp [Completion.errorAt, Work.endErrorOn, Work.endError, Work.completion, Completion.work, horigin, hfault]
    · by_cases hfail : w.record.stopOnFail = true ∧ f.verdict.failing = true <;>
        simp [Completion.errorAt, Work.endErrorOn, Work.endError, Work.completion, Completion.work, horigin, hfault, hfail]

/-- The event with the completion taken, before what it still owes. -/
def Part.stepTaken (q : Part) (e : EngineId) (w : Work) (f : Formed) (cause : Option Cause) (card : Option Nat) (after : Engine) :
    Ev :=
  ({ q.stepEnds e w f cause card after with completions := [] } : Ev).takeCompletion (w.completion e f.verdict cause card)

theorem Part.stepTaken_p (q : Part) (e : EngineId) (w : Work) (f : Formed) (cause : Option Cause) (card : Option Nat)
    (after : Engine) : (q.stepTaken e w f cause card after).p =
      (q.stepDone e w f cause after).takenBy (w.completion e f.verdict cause card) := by
  unfold Part.stepTaken
  rw [Ev.takeCompletion_eq]
  rfl

theorem Part.stepTaken_left (hx : q.disp.inFlight.get e = some x) (hg : g.sequence = (q.engine e).sequence) :
    q.StepLeft (q.stepTaken e w f cause none (g.ended faulted)).p e w x f cause faulted := by
  have htaken := (q.stepTaken_p e w f cause none (g.ended faulted)).trans (Part.stepDone_takenBy hx w f cause (g.ended faulted) none)
  have hwork : q.WorkEnded (q.stepTaken e w f cause none (g.ended faulted)).p e w x f cause faulted := by
    obtain ⟨nails, hmarks⟩ := (q.stepDone e w f cause (g.ended faulted)).markReplaced_eq x f.verdict
    exact Part.stepDone_workEnded hg (link := q.link) (htaken.trans (by rw [hmarks]; rfl))
  refine ⟨hwork, by rw [htaken], ?_, ?_⟩
  · have hring : (q.stepTaken e w f cause none (g.ended faulted)).p.ring = q.ring.endedBy w.origin := by
      rw [hwork.ring]; cases w.origin <;> rfl
    rw [hring, htaken]
    cases w.origin <;> simp only [Work.completion_error]
  · rw [htaken]
    exact congrArg (q.log.afterError q.disp.seq) (w.completion_error e f cause _)

theorem Part.stepTaken_ending (hx : q.disp.inFlight.get e = some x) (hg : g.sequence = (q.engine e).sequence) :
    q.StepEnding (q.stepTaken e w f cause none (g.ended faulted)) e w x f cause faulted := by
  have hleft := Part.stepTaken_left (w := w) (f := f) (cause := cause) (faulted := faulted) hx hg
  have hlink : (q.stepTaken e w f cause none (g.ended faulted)).p.link = q.link := by
    rw [Part.stepTaken_p, Part.stepDone_takenBy hx]
    obtain ⟨nails, hmarks⟩ := (q.stepDone e w f cause (g.ended faulted)).markReplaced_eq x f.verdict
    rw [hmarks]
    rfl
  have htaken : q.stepTaken e w f cause none (g.ended faulted) = _ := Ev.takeCompletion_eq _ _
  refine ⟨hleft, hlink, ?_, ?_, ?_, ?_, ?_⟩
  · rw [htaken]
    exact ⟨rfl, rfl, rfl⟩
  · rw [htaken]
    exact ⟨rfl, rfl, rfl, rfl, rfl⟩
  · rw [htaken]
  · rw [htaken]
    rfl
  · rw [htaken]
    rfl

end

/-! ### The event in which nothing follows the end -/

theorem SeqState.running_of_afterStep {st : SeqState} {error pauseAfter others pending matrixOpen : Bool}
    (h : st.afterStep error pauseAfter others pending matrixOpen = .running) : st = .running := by
  cases st with
  | running => rfl
  | pausing | stopping => unfold SeqState.afterStep at h; split_ifs at h
  | halted | stopped | paused | drained => cases h

/-- Where nothing follows the end of a step or scan, the evaluation after it changes nothing. -/
theorem Part.NothingFollows.evaluate {q t : Part} {origin : Option Nat} (h : q.NothingFollows origin) (hr : q.ring.InRange)
    (hreserved : 1 ≤ q.queue.reserved) {r : ResultRecord}
    (hqueue : t.queue = ({ q.queue with reserved := q.queue.reserved - 1 } : ResultQueue).joined r)
    (hring : t.ring = q.ring.endedBy origin) (hdirect : t.disp.direct = if origin = none then none else q.disp.direct)
    (hseq : t.disp.seq = .running → q.disp.seq = .running) (w : Ev) (hw : w.p = t) : w.evaluate = w := by
  rcases h with ⟨hblock, hfree⟩ | ⟨hidle, hnone⟩
  · refine w.evaluate_noRecord ?_
    replace hqueue := hqueue.trans (ResultQueue.joined_unstreamed { q.queue with reserved := q.queue.reserved - 1 } r hblock)
    rw [hw]
    replace hfree : ¬ q.queue.records.length + q.queue.reserved < 512 := of_decide_eq_false hfree
    simp only [Part.recordFree, hqueue, Config.records, decide_eq_false_iff_not, List.length_append, List.length_singleton]
    omega
  · have hquiet : t.disp.direct = none := by
      rw [hdirect]
      rcases hnone with h | h <;> simp [h]
    rcases hidle with hs | hs
    · exact w.evaluate_quiet (by rw [hw]; exact fun h => hs (hseq h)) (by rw [hw, hquiet])
    · exact Ev.evaluate_idle (by rw [hw, hring]; exact Ring.endedBy_pendingSlots hr hs origin) (by rw [hw, hquiet])

theorem Part.hand_link_congr {p q : Part} (hlink : p.link = q.link) (htick : p.time.tick = q.time.tick) (fs : List OutFrame) :
    (p.hand fs).link = (q.hand fs).link := by
  unfold Part.hand
  split
  · exact hlink
  · simp only [hlink, htick]

section
variable {q t : Part} {e : EngineId} {w : Work} {x : Entry} {f : Formed} {cause : Option Cause} {faulted : Bool}

theorem Part.WorkEnded.hand (h : q.WorkEnded t e w x f cause faulted) (fs : List OutFrame) :
    q.WorkEnded (t.hand fs) e w x f cause faulted := by
  rw [Part.hand_eq]
  exact ⟨h.queue, h.engine, h.engines, h.time, h.inFlight, h.ring, h.direct, h.nails, h.map, h.rest⟩

theorem Part.StepLeft.hand (h : q.StepLeft t e w x f cause faulted) (fs : List OutFrame) :
    q.StepLeft (t.hand fs) e w x f cause faulted := by
  have hwork := h.work.hand fs
  rw [Part.hand_eq] at hwork ⊢
  exact ⟨hwork, h.relay, h.seq, h.log⟩

theorem Part.WorkEnded.tick (h : q.WorkEnded t e w x f cause faulted) : t.time.tick = q.time.tick := by rw [h.time]

theorem Part.WorkEnded.ring_endedBy (h : q.WorkEnded t e w x f cause faulted) : t.ring = q.ring.endedBy w.origin := by
  rw [h.ring]
  cases w.origin <;> rfl

theorem Part.StepLeft.running (h : q.StepLeft t e w x f cause faulted) (hs : t.disp.seq = .running) : q.disp.seq = .running := by
  have hseq := h.seq
  cases horigin : w.origin with
  | none => rw [horigin] at hseq; exact hseq.symm.trans hs
  | some i => rw [horigin] at hseq; exact SeqState.running_of_afterStep (hseq.symm.trans hs)

end

/-- A queue that streams nothing, or that a joining record has emptied, holds no remainder. -/
theorem ResultQueue.joined_noRemainder {q : Part} {t : Part} {r : ResultRecord} {n : Nat}
    (hblock : q.queue.block = 0 ∨ q.queue.records.length + 1 = q.queue.block)
    (hqueue : t.queue = ({ q.queue with reserved := n } : ResultQueue).joined r) : t.noRemainder = true := by
  unfold Part.noRemainder
  rw [hqueue]
  rcases hblock with h | h
  · rw [ResultQueue.joined_unstreamed { q.queue with reserved := n } r h]
    simp [h]
  · simp [ResultQueue.joined, h]

/-- Where nothing follows it, the end of a step is what its statement says. -/
theorem Part.EndsAlone.ended {q : Part} {e : EngineId} {w : Work} {x : Entry} (h : q.EndsAlone e w x) {g : Engine}
    (hg : g.sequence = (q.engine e).sequence) (f : Formed) (cause : Option Cause) (faulted : Bool) (n : Nat) :
    q.StepEnded ((q.stepTaken e w f cause none (g.ended faulted)).finished n) e w x f cause faulted := by
  have hend := Part.stepTaken_ending (w := w) (f := f) (cause := cause) (faulted := faulted) h.measures.entry hg
  generalize q.stepTaken e w f cause none (g.ended faulted) = v at hend ⊢
  obtain ⟨hleft, hlink, ⟨hblocks, hsteps, hentries⟩, ⟨hfirst, hreplies, hremainders, hlast, hcompletions⟩, -, hremoval, -⟩ := hend
  have hwork := hleft.work
  have hblock : q.queue.block = 0 ∨ q.queue.records.length + 1 = q.queue.block := h.block.imp id (·.1)
  have hfinished : v.finished n = v.p.hand v.frames := by
    refine Ev.finished_idle hcompletions ?_ (fun u hu => h.nothing.evaluate h.ring h.reserved hwork.queue hwork.ring_endedBy
      hwork.direct hleft.running u hu) (.inr (ResultQueue.joined_noRemainder hblock hwork.queue)) n
    rcases h.block with hb | ⟨-, hb⟩
    · exact .inl (hremoval.trans (decide_eq_false (by omega)))
    · exact .inr (by rw [hwork.rest.2.2]; exact hb)
  have hframes : v.frames = q.filledBlock (q.workRecord e w f cause) ++ w.stepNotice f.verdict ++
      w.directNotice e f.verdict cause ++ v.p.seqEntry q.disp.seq := by
    simp [Ev.frames, hblocks, hsteps, hentries, hfirst, hreplies, hremainders, hlast]
  have hentry : (v.p.hand v.frames).seqEntry q.disp.seq = v.p.seqEntry q.disp.seq := by
    rw [Part.hand_eq]
    rfl
  rw [hfinished]
  refine ⟨hleft.hand _, ?_⟩
  rw [hentry, ← hframes]
  exact Part.hand_link_congr hlink hwork.tick _

end Sys2Proof.Machine

/-! PROOFS. The commands that end a measurement step (R113 to R115, R118 to R120, R122 to R124). -/

namespace Sys2Proof.Machine

/-! ### The acts that end a step -/

/-- An OPEN that is not tried again completes the step (R115, R119). -/
theorem Ev.afterOpen_completes {v : Ev} {e : EngineId} {g : Engine} {w : Work} (hw : g.work = some w)
    (h : w.record.flags.getLsbD 5 = false ∨ g.retry = true) :
    (v.withEngine e g).afterOpen e = (v.withEngine e g).completeStep e ⟨.openCircuit, none⟩ none none false := by
  have hengine : (v.withEngine e g).p.engine e = g := Ev.withEngine_engine v e g
  have hno : (w.record.retryAlt && !g.retry) = false := by
    rcases h with h | h
    · rw [StepRecord.retryAlt, h, Bool.false_and, Bool.false_and]
    · rw [h, Bool.not_true, Bool.and_false]
  unfold Ev.afterOpen
  dsimp only
  rw [hengine, hw]
  exact if_neg (by simp [hno])

section
variable {p : Part} {e : EngineId} {w : Work} {x : Entry} (hm : p.Measures e w x) (halone : p.AloneInQuiet e)
  (hblock : p.queue.block = 0 ∨ p.queue.records.length < p.queue.block)

theorem Part.Measures.reach (h : p.Measures e w x) (due : Nat) : (p.reach due).Measures e w x :=
  ⟨h.active, h.work, h.notScan, h.entry⟩

theorem Part.EndsAlone.reach (h : p.EndsAlone e w x) (due : Nat) : (p.reach due).EndsAlone e w x :=
  ⟨h.measures.reach due, h.ring, h.still, h.block, h.reserved, h.nothing⟩

/-- An event that ends a measurement step is what its statement says. -/
theorem event_stepEnds {s : State} {act : Ev → Ev} {q : Part} {f : Formed} {cause : Option Cause} {faulted : Bool} {g : Engine}
    (hm : q.Measures e w x) (hact : act (Ev.start s.part) = q.stepEnds e w f cause none (g.ended faulted))
    (hg : g.sequence = (q.engine e).sequence) {alone : Prop} (hend : alone → q.EndsAlone e w x) :
    (∃ v : Ev, q.StepEnding v e w x f cause faulted ∧
      event s act = .next { s with part := v.finished (settleFuel - 1) }) ∧
    (alone → ∃ t, event s act = .next t ∧ t.pending = s.pending ∧ q.StepEnded t.part e w x f cause faulted) := by
  have hevent := event_completion (v := q.stepEnds e w f cause none (g.ended faulted)) hact rfl
  exact ⟨⟨_, Part.stepTaken_ending hm.entry hg, hevent⟩,
    fun h => ⟨_, hevent, rfl, (hend h).ended hg f cause faulted (settleFuel - 1)⟩⟩

include hm halone hblock

/-- The last sample of INTEGRATE ends the step with its value (R114, R134). -/
theorem Ev.sampleArrives_ends {number : Nat} (hp : (p.engine e).phase = some .integrate)
    (hr : (p.engine e).request = some number) (hn : (p.engine e).sampleCount + 1 = (p.engine e).n) (code : Int) :
    let g := { (p.engine e).summed code with interval := none, stimulus := none }
    (Ev.start p).sampleArrives e number code = p.stepEnds e w
      (formIntegrated w.record g.effCurrent g.nullSum g.nullCount g.sampleSum g.n g.clip) none none (g.ended false) := by
  intro g
  have hw : g.work = some w := hm.work
  have hoff : ((Ev.start p).withEngine e ((p.engine e).summed code)).onEngine e (fun g => { g with interval := none, stimulus := none }) =
      (Ev.start p).withEngine e g := Ev.withEngine_onEngine _ _ _ _
  have hends := Part.completeStep_ends (q := p) (g := g) ⟨rfl, rfl, rfl, rfl, rfl, rfl⟩ hw halone hblock
    (formIntegrated w.record g.effCurrent g.nullSum g.nullCount g.sampleSum g.n g.clip) none none false
  have hlast : ((Ev.start p).withEngine e ((p.engine e).summed code)).endIntegrate e =
      p.stepEnds e w (formIntegrated w.record g.effCurrent g.nullSum g.nullCount g.sampleSum g.n g.clip) none none (g.ended false) := by
    unfold Ev.endIntegrate
    dsimp only
    rw [hoff, Ev.withEngine_engine, hw]
    exact (if_neg hm.notScan).trans hends
  exact (Ev.sampleArrives_integrate (v := Ev.start p) hr hp code).trans ((if_pos hn).trans hlast)

/-- An engine that is turned off with its sums discarded, and completes its step. -/
theorem Part.completeStep_turnedOff (f : Formed) (cause : Option Cause) (faulted : Bool) :
    (((Ev.start p).turnOff e).onEngine e Engine.discardSums).completeStep e f cause none faulted =
      p.stepEnds e w f cause none ((p.engine e).quietDown.discardSums.ended faulted) := by
  have hoff : ((Ev.start p).turnOff e).onEngine e Engine.discardSums =
      (Ev.start (p.silenced e)).withEngine e (p.engine e).quietDown.discardSums := by
    rw [Ev.turnOff_alone halone]
    exact Ev.withEngine_onEngine _ _ _ _
  rw [hoff]
  exact Part.completeStep_ends_silenced (g := (p.engine e).quietDown.discardSums) ⟨rfl, rfl, rfl, rfl, rfl, rfl⟩ hm.work hblock f cause none faulted

/-- A sample timeout ends the step as FAULT, its engine FAULTED (R120). -/
theorem Ev.sampleTimesOut_ends {due : Nat} (ht : (p.engine e).timeout = some due) :
    (Ev.start p).sampleTimesOut e = (p.reach due).stepEnds e w ⟨.fault, none⟩ (some .engineTimeout) none
      ((p.engine e).quietDown.discardSums.ended true) := by
  have hends := Part.completeStep_turnedOff (p := p.reach due) (hm.reach due) halone hblock ⟨.fault, none⟩
    (some .engineTimeout) true
  unfold Ev.sampleTimesOut
  dsimp only
  rw [show ((Ev.start p).p.engine e).timeout = some due from ht,
    show ((Ev.start p).p.engine e).scanning = false from Engine.scanning_eq_false hm.work hm.notScan]
  exact hends

/-- A compliance report outside RAMP ends a step that is not tried again as OPEN (R115). -/
theorem Ev.complianceReported_ends (hs : (p.engine e).stimulus ≠ none) (hp : (p.engine e).phase ≠ some .ramp)
    (hno : w.record.flags.getLsbD 5 = false ∨ (p.engine e).retry = true) :
    (Ev.start p).complianceReported e = p.stepEnds e w ⟨.openCircuit, none⟩ none none
      ((p.engine e).quietDown.discardSums.ended false) := by
  have hends := Part.completeStep_turnedOff hm halone hblock ⟨.openCircuit, none⟩ none false
  have hoff : ((Ev.start p).turnOff e).onEngine e Engine.discardSums =
      (Ev.start (p.silenced e)).withEngine e (p.engine e).quietDown.discardSums := by
    rw [Ev.turnOff_alone halone]
    exact Ev.withEngine_onEngine _ _ _ _
  have hopen := Ev.afterOpen_completes (v := Ev.start (p.silenced e)) (e := e) (g := (p.engine e).quietDown.discardSums) hm.work hno
  have hscan : ((Ev.start p).p.engine e).scanning = false := Engine.scanning_eq_false hm.work hm.notScan
  rw [Ev.complianceReported_open hs hp, hscan]
  refine Eq.trans ?_ hends
  rw [hoff]
  exact hopen

/-- The end of POST_DISCHARGE ends the step with what RAMP left (R118). -/
theorem Ev.postDischarged_ends {due : Nat} {f : Formed} (hp : (p.engine e).phase = some .postDischarge)
    (hd : (p.engine e).phaseWait = some due) (hf : (p.engine e).formed = some f)
    (hno : f.verdict = .openCircuit → f.value = none ∧ (w.record.flags.getLsbD 5 = false ∨ (p.engine e).retry = true)) :
    (Ev.start p).postDischarged e = (p.reach due).stepEnds e w f none none
      (({ p.engine e with phaseWait := none, dischargePath := false } : Engine).ended false) := by
  let g : Engine := { p.engine e with phaseWait := none, dischargePath := false }
  have hends := Part.completeStep_ends (q := p.reach due) (g := g) ⟨rfl, rfl, rfl, rfl, rfl, rfl⟩ hm.work halone hblock f none none false
  refine (Ev.postDischarged_some hp hd hf).trans (Eq.trans ?_ hends)
  dsimp only
  split
  next hopen =>
    obtain ⟨hvalue, hretry⟩ := hno hopen
    have hform : f = ⟨.openCircuit, none⟩ := by rw [← hopen, ← hvalue]
    rw [hform]
    exact Ev.afterOpen_completes (g := g) hm.work hretry
  · rfl

/-- The end of an abort's discharge ends the step as ABORTED (R124). -/
theorem Ev.abortDischarged_ends {due : Nat} {cause : Cause} {owed : Bool} (hp : (p.engine e).phase = some .abortDischarge)
    (hd : (p.engine e).phaseWait = some due) (ha : (p.engine e).abort = some (cause, owed)) :
    (Ev.start p).abortDischarged e = (p.reach due).stepEnds e w ⟨.aborted, none⟩ (some cause) none ((p.engine e).ended false) := by
  have hends := Part.completeStep_ends (q := p.reach due) (g := p.engine e) ⟨rfl, rfl, rfl, rfl, rfl, rfl⟩ hm.work halone hblock
    ⟨.aborted, none⟩ (some cause) none false
  rw [show p.engine e = (Ev.start (p.reach due)).p.engine e from rfl, Ev.withEngine_self] at hends
  unfold Ev.abortDischarged
  dsimp only
  rw [show ((Ev.start p).p.engine e).phase = some .abortDischarge from hp,
    show ((Ev.start p).p.engine e).phaseWait = some due from hd, show ((Ev.start p).p.engine e).abort = some (cause, owed) from ha]
  exact hends

/-- A re-plan declined ends the step as OPEN (R119). -/
theorem Ev.replanTaken_ends (hr : (p.engine e).replan = .declined) :
    (Ev.start p).replanTaken e = p.stepEnds e w ⟨.openCircuit, none⟩ none none ((p.engine e).ended false) := by
  have hends := Part.completeStep_ends (q := p) (g := p.engine e) ⟨rfl, rfl, rfl, rfl, rfl, rfl⟩ hm.work halone hblock
    ⟨.openCircuit, none⟩ none none false
  rw [show p.engine e = (Ev.start p).p.engine e from rfl, Ev.withEngine_self] at hends
  unfold Ev.replanTaken
  rw [show ((Ev.start p).p.engine e).replan = .declined from hr]
  exact hends

end

/-- Settles O45. -/
theorem stepsEndWithTheirRecord : Obligations.StepsEndWithTheirRecord := by
  intro s e p g ends
  refine ⟨fun h => event_same ?_, fun h => event_same (if_pos h), fun h => ⟨event_same ?_, event_same ?_⟩,
    fun w x hm halone hblock => ⟨fun number code hp hr hn => ?_, fun due ht => ?_, fun hs hp hno => ?_,
      fun due f hp hd hf hno => ?_, fun due cause owed hp hd ha => ?_, fun hr => ?_⟩⟩
  · unfold Ev.sampleTimesOut
    dsimp only
    rw [show ((Ev.start s.part).p.engine e).timeout = none from h]
  · unfold Ev.postDischarged
    dsimp only
    split
    next hd _ => cases h.symm.trans hd
    · rfl
  · unfold Ev.abortDischarged
    dsimp only
    split
    next hd => cases h.symm.trans hd
    · rfl
  · exact event_stepEnds hm (Ev.sampleArrives_ends hm halone hblock hp hr hn code.toInt) rfl id
  · exact event_stepEnds (hm.reach due) (Ev.sampleTimesOut_ends hm halone hblock ht) rfl fun h => h.reach due
  · exact event_stepEnds hm (Ev.complianceReported_ends hm halone hblock hs hp hno) rfl id
  · exact event_stepEnds (hm.reach due) (Ev.postDischarged_ends hm halone hblock hp hd hf hno) rfl fun h => h.reach due
  · exact event_stepEnds (hm.reach due) (Ev.abortDischarged_ends hm halone hblock hp hd ha) rfl fun h => h.reach due
  · exact event_stepEnds hm (Ev.replanTaken_ends hm halone hblock hr) rfl id

end Sys2Proof.Machine

/-! PROOFS. The Shorts Scanner's tests, pairs and ends (R146 to R148, R152, R155 to R159). -/

namespace Sys2Proof.Machine

/-! ### The end of a scan (R158, R159) -/

/-- The part once a scan has ended on its engine, before its completion is taken. -/
def Part.scanDone (p : Part) (i : ScanInfo) (verdict : Verdict) (cause : Option Cause) (faulted : Bool) : Part :=
  { (p.silenced i.engine).setEngine i.engine ((p.engine i.engine).ended faulted) with
    queue := ({ p.queue with reserved := p.queue.reserved - 1 } : ResultQueue).joined (p.scanRecord i verdict cause)
    ring := p.ring.endedBy i.origin
    scanner := Scanner.reset }

/-- The end of a scan as a whole, beside engines that wait for no still matrix. -/
theorem Ev.endScan_eq {v : Ev} {i : ScanInfo} (hi : v.p.scanner.scan = some i) (halone : v.p.AloneInQuiet i.engine)
    (hblock : v.p.queue.block = 0 ∨ v.p.queue.records.length < v.p.queue.block) (verdict : Verdict) (cause : Option Cause)
    (card : Option Nat) (faulted : Bool) :
    v.endScan verdict cause card faulted =
      let full := decide (v.p.queue.records.length + 1 = v.p.queue.block)
      { v with
        p := v.p.scanDone i verdict cause faulted
        blocks := v.blocks ++ v.p.filledBlock (v.p.scanRecord i verdict cause)
        askEvaluate := v.askEvaluate || full, askRemoval := v.askRemoval || full
        completions := v.completions ++ [i.work.completion i.engine verdict cause card] } := by
  let full := decide (v.p.queue.records.length + 1 = v.p.queue.block)
  let queue := ({ v.p.queue with reserved := v.p.queue.reserved - 1 } : ResultQueue).joined (v.p.scanRecord i verdict cause)
  let joined : Ev := { v with
    p := { v.p with queue := queue }
    blocks := v.blocks ++ v.p.filledBlock (v.p.scanRecord i verdict cause)
    askEvaluate := v.askEvaluate || full, askRemoval := v.askRemoval || full }
  have happend : v.appendFinal (v.p.scanner.summary i verdict cause) = joined := Ev.appendFinal_eq hblock _
  have hended : (joined.turnOff i.engine).onEngine i.engine (fun g => g.ended faulted) =
      ({ joined with p := joined.p.silenced i.engine } : Ev).withEngine i.engine ((v.p.engine i.engine).ended faulted) := by
    rw [Ev.turnOff_alone (v := joined) halone]
    exact Ev.withEngine_onEngine _ _ _ _
  unfold Ev.endScan
  rw [hi]
  dsimp only
  rw [happend, hended]
  unfold Part.scanDone Work.completion ScanInfo.work
  cases i.origin <;> rfl

theorem Ev.endScanNormally_eq (v : Ev) :
    v.endScanNormally = v.endScan (if 1 ≤ v.p.scanner.pairs then .fail else .pass) none none false := by
  unfold Ev.endScanNormally
  by_cases h : v.p.scanner.pairs = 0
  · rw [if_pos h, if_neg (by omega)]
  · rw [if_neg h, if_pos (by omega)]

/-- Where nothing follows it, the end of a scan is what its statement says. -/
theorem event_scanEnds {s : State} {act : Ev → Ev} {q : Part} {i : ScanInfo} {x : Entry} {verdict : Verdict}
    {cause : Option Cause} {card : Option Nat} {faulted : Bool} (h : q.ScanEndsAlone i x)
    (hact : act (Ev.start s.part) = (Ev.start q).endScan verdict cause card faulted) :
    ∃ t, event s act = .next t ∧ t.pending = s.pending ∧ q.ScanEnded t.part i x verdict cause card faulted := by
  have hblock : q.queue.block = 0 ∨ q.queue.records.length < q.queue.block := h.block.imp id (by omega)
  have hend := Ev.endScan_eq (v := Ev.start q) h.scan h.still hblock verdict cause card faulted
  let c := i.work.completion i.engine verdict cause card
  let full := decide (q.queue.records.length + 1 = q.queue.block)
  let done : Ev := { Ev.start (q.scanDone i verdict cause faulted) with
    blocks := q.filledBlock (q.scanRecord i verdict cause), askEvaluate := full, askRemoval := full }
  have hevent := event_completion (s := s) (v := { done with completions := [c] }) (hact.trans hend) rfl
  have htaken : done.CompletionTaken (done.takeCompletion c) c x := Ev.takeCompletion_taken h.entry
  have hevent' : event s act = .next { s with part := (done.takeCompletion c).finished (settleFuel - 1) } := hevent
  refine ⟨_, hevent', rfl, ?_⟩
  generalize done.takeCompletion c = v at htaken ⊢
  obtain ⟨hflight, hdirect, hrelay, hseq, hlog, hmap, ⟨hlock, htemplates, hring, hengines, hscanner, htime, hqueue, hlink, -⟩,
    hsteps, hentries, ⟨hfirst, hreplies, hblocks, hremainders, hlast, hcompletions, hremoval⟩, -⟩ := htaken
  have hrunning : v.p.disp.seq = .running → q.disp.seq = .running := fun hs => by
    cases horigin : i.origin with
    | none => rw [show c.origin = none from horigin] at hseq; exact hseq.symm.trans hs
    | some slot => rw [show c.origin = some slot from horigin] at hseq; exact SeqState.running_of_afterStep (hseq.symm.trans hs)
  have hfinished : v.finished (settleFuel - 1) = v.p.hand v.frames :=
    Ev.finished_idle hcompletions (.inr (by rw [hscanner]; nofun))
      (h.nothing.evaluate h.ring h.reserved hqueue hring hdirect hrunning)
      (.inr (ResultQueue.joined_noRemainder h.block hqueue)) _
  have hframes : v.frames = q.filledBlock (q.scanRecord i verdict cause) ++ i.work.stepNotice verdict ++
      i.work.directNotice i.engine verdict cause ++ v.p.seqEntry q.disp.seq := by
    simp only [Ev.frames, hfirst, hreplies, hblocks, hsteps, hremainders, hentries, hlast]
    simp [done, c, Ev.start, Work.completion, ScanInfo.work]
    rfl
  have hhanded : (v.p.hand v.frames).link = (q.hand v.frames).link :=
    Part.hand_link_congr (q := q) hlink (by rw [htime]; rfl) _
  have hp : v.p.hand v.frames = { v.p with link := (q.hand v.frames).link } := by
    rw [← hhanded, Part.hand_eq]
    rfl
  rw [hfinished, hp]
  have hengine : v.p.engine i.engine = (q.engine i.engine).ended faulted :=
    (congrArg (fun t : PerEngine Engine => t.get i.engine) hengines).trans (PerEngine.get_set_same _ _ _)
  refine ⟨hqueue, hscanner, ?_, fun g hg => ?_, hflight, ?_, hdirect, hmap, ⟨hlock, htemplates⟩, hrelay, ?_, hlog,
    congrArg (fun fs => (q.hand fs).link) hframes⟩
  · change (v.p.engine i.engine).state = _ ∧ (v.p.engine i.engine).phase = _ ∧ (v.p.engine i.engine).work = _ ∧
      (v.p.engine i.engine).stimulus = _ ∧ (v.p.engine i.engine).request = _ ∧ (v.p.engine i.engine).phaseWait = _ ∧
      (v.p.engine i.engine).interval = _ ∧ (v.p.engine i.engine).timeout = _
    rw [hengine]
    exact ⟨rfl, rfl, rfl, rfl, rfl, rfl, rfl, rfl⟩
  · exact (congrArg (fun t : PerEngine Engine => t.get g) hengines).trans (PerEngine.get_set_ne _ _ _ _ hg)
  · refine hring.trans ?_
    change q.ring.endedBy i.origin = _
    cases i.origin <;> rfl
  · refine hseq.trans ?_
    dsimp only
    rw [hring]
    rfl

/-! ### Group tests (R146 to R148) -/

theorem mem_planCards {plan : List Pair} {c : Nat} : c ∈ planCards plan ↔ c < 64 ∧ ∃ x ∈ plan, x.card = c := by
  simp [planCards, touches, Config.cards]

section
variable {v : Ev} {info : ScanInfo} {purpose : TestPurpose} {first last i : Nat} {plan : List Pair}

/-- The event in which a test's plan has reached the Relay Sequencer and the engine is told (R148). -/
def Ev.testSent (v : Ev) (info : ScanInfo) (purpose : TestPurpose) (first last i : Nat) (plan : List Pair) : Ev :=
  let s := v.p.scanner
  let given := v.p.effectiveCurrent info.record.current (s.netAt i :: (s.run first last).map s.netAt)
  let sent := v.sendPlan info.engine plan
  let noted := sent.1.onScanner fun s =>
    { s with state := .testing, test := some ⟨purpose, i, first, last, given.2⟩, planCards := planCards plan,
             clampMark := s.clampMark || given.2,
             reuseMark := s.reuseMark || (decide (v.p.scanner.planCards = []) && decide (1 ≤ sent.2)) }
  noted.onEngine info.engine fun g =>
    { g.quietDown with phase := some .connect, effCurrent := given.1, sampleSum := 0, sampleCount := 0, clip := false }

theorem Ev.startTest_sent (hs : v.p.scanner.scan = some info) (hp : v.p.scanner.probe = some i)
    (hf : v.p.lowestFailed v.p.scanner.planCards = none)
    (hplan : v.p.groupPlan info.engine (decide (v.p.scanner.planCards = [])) (v.p.scanner.netAt i)
      ((v.p.scanner.run first last).map v.p.scanner.netAt) = .ok plan) :
    v.startTest purpose first last = (v.testSent info purpose first last i plan).judgeReady info.engine := by
  unfold Ev.startTest
  dsimp only
  rw [hs, hp]
  dsimp only
  rw [hf]
  dsimp only
  rw [hplan]
  rfl

/-- A test that finds a last plan card FAILED, or a net without a candidate, ends the scan (R161). -/
theorem Ev.startTest_lowestFailed {c : Nat} (hs : v.p.scanner.scan = some info) (hp : v.p.scanner.probe = some i)
    (hf : v.p.lowestFailed v.p.scanner.planCards = some c) :
    v.startTest purpose first last = v.endScan .fault (some .cardFault) (some c) false := by
  unfold Ev.startTest
  dsimp only
  rw [hs, hp]
  dsimp only
  rw [hf]

theorem Ev.startTest_unserved {net : Nat} (hs : v.p.scanner.scan = some info) (hp : v.p.scanner.probe = some i)
    (hf : v.p.lowestFailed v.p.scanner.planCards = none)
    (hplan : v.p.groupPlan info.engine (decide (v.p.scanner.planCards = [])) (v.p.scanner.netAt i)
      ((v.p.scanner.run first last).map v.p.scanner.netAt) = .error net) :
    v.startTest purpose first last =
      v.endScan .fault (some .cardFault) (v.p.lowestFailed ((v.p.nailsOf net).map cardOf)) false := by
  unfold Ev.startTest
  dsimp only
  rw [hs, hp]
  dsimp only
  rw [hf]
  dsimp only
  rw [hplan]

end

/-! ### Pairs (R152, R155 to R157) -/

/-- A record that joins a queue that streams nothing. -/
theorem Ev.append_unstreamed {v : Ev} (h : v.p.queue.block = 0) (r : ResultRecord) : v.append r =
    { v with p := { v.p with queue := { v.p.queue with records := v.p.queue.records ++ [{ r with time := v.p.time48 }] } } } := by
  unfold Ev.append
  dsimp only
  rw [Ev.formBlocks_eq, Part.fullBlocks_of_short (by simp [h])]
  simp

/-- The event in which a pair has been reported, its partner JOINED and the pair counted (R155, R156). -/
def Ev.paired (v : Ev) (info : ScanInfo) (partner : Nat) (x : Evidence) : Ev :=
  let s := v.p.scanner
  let probe := s.netAt (s.probe.getD 0)
  { v with p := { v.p with
    queue := { v.p.queue with records := v.p.queue.records ++ [⟨.shortPair, info.origin, info.record.tag, info.record.kind,
      some info.engine, .short, none, ⟨x.lowered, false, false, false, false, false⟩,
      .pair probe (s.netAt partner) x.ohms, v.p.time.tick % 2 ^ 48⟩] }
    scanner := { s with
      members := s.members.modify partner fun m => { m with state := .joined probe }
      pairs := s.pairs + 1 } } }

theorem Ev.appendPair_eq {v : Ev} {info : ScanInfo} (hs : v.p.scanner.scan = some info) (hb : v.p.queue.block = 0)
    (partner : Nat) (x : Evidence) : v.appendPair partner x =
      if v.p.scanner.pairs = 255 then ((v.paired info partner x).endScan .limit none none false, false)
      else (v.paired info partner x, true) := by
  have hpaired : (v.append (v.p.scanner.pairRecord info partner x)).onScanner (fun s =>
      { s.mark partner (.joined (s.netAt (s.probe.getD 0))) with pairs := s.pairs + 1 }) = v.paired info partner x := by
    rw [Ev.append_unstreamed hb]
    rfl
  unfold Ev.appendPair
  dsimp only
  rw [hs]
  dsimp only
  rw [hpaired]
  by_cases hlimit : v.p.scanner.pairs = 255
  · rw [if_pos hlimit]
    exact if_pos (congrArg (· + 1) hlimit)
  · rw [if_neg hlimit]
    exact if_neg fun h => hlimit (Nat.succ.inj h)

theorem Ev.reportPartner_waits {v : Ev} {info : ScanInfo} (hs : v.p.scanner.scan = some info) (hf : v.p.recordFree = false)
    (partner : Nat) (x : Evidence) : v.reportPartner partner x =
      ({ v with p := { v.p with
        scanner := { v.p.scanner with state := .waitingSpace, pendingPair := some (partner, x) }
        engines := v.p.engines.set info.engine { v.p.engine info.engine with phase := some .resultWait } } }, false) := by
  unfold Ev.reportPartner
  rw [if_neg (by simp [hf])]
  dsimp only
  split
  next i hi =>
    cases hs.symm.trans hi
    rfl
  next hi => cases hs.symm.trans hi

/-- Settles O53. -/
theorem scansReportPairsAndEndWithASummary : Obligations.ScansReportPairsAndEndWithASummary := by
  refine ⟨fun v info hs => ?_, fun s f q info x verdict cause card faulted h hact => event_scanEnds h hact,
    fun v c x hx => Ev.takeCompletion_taken hx, fun s f c hc => event_completion rfl hc⟩
  intro p s e probe
  refine ⟨fun purpose first last i plan hp hf => ?_, fun hb partner x => ?_, v.endScanNormally_eq,
    fun hb hq verdict cause card faulted => ?_⟩
  · intro group hplan t given
    have ht : t = ((v.testSent info purpose first last i plan).judgeReady info.engine).p :=
      congrArg Ev.p (Ev.startTest_sent hs hp hf hplan)
    have hled := Ev.judgeReady_led (v.testSent info purpose first last i plan) info.engine
    have hscanner : t.scanner = _ := (congrArg Part.scanner ht).trans hled.scanner
    have hengine : (t.engine e).lasting = _ := (congrArg (fun q : Part => (q.engine e).lasting) ht).trans hled.engine
    have hown : (v.testSent info purpose first last i plan).p.engine info.engine =
        { (v.p.engine info.engine).quietDown with
          phase := some .connect, effCurrent := given.1, sampleSum := 0, sampleCount := 0, clip := false } :=
      PerEngine.get_set_same _ _ _
    rw [hown] at hengine
    refine ⟨by rw [hscanner]; rfl, by rw [hscanner]; rfl, fun c => by rw [hscanner]; exact mem_planCards,
      by rw [hscanner]; rfl, congrArg Engine.effCurrent hengine, congrArg Engine.sampleSum hengine,
      congrArg Engine.sampleCount hengine, congrArg Engine.clip hengine, ?_, ?_⟩
    · rw [ht]
      exact (hled.wanted e).trans (Ev.sendPlan_wanted v info.engine plan)
    · rw [ht]
      exact hled.queue
  · intro pair paired
    have happend := Ev.appendPair_eq hs hb partner x
    refine ⟨fun hfree hpairs => ?_, fun hfree hpairs => ?_, fun hfree => Ev.reportPartner_waits hs hfree partner x⟩
    · exact (if_pos hfree).trans (happend.trans (if_neg hpairs))
    · exact (if_pos hfree).trans (happend.trans (if_pos hpairs))
  · intro w t g
    have hend := Ev.endScan_eq (v := v) hs (fun h => by cases hq.symm.trans h) (.inl hb) verdict cause card faulted
    have ht : t = p.scanDone info verdict cause faulted := congrArg Ev.p hend
    have hleft : p.leftRelay e = p.relay := if_neg (by simp [hq])
    have hengine : t.engine e = (p.engine e).ended faulted := by rw [ht]; exact PerEngine.get_set_same _ _ _
    have hjoined := ResultQueue.joined_unstreamed { p.queue with reserved := p.queue.reserved - 1 }
      (p.scanRecord info verdict cause) hb
    refine ⟨by rw [ht]; exact hjoined, by rw [ht]; rfl, ?_, fun f hf => ?_, ?_, congrArg Ev.completions hend,
      by rw [ht]; rfl, by rw [ht]; rfl, by rw [ht]; rfl, by rw [ht]; rfl, by rw [ht]; exact hleft⟩
    · change (t.engine e).state = _ ∧ (t.engine e).phase = _ ∧ (t.engine e).work = _ ∧ (t.engine e).stimulus = _ ∧
        (t.engine e).request = _ ∧ (t.engine e).phaseWait = _ ∧ (t.engine e).interval = _ ∧ (t.engine e).timeout = _
      rw [hengine]
      exact ⟨rfl, rfl, rfl, rfl, rfl, rfl, rfl, rfl⟩
    · rw [ht]
      exact PerEngine.get_set_ne _ _ _ _ hf
    · rw [ht]
      change p.ring.endedBy info.origin = _
      cases info.origin <;> rfl

end Sys2Proof.Machine

/-! PROOFS. Steps that are ended from outside: by a failed card and by an abort (R68, R85, R86, R92, R121 to R125). -/

namespace Sys2Proof.Machine

section
variable {v : Ev} {e : EngineId} {w : Work} {g : Engine}

/-- An engine that is turned off and completes its step, in an event of any frames. -/
theorem Ev.turnOff_completeStep (hg : g.SameMarks (v.p.engine e)) (hw : g.work = some w) (halone : v.p.AloneInQuiet e)
    (hblock : v.p.queue.block = 0 ∨ v.p.queue.records.length < v.p.queue.block) (f : Formed) (cause : Option Cause)
    (card : Option Nat) (faulted : Bool) :
    ((v.withEngine e g).turnOff e).completeStep e f cause card faulted =
      let full := decide (v.p.queue.records.length + 1 = v.p.queue.block)
      { v with
        p := v.p.stepDone e w f cause (g.quietDown.ended faulted)
        blocks := v.blocks ++ v.p.filledBlock (v.p.workRecord e w f cause)
        askEvaluate := v.askEvaluate || full, askRemoval := v.askRemoval || full
        completions := v.completions ++ [w.completion e f.verdict cause card] } := by
  let off : Ev := ({ v with p := v.p.silenced e } : Ev).withEngine e g.quietDown
  have hoff : (v.withEngine e g).turnOff e = off := by
    have hengine : (v.withEngine e g).p.engine e = g := Ev.withEngine_engine v e g
    have hset : ((v.p.silenced e).setEngine e g).setEngine e g.quietDown = (v.p.silenced e).setEngine e g.quietDown :=
      Part.setEngine_setEngine _ e g _
    rw [Ev.turnOff_alone (v := v.withEngine e g) (halone.setEngine g), hengine]
    exact congrArg (fun p : Part => { v with p := p }) hset
  have hengine : off.p.engine e = g.quietDown := Ev.withEngine_engine _ e _
  have hsame : g.quietDown.SameMarks ((v.p.silenced e).engine e) := hg
  have hdone : off.p.stepDone e w f cause (g.quietDown.ended faulted) = v.p.stepDone e w f cause (g.quietDown.ended faulted) :=
    (Part.stepDone_setEngine hsame w f cause _).trans (v.p.stepDone_silenced e w f cause _)
  have hrecord : off.p.workRecord e w f cause = v.p.workRecord e w f cause := Part.workRecord_setEngine hsame w f cause
  rw [hoff, Ev.completeStep_eq (v := off) (by rw [hengine]; exact hw) ((v.p.aloneInQuiet_silenced e).setEngine _) hblock, hengine]
  dsimp only
  rw [hdone, hrecord]
  rfl

/-! ### The end by a failed card (R121) -/

/-- A card fault ends the measurement step of an engine that takes it. -/
theorem Ev.cardFault_ends (hactive : (v.p.engine e).state = .active) (hdischarge : (v.p.engine e).phase ≠ some .abortDischarge)
    (hresult : (v.p.engine e).phase ≠ some .resultWait) (hw : (v.p.engine e).work = some w) (hk : w.record.kind ≠ .scan)
    (halone : v.p.AloneInQuiet e) (hblock : v.p.queue.block = 0 ∨ v.p.queue.records.length < v.p.queue.block) (card : Nat) :
    v.cardFault e card =
      let full := decide (v.p.queue.records.length + 1 = v.p.queue.block)
      { v with
        p := v.p.stepDone e w ⟨.fault, none⟩ (some .cardFault) ((v.p.engine e).quietDown.ended false)
        blocks := v.blocks ++ v.p.filledBlock (v.p.workRecord e w ⟨.fault, none⟩ (some .cardFault))
        askEvaluate := v.askEvaluate || full, askRemoval := v.askRemoval || full
        completions := v.completions ++ [w.completion e .fault (some .cardFault) (some card)] } := by
  have htakes : (v.p.engine e).takesCardFault = true := by simp [Engine.takesCardFault, hactive, hdischarge, hresult]
  have hscan : (v.p.engine e).scanning = false := Engine.scanning_eq_false hw hk
  have hends := Ev.turnOff_completeStep (v := v) (g := v.p.engine e) ⟨rfl, rfl, rfl, rfl, rfl, rfl⟩ hw halone hblock
    ⟨.fault, none⟩ (some .cardFault) (some card) false
  rw [Ev.withEngine_self] at hends
  refine (if_pos htakes).trans ?_
  dsimp only
  rw [hscan]
  exact hends

end

/-- With the entry of a ring step in flight, STOPPING does not end (R51). -/
theorem Part.ringInFlight_of_entry {p : Part} {e : EngineId} {x : Entry} (hx : p.disp.inFlight.get e = some x)
    (ho : x.origin ≠ none) : p.ringInFlight = true := by
  by_contra h
  exact ho (Part.ringInFlight_eq_false.mp (by simpa using h) e x hx)

/-- A read after a store that is listed, in any table. -/
theorem lookup_store_listed {α : Type} [DecidableEq α] {d v : α} (hv : v ≠ d) (t : List (Nat × α)) (k : Nat) :
    lookup d (store d t k v) k = v := by
  induction t with
  | nil => simp [store, hv, lookup]
  | cons x rest ih =>
    obtain ⟨k', w⟩ := x
    by_cases hlt : k < k'
    · simp [store, hlt, hv, lookup]
    · by_cases heq : k = k'
      · simp [store, heq, hv, lookup]
      · simp [store, hlt, heq, lookup, ih]

/-- The event of an end that nothing follows, with the frames and the evaluation that the rest of the event brought. -/
theorem Part.EndsAlone.finished {q : Part} {e : EngineId} {w : Work} {x : Entry} (h : q.EndsAlone e w x) {g : Engine}
    (hg : g.sequence = (q.engine e).sequence) (f : Formed) (cause : Option Cause) (card : Option Nat) (faulted : Bool)
    (first : List OutFrame) (n : Nat) :
    let c := w.completion e f.verdict cause card
    let t := (({ q.stepEnds e w f cause card (g.ended faulted) with
      first := first, askEvaluate := true, completions := [] } : Ev).takeCompletion c).finished n
    q.WorkEnded t e w x f cause faulted ∧ t.relay = q.stepRelay e ∧
      t.disp.seq = (match w.origin with
        | none => q.disp.seq
        | some _ => q.disp.seq.afterStep (c.errorAt 0).isSome w.record.pauseAfter (q.othersInFlight e)
            (decide (t.ring.pendingSlots ≠ [])) t.relay.matrixOpen) ∧
      t.log = q.log.afterError q.disp.seq (c.errorAt q.time48) ∧
      t.link = (q.hand (first ++ q.filledBlock (q.workRecord e w f cause) ++ w.stepNotice f.verdict ++
        w.directNotice e f.verdict cause ++ t.seqEntry q.disp.seq)).link := by
  intro c
  let done : Ev := { q.stepEnds e w f cause card (g.ended faulted) with first := first, askEvaluate := true, completions := [] }
  have hp : (done.takeCompletion c).p = _ :=
    (congrArg Ev.p (Ev.takeCompletion_eq done c)).trans (Part.stepDone_takenBy h.measures.entry w f cause (g.ended faulted) card)
  have hwork : q.WorkEnded (done.takeCompletion c).p e w x f cause faulted := by
    obtain ⟨nails, hmarks⟩ := (q.stepDone e w f cause (g.ended faulted)).markReplaced_eq x f.verdict
    exact Part.stepDone_workEnded hg (link := q.link) (hp.trans (by rw [hmarks]; rfl))
  have hrelay : (done.takeCompletion c).p.relay = q.stepRelay e := by rw [hp]
  have hlog : (done.takeCompletion c).p.log = q.log.afterError q.disp.seq (c.errorAt q.time48) := by rw [hp]
  have hseq : (done.takeCompletion c).p.disp.seq = (match w.origin with
        | none => q.disp.seq
        | some _ => q.disp.seq.afterStep (c.errorAt 0).isSome w.record.pauseAfter (q.othersInFlight e)
            (decide ((done.takeCompletion c).p.ring.pendingSlots ≠ [])) (done.takeCompletion c).p.relay.matrixOpen) := by
    rw [hwork.ring_endedBy, hrelay]
    exact congrArg (fun p : Part => p.disp.seq) hp
  have hlink : (done.takeCompletion c).p.link = q.link := by
    obtain ⟨nails, hmarks⟩ := (q.stepDone e w f cause (g.ended faulted)).markReplaced_eq x f.verdict
    rw [hp, hmarks]
    rfl
  have hframes : (done.takeCompletion c).frames = first ++ q.filledBlock (q.workRecord e w f cause) ++ w.stepNotice f.verdict ++
      w.directNotice e f.verdict cause ++ (done.takeCompletion c).p.seqEntry q.disp.seq := by
    rw [Ev.takeCompletion_eq]
    change first ++ [] ++ q.filledBlock (q.workRecord e w f cause) ++ ([] ++ w.stepNotice f.verdict) ++ [] ++
      ([] ++ (w.directNotice e f.verdict cause ++ (done.p.takenBy c).seqEntry q.disp.seq)) ++ [] = _
    simp only [List.nil_append, List.append_nil, List.append_assoc]
  have hcompletions : (done.takeCompletion c).completions = [] := by rw [Ev.takeCompletion_eq]
  have hremoval : (done.takeCompletion c).askRemoval = decide (q.queue.records.length + 1 = q.queue.block) := by
    rw [Ev.takeCompletion_eq]
    rfl
  generalize done.takeCompletion c = v at *
  have hrunning : v.p.disp.seq = .running → q.disp.seq = .running := fun hs => by
    cases horigin : w.origin with
    | none => rw [horigin] at hseq; exact hseq.symm.trans hs
    | some slot => rw [horigin] at hseq; exact SeqState.running_of_afterStep (hseq.symm.trans hs)
  have hblock : q.queue.block = 0 ∨ q.queue.records.length + 1 = q.queue.block := h.block.imp id (·.1)
  have hfinished : v.finished n = v.p.hand v.frames := by
    refine Ev.finished_idle hcompletions ?_ (fun u hu => h.nothing.evaluate h.ring h.reserved hwork.queue hwork.ring_endedBy
      hwork.direct hrunning u hu) (.inr (ResultQueue.joined_noRemainder hblock hwork.queue)) n
    rcases h.block with hb | ⟨-, hb⟩
    · exact .inl (hremoval.trans (decide_eq_false (by omega)))
    · exact .inr (by rw [hwork.rest.2.2]; exact hb)
  have hhanded : v.p.hand v.frames = { v.p with link := (q.hand v.frames).link } := by
    rw [← Part.hand_link_congr hlink hwork.tick, Part.hand_eq]
    rfl
  have hworked := hwork.hand v.frames
  dsimp only
  rw [hfinished]
  rw [hhanded] at hworked ⊢
  exact ⟨hworked, hrelay, hseq, hlog, congrArg (fun fs => (q.hand fs).link) hframes⟩

/-- Settles O38. -/
theorem aFailedCardFaultsTheStepThatUsesIt : Obligations.AFailedCardFaultsTheStepThatUsesIt := by
  intro s card start image e w x p g hlink hplanned hends hquiet horigin hwait hholds hdischarge hresult hstopping q failed error
  let broken : Part := { q with relay := { q.relay.failCard card with expired := some q.time.tick } }
  have hplans : ∀ f, failed.plan f = (p.plan f).loseFailed card := fun f =>
    (congrArg (fun t : PerEngine EnginePlan => t.get f) (Relay.look_plans _ _)).trans (PerEngine.get_mapIdx _ _ _)
  have hcards : failed.relay.cards = broken.relay.cards := Relay.look_cards _ _
  refine ⟨hplans, ?_, fun f y hy => ?_, ?_⟩
  · have hcard : (failed.card card) = (q.relay.card card).fail :=
      (congrArg (fun t => lookup Card.unlisted t card) hcards).trans
        (lookup_store_listed (by intro h; cases congrArg Card.status h) _ _)
    rw [hcard]
    rfl
  · rw [hplans] at hy
    rcases List.mem_append.mp hy with h | h
    · exact of_decide_eq_true (List.mem_filter.mp h).2
    · exact of_decide_eq_true (List.mem_filter.mp h).2
  have hq : ∀ r : Part, r.plan e = (p.plan e).loseFailed card → (r.plan e).quiet = false := fun r hr => by rw [hr]; exact hquiet
  have hbroken : (broken.plan e).quiet = false := hq broken (PerEngine.get_mapIdx _ _ _)
  have hfailed : (failed.plan e).quiet = false := hq failed (hplans e)
  have hmeasures : failed.Measures e w x := ⟨hends.measures.active, hends.measures.work, hends.measures.notScan, hends.measures.entry⟩
  have halone : failed.EndsAlone e w x :=
    ⟨hmeasures, hends.ring, (fun h => by cases hfailed.symm.trans h), hends.block, hends.reserved, hends.nothing⟩
  let c := w.completion e .fault (some .cardFault) (some card)
  let notice := OutFrame.notice (.card card q.time.tick (p.card card).operations (some e))
  let after := (p.engine e).quietDown.ended false
  let done : Ev := { failed.stepEnds e w ⟨.fault, none⟩ (some .cardFault) (some card) after with
    first := [notice], askEvaluate := true }
  have herror : ∀ time, c.errorAt time = w.origin.map fun slot =>
      (⟨.cardFault, some slot, some w.record.tag, some e, some card, none, time⟩ : ErrorRecord) := fun time => by
    cases h : w.origin <;> simp [c, Completion.errorAt, Work.endErrorOn, Work.endError, Work.completion, Completion.work, h]
  have hact : (Ev.start p).ackTimesOut = done := by
    let told : Ev := { Ev.start broken with first := [notice] }
    let ended : Ev := { broken.stepEnds e w ⟨.fault, none⟩ (some .cardFault) (some card) after with first := [notice] }
    have hfailing : Ev.cardFailing p card start = told.cardFault e card := by
      unfold Ev.cardFailing
      rw [hplanned]
      rfl
    have hblock : p.queue.block = 0 ∨ p.queue.records.length < p.queue.block := hends.block.imp id fun h => by omega
    have hended : told.cardFault e card = ended :=
      Ev.cardFault_ends (v := told) hends.measures.active hdischarge hresult hends.measures.work hends.measures.notScan
        (fun h => by cases hbroken.symm.trans h) hblock card
    have hnone : EngineId.all.filter (p.relay.holdsBack card image) = [] := List.filter_eq_nil_iff.mpr fun f _ => by simp [hholds f]
    have hcalm : ended.p.noStillWait = true := by
      refine Part.noStillWait_iff.mpr fun f => ?_
      by_cases hf : f = e
      · rw [hf, show ended.p.engine e = after from PerEngine.get_set_same _ _ _]
        rfl
      · rw [show ended.p.engine f = p.engine f from PerEngine.get_set_ne _ _ _ _ hf]
        exact Part.noStillWait_iff.mp hwait f
    have hbrokenLeft : broken.leftRelay e = broken.relay := if_neg (by simp [hbroken])
    have hfailedLeft : failed.leftRelay e = failed.relay := if_neg (by simp [hfailed])
    let looked : Ev := { failed.stepEnds e w ⟨.fault, none⟩ (some .cardFault) (some card) after with first := [notice] }
    have hlooked : ended.look = looked := by
      simp only [Ev.look, ended, looked, Part.stepEnds, Part.stepDone, Part.silenced, hbrokenLeft, hfailedLeft]
      rfl
    have hstays : looked.judgeStopped = looked := by
      refine Ev.judgeStopped_stays ?_
      by_cases hs : p.disp.seq = .stopping
      · exact .inr (.inl (Part.ringInFlight_of_entry (p := looked.p) hends.measures.entry (horigin ▸ hstopping hs)))
      · exact .inl hs
    rw [Ev.ackTimesOut_eq hlink, hfailing, hended, hnone]
    dsimp only [List.foldl_nil]
    rw [Ev.settleLink_of_noStillWait hcalm, hlooked]
    exact congrArg (fun v : Ev => { v with askEvaluate := true }) hstays
  obtain ⟨hwork, hrelay, hseq, hlog, hframes⟩ := halone.finished (g := (p.engine e).quietDown) rfl ⟨.fault, none⟩
    (some .cardFault) (some card) false [notice] (settleFuel - 1)
  refine ⟨_, event_completion hact rfl, rfl, hwork, ?_, ?_, ?_, ?_⟩
  · refine hrelay.trans ?_
    exact failed.stepRelay_of_not_quiet e hfailed
  · refine hseq.trans ?_
    have hsome : ∀ slot, w.origin = some slot → (c.errorAt 0).isSome = true := fun slot h => by rw [herror, h]; rfl
    cases ho : w.origin with
    | none => rfl
    | some slot => exact congrArg (fun b => p.disp.seq.afterStep b w.record.pauseAfter _ _ _) (hsome slot ho)
  · exact hlog.trans (congrArg (p.log.afterError p.disp.seq) (herror _))
  · exact hframes.trans (Part.hand_link_congr rfl rfl _)

end Sys2Proof.Machine

/-! PROOFS. Aborts with and without discharge, and the completions of an event taken around a halting error (R19, R20, R50,
R68, R92, R93, R124, R125). -/

namespace Sys2Proof.Machine

/-! ### What an engine owes (R124) -/

theorem Engine.owesDischarge_iff {g : Engine} : g.owesDischarge = true ↔ (∃ w, g.work = some w ∧ w.record.kind = .cap) ∧
    (g.phase = some .discharge ∨ g.phase = some .ramp ∨ (g.phase = some .postDischarge ∧ g.phaseWait ≠ none)) := by
  have hcap : g.isCap = true ↔ ∃ w, g.work = some w ∧ w.record.kind = .cap := by
    unfold Engine.isCap
    cases g.work <;> simp
  unfold Engine.owesDischarge
  rw [Bool.and_eq_true, hcap]
  refine and_congr_right fun _ => ?_
  cases hp : g.phase with
  | none => simp
  | some ph => cases ph <;> simp [Option.isSome_iff_ne_none]

section
variable {v : Ev} {e : EngineId} {w : Work} (cause : Cause)

theorem Ev.abortWithDischarge_ignored (h : (v.p.engine e).state ≠ .active ∨ (v.p.engine e).phase = some .abortDischarge) :
    Ev.abortWithDischarge cause v e = v := if_pos h

theorem Ev.abortWithDischarge_atOnce (ha : (v.p.engine e).state = .active) (hp : (v.p.engine e).phase ≠ some .abortDischarge)
    (ho : (v.p.engine e).owesDischarge = false) : Ev.abortWithDischarge cause v e = Ev.abortWithoutDischarge cause v e := by
  unfold Ev.abortWithDischarge Ev.abortWithoutDischarge
  dsimp only
  rw [if_neg (by simp [ha, hp]), if_neg (by simp [ho]), if_neg (by simp [ha])]

/-- An abort with discharge of an engine that may hold a charge, in no quiet phase. -/
theorem Ev.abortWithDischarge_drains (ha : (v.p.engine e).state = .active) (ho : (v.p.engine e).owesDischarge = true)
    (hq : (v.p.plan e).quiet = false) : Ev.abortWithDischarge cause v e =
      { v with p := (v.p.disarm e).setEngine e ((v.p.engine e).discharging v.p cause) } := by
  have hp : (v.p.engine e).phase ≠ some .abortDischarge := fun h => by
    have hphase := (Engine.owesDischarge_iff.mp ho).2
    simp [h] at hphase
  let off : Engine := { (v.p.engine e).quietDown with abort := some (cause, true), formed := none }
  have hoff : (v.turnOff e).onEngine e (fun g => { g with abort := some (cause, true), formed := none }) =
      ({ v with p := v.p.disarm e } : Ev).withEngine e off := by
    rw [Ev.turnOff_of_not_quiet hq]
    exact Ev.withEngine_onEngine _ _ _ _
  unfold Ev.abortWithDischarge
  dsimp only
  rw [if_neg (by simp [ha, hp]), if_pos ho, hoff]
  exact Ev.enterDischarge_eq _ e off .abortDischarge

/-- An abort at once of an engine that serves a scan, in no quiet phase. -/
theorem Ev.abortWithoutDischarge_scan (ha : (v.p.engine e).state = .active) (hw : (v.p.engine e).work = some w)
    (hk : w.record.kind = .scan) (hq : (v.p.plan e).quiet = false) : Ev.abortWithoutDischarge cause v e =
      Ev.endScan (({ v with p := v.p.disarm e } : Ev).withEngine e { (v.p.engine e).quietDown with abort := some (cause, false) })
        .aborted (some cause) none false := by
  have hscan : (v.p.engine e).scanning = true := by rw [Engine.scanning_of_work hw]; exact decide_eq_true hk
  have hoff : (v.onEngine e fun g => { g with abort := some (cause, false) }).turnOff e =
      ({ v with p := v.p.disarm e } : Ev).withEngine e { (v.p.engine e).quietDown with abort := some (cause, false) } := by
    let told : Ev := v.withEngine e { v.p.engine e with abort := some (cause, false) }
    have hengine : told.p.engine e = { v.p.engine e with abort := some (cause, false) } := Ev.withEngine_engine _ _ _
    refine (Ev.turnOff_of_not_quiet (v := told) hq).trans ?_
    rw [hengine]
    exact congrArg (fun p : Part => { v with p := p }) (Part.setEngine_setEngine (v.p.disarm e) e _ _)
  unfold Ev.abortWithoutDischarge Ev.abortNow
  rw [if_neg (by simp [ha]), hscan]
  dsimp only
  rw [hoff]
  rfl

/-- An abort at once of a measurement step, with no block streaming. -/
theorem Ev.abortWithoutDischarge_step (ha : (v.p.engine e).state = .active) (hw : (v.p.engine e).work = some w)
    (hk : w.record.kind ≠ .scan) (hq : (v.p.plan e).quiet = false) (hb : v.p.queue.block = 0) :
    Ev.abortWithoutDischarge cause v e = { v with
      p := v.p.stepDone e w ⟨.aborted, none⟩ (some cause) ((v.p.engine e).ended false)
      completions := v.completions ++ [w.completion e .aborted (some cause) none] } := by
  let told : Engine := { v.p.engine e with abort := some (cause, false) }
  have hscan : (v.p.engine e).scanning = false := Engine.scanning_eq_false hw hk
  have hends := Ev.turnOff_completeStep (v := v) (e := e) (g := told) ⟨rfl, rfl, rfl, rfl, rfl, rfl⟩ hw
    (fun h => by cases hq.symm.trans h) (.inl hb) ⟨.aborted, none⟩ (some cause) none false
  have hfull : decide (v.p.queue.records.length + 1 = v.p.queue.block) = false := decide_eq_false (by omega)
  dsimp only at hends
  rw [hfull, Part.filledBlock_unstreamed _ _ hb] at hends
  unfold Ev.abortWithoutDischarge Ev.abortNow
  rw [if_neg (by simp [ha]), hscan]
  refine hends.trans ?_
  simp only [List.append_nil, Bool.or_false]
  rfl

end

/-! ### Completions taken around a halting error (R19, R20, R68; assumption log 6) -/

theorem Relay.look_look (r : Relay) (tick : Nat) : (r.look tick).look tick = r.look tick := by
  by_cases hlink : r.link = .idle
  · by_cases hpending : r.allOpenPending = true
    · rw [Relay.look_allOpen hlink hpending]
      exact if_pos (by simp)
    · by_cases hquiet : r.deferral = true
      · rw [Relay.look_of_deferral (by simpa using hpending) hquiet, Relay.look_of_deferral (by simpa using hpending) hquiet]
      · cases hstart : r.startable with
        | none =>
          have hsame : r.look tick = r := by
            rw [Relay.look_update hlink (by simpa using hpending) (by simpa using hquiet), hstart]
          rw [hsame, hsame]
        | some q =>
          rw [Relay.look_update hlink (by simpa using hpending) (by simpa using hquiet), hstart]
          exact if_pos (by simp)
  · rw [(Relay.look_spec r tick).1 hlink, (Relay.look_spec r tick).1 hlink]

/-- A completion finds nothing to hold where its plan is gone (R89). -/
theorem Relay.complete_of_none {r : Relay} {e : EngineId} (h : (r.plans.get e).state = .none) (t : Timebase) : r.complete t e = r := by
  unfold Relay.complete
  dsimp only
  rw [h]

theorem Ev.takeAll_one {v : Ev} {c : Completion} (h : v.completions = [c]) (between : Ev → Ev) :
    v.takeAll between = (between (({ v with completions := [] } : Ev).releaseStep c)).judgeStep c := by
  unfold Ev.takeAll
  rw [h]
  rfl

/-- The state after the interlock's halting error and the end of the step it aborted (R46, R51, R68). -/
def SeqState.afterAbort (st : SeqState) (ring others matrixOpen : Bool) : SeqState :=
  match st with
  | .running => .halted
  | .pausing => .halted
  | .stopping => if ring = true ∧ others = false ∧ matrixOpen = true then .stopped else .stopping
  | .stopped => .stopped
  | .paused => .paused
  | .drained => .drained
  | .halted => .halted

/-- The part once an aborted step has been taken, the interlock's error with it, where the relays are released already. -/
def Part.abortTaken (p : Part) (e : EngineId) (w : Work) (x : Entry) (r : ErrorRecord) : Part :=
  { p.markReplaced x .aborted with
    relay := p.relay
    log := p.log.afterError p.disp.seq (some { r with time := p.time48 })
    disp := ⟨p.disp.seq.afterAbort w.origin.isSome (p.othersInFlight e) p.relay.matrixOpen, p.disp.window,
      p.disp.inFlight.set e none, if w.origin = none then none else p.disp.direct⟩ }

/-- The completion of an aborted step is taken before and after a halting error. -/
theorem Ev.takeAll_aborted {v : Ev} {e : EngineId} {w : Work} {x : Entry} {cause : Cause}
    (hc : v.completions = [w.completion e .aborted (some cause) none]) (hx : v.p.disp.inFlight.get e = some x)
    (hplan : (v.p.plan e).state = .none) (hlook : v.p.relay.look v.p.time.tick = v.p.relay) (r : ErrorRecord) :
    ∃ b, v.takeAll (fun u => u.haltingError r) = { v with
      p := v.p.abortTaken e w x r, completions := []
      steps := v.steps ++ w.stepNotice .aborted
      entries := v.entries ++ w.directNotice e .aborted (some cause) ++ (v.p.abortTaken e w x r).seqEntry v.p.disp.seq
      askEvaluate := true, askRemainder := b } := by
  let c := w.completion e .aborted (some cause) none
  obtain ⟨nails, hmarks⟩ := v.p.markReplaced_eq x .aborted
  let base : Part := { v.p with
    map := { v.p.map with nails := nails }
    disp := { v.p.disp with inFlight := v.p.disp.inFlight.set e none, direct := if w.origin = none then none else v.p.disp.direct } }
  let log := v.p.log.afterError v.p.disp.seq (some { r with time := v.p.time48 })
  let released : Ev := { v with
    p := base, completions := [], steps := v.steps ++ w.stepNotice .aborted
    entries := v.entries ++ w.directNotice e .aborted (some cause), askRemainder := v.askRemainder || w.origin.isNone }
  have hreleased : v.p.releasedBy c = base := by
    have hrelay : (v.p.relay.complete v.p.time e).look v.p.time.tick = v.p.relay := by rw [Relay.complete_of_none hplan, hlook]
    have hmarked : v.p.marked c = { v.p with map := { v.p.map with nails := nails } } := by
      rw [← hmarks]
      unfold Part.marked
      rw [show v.p.disp.inFlight.get c.engine = some x from hx]
      rfl
    unfold Part.releasedBy
    rw [hmarked, show (v.p.relay.complete v.p.time c.engine).look v.p.time.tick = v.p.relay from hrelay]
    rfl
  have hstep : ({ v with completions := [] } : Ev).releaseStep c = released :=
    (Ev.releaseStep_eq _ c).trans (congrArg (fun p => { released with p := p }) hreleased)
  have hhalt : released.haltingError r = released.sequenced v.p.disp.seq.afterHalt log := released.haltingError_eq r
  have htaken : v.p.abortTaken e w x r = base.sequenced
      (v.p.disp.seq.afterAbort w.origin.isSome (v.p.othersInFlight e) v.p.relay.matrixOpen) log := by
    unfold Part.abortTaken
    rw [hmarks]
    rfl
  have hjudged : (released.sequenced v.p.disp.seq.afterHalt log).judgeStep c = ({ released with askEvaluate := true } : Ev).sequenced
      (v.p.disp.seq.afterAbort w.origin.isSome (v.p.othersInFlight e) v.p.relay.matrixOpen) log := by
    cases ho : w.origin with
    | none =>
      have hstate : v.p.disp.seq.afterAbort (none : Option Nat).isSome (v.p.othersInFlight e) v.p.relay.matrixOpen =
          v.p.disp.seq.afterHalt := by cases v.p.disp.seq <;> rfl
      rw [Ev.judgeStep_direct (c := c) ho, hstate]
      rfl
    | some slot =>
      have hothers : (released.sequenced v.p.disp.seq.afterHalt log).p.ringInFlight = v.p.othersInFlight e :=
        Part.ringInFlight_without (p := v.p) rfl
      have hnone : c.error = none := by simp [c, Completion.error, Work.completion, Verdict.failing]
      have hquiet : ∀ (l : ErrorLog) (st : SeqState), l.afterError st none = l := fun l st => by cases st <;> rfl
      rw [Ev.judgeStep_ring (c := c) ho, Completion.errorAt_ring (c := c) ho, hnone, hothers, Option.map_none, hquiet]
      cases hs : v.p.disp.seq with
      | running | pausing | halted | stopped | paused | drained => exact Ev.sequenced_same rfl
      | stopping =>
        have hlog : log = v.p.log := by simp only [log, hs]; rfl
        have hsame : released.sequenced SeqState.stopping.afterHalt log = released := by
          rw [hlog]
          exact Ev.sequenced_same hs
        rw [hsame, show released.p.disp.seq = .stopping from hs, show released.p.log = log from hlog.symm]
        refine congrArg (fun st => Ev.sequenced { released with askEvaluate := true } st log) ?_
        change SeqState.afterStep .stopping _ _ (v.p.othersInFlight e) _ v.p.relay.matrixOpen = _
        cases v.p.othersInFlight e <;> cases v.p.relay.matrixOpen <;> rfl
  refine ⟨(({ released with askEvaluate := true } : Ev).sequenced
    (v.p.disp.seq.afterAbort w.origin.isSome (v.p.othersInFlight e) v.p.relay.matrixOpen) log).askRemainder,
    (Ev.takeAll_one hc _).trans ?_⟩
  rw [hstep, hhalt, hjudged, htaken]
  rfl

end Sys2Proof.Machine

/-! PROOFS. STOP, vacuum loss and undock that find one engine at work (R19, R20, R50, R68, R92, R93, R124, R125). -/

namespace Sys2Proof.Machine

/-! ### One engine at work -/

/-- One engine alone is ACTIVE, with a measurement step and in no quiet phase, and no block streams. -/
structure Part.OneAtWork (p : Part) (e : EngineId) (w : Work) (x : Entry) : Prop where
  measures : p.Measures e w x
  quiet : (p.plan e).quiet = false
  block : p.queue.block = 0
  others : ∀ f, f ≠ e → (p.engine f).state ≠ .active ∧ (p.engine f).phase ≠ some .abortDischarge

theorem Part.AloneActive.oneAtWork {p : Part} {e : EngineId} {w : Work} {x : Entry} (h : p.AloneActive e w x) :
    p.OneAtWork e w x := ⟨h.measures, h.quiet, h.block, h.others⟩

section
variable {p q : Part} {e : EngineId} {w : Work} {x : Entry}

/-- What the engines, the steps in flight and the queue do not show leaves one engine at work. -/
theorem Part.OneAtWork.of_eq (h : p.OneAtWork e w x) (hengines : q.engines = p.engines)
    (hflight : q.disp.inFlight = p.disp.inFlight) (hqueue : q.queue = p.queue) (hquiet : (q.plan e).quiet = false) :
    q.OneAtWork e w x := by
  have hengine : ∀ f, q.engine f = p.engine f := fun f => by rw [Part.engine, hengines, Part.engine]
  obtain ⟨⟨hactive, hwork, hnot, hentry⟩, -, hblock, hothers⟩ := h
  exact ⟨⟨(hengine e).symm ▸ hactive, (hengine e).symm ▸ hwork, hnot, hflight.symm ▸ hentry⟩, hquiet, hqueue.symm ▸ hblock,
    fun f hf => (hengine f).symm ▸ hothers f hf⟩

theorem Part.OneAtWork.owes_iff (h : p.OneAtWork e w x) : (p.engine e).owesDischarge = true ↔ w.record.kind = .cap ∧
    ((p.engine e).phase = some .discharge ∨ (p.engine e).phase = some .ramp ∨
      ((p.engine e).phase = some .postDischarge ∧ (p.engine e).phaseWait ≠ none)) := by
  rw [Engine.owesDischarge_iff, h.measures.work]
  simp

/-- The relays replaced beside the end of a step, in no quiet phase. -/
theorem Part.stepDone_withRelay (hp : (p.plan e).quiet = false) {r : Relay} (hr : (r.plans.get e).quiet = false) (f : Formed)
    (cause : Option Cause) (after : Engine) :
    ({ p.stepDone e w f cause after with relay := r } : Part) = ({ p with relay := r } : Part).stepDone e w f cause after := by
  have hleft : p.leftRelay e = p.relay := if_neg (by simp [hp])
  have hleft' : ({ p with relay := r } : Part).leftRelay e = r := if_neg (by simp [Part.plan, hr])
  simp only [Part.stepDone, Part.silenced, hleft, hleft']
  rfl

/-- The release of all relays, with the engines that keep their cards. -/
def Part.released (p : Part) (discharging : EngineId → Bool) : Part :=
  { p with relay := (p.relay.releaseAll discharging).look p.time.tick }

theorem Part.released_plan (p : Part) (discharging : EngineId → Bool) (e : EngineId) :
    (p.released discharging).plan e = (if discharging e then { p.plan e with state := .releaseAtEnd, held := [], hold := none }
      else { p.plan e with state := .none, wanted := [], held := [], hold := none }) := by
  have hplans : (p.released discharging).relay.plans = (p.relay.releaseAll discharging).plans := Relay.look_plans _ _
  rw [Part.plan, hplans, Relay.releaseAll_plan]
  rfl

theorem Part.released_quiet {discharging : EngineId → Bool} (h : (p.plan e).quiet = false) :
    ((p.released discharging).plan e).quiet = false := by
  rw [Part.released_plan]
  split <;> exact h

/-! ### The abort of the one engine -/

section
variable {v : Ev} (hv : v.p.OneAtWork e w x) (cause : Cause)
include hv

/-- An undock's abort (R125). -/
theorem Ev.abortAll_atOnce (hc : v.completions = []) : v.abortAll (Ev.abortWithoutDischarge cause) = { v with
    p := v.p.stepDone e w ⟨.aborted, none⟩ (some cause) ((v.p.engine e).ended false)
    completions := [w.completion e .aborted (some cause) none] } := by
  rw [Ev.abortAll_one hv.measures.active (fun f hf => (hv.others f hf).1),
    Ev.abortWithoutDischarge_step cause hv.measures.active hv.measures.work hv.measures.notScan hv.quiet hv.block, hc]
  rfl

/-- An abort with discharge that finds nothing to drain (R124). -/
theorem Ev.abortAll_noDischarge (hc : v.completions = []) (ho : (v.p.engine e).owesDischarge = false)
    (hp : (v.p.engine e).phase ≠ some .abortDischarge) : v.abortAll (Ev.abortWithDischarge cause) = { v with
      p := v.p.stepDone e w ⟨.aborted, none⟩ (some cause) ((v.p.engine e).ended false)
      completions := [w.completion e .aborted (some cause) none] } := by
  rw [← Ev.abortAll_atOnce hv cause hc, Ev.abortAll_one hv.measures.active (fun f hf => (hv.others f hf).1),
    Ev.abortAll_one hv.measures.active (fun f hf => (hv.others f hf).1),
    Ev.abortWithDischarge_atOnce cause hv.measures.active hp ho]

/-- An abort with discharge that finds a charge (R124). -/
theorem Ev.abortAll_discharges (ho : (v.p.engine e).owesDischarge = true) : v.abortAll (Ev.abortWithDischarge cause) =
    { v with p := (v.p.disarm e).setEngine e ((v.p.engine e).discharging v.p cause) } := by
  rw [Ev.abortAll_one hv.measures.active (fun f hf => (hv.others f hf).1),
    Ev.abortWithDischarge_drains cause hv.measures.active ho hv.quiet]

/-- An abort with discharge of an engine that drains already (R124). -/
theorem Ev.abortAll_draining (hp : (v.p.engine e).phase = some .abortDischarge) :
    v.abortAll (Ev.abortWithDischarge cause) = v := by
  rw [Ev.abortAll_one hv.measures.active (fun f hf => (hv.others f hf).1), Ev.abortWithDischarge_ignored cause (.inr hp)]

end

/-! ### The aborted step taken -/

theorem SeqState.afterAbort_eq (st : SeqState) (origin : Option Nat) (others matrixOpen : Bool) :
    st.afterAbort origin.isSome others matrixOpen =
      if st = .running ∨ st = .pausing then .halted
      else if st = .stopping ∧ (origin ≠ none ∧ others = false ∧ matrixOpen = true) then .stopped else st := by
  cases st <;> simp [SeqState.afterAbort, Option.isSome_iff_ne_none]

/-- STOPPING that an aborted ring step has not ended does not end after it. -/
theorem Part.abortTaken_stays (p : Part) (e : EngineId) {w : Work} (x : Entry) (r : ErrorRecord)
    (h : p.disp.seq = .stopping → w.origin ≠ none) : (p.abortTaken e w x r).disp.seq ≠ .stopping ∨
      (p.abortTaken e w x r).ringInFlight = true ∨ (p.abortTaken e w x r).relay.matrixOpen = false := by
  have hothers : (p.abortTaken e w x r).ringInFlight = p.othersInFlight e := Part.ringInFlight_without rfl
  have hrelay : (p.abortTaken e w x r).relay = p.relay := rfl
  have hseq : (p.abortTaken e w x r).disp.seq = _ := SeqState.afterAbort_eq p.disp.seq w.origin (p.othersInFlight e) p.relay.matrixOpen
  rw [hothers, hrelay, hseq]
  by_cases hs : p.disp.seq = .stopping
  · by_cases hstop : w.origin ≠ none ∧ p.othersInFlight e = false ∧ p.relay.matrixOpen = true
    · exact .inl (by simp [hs, hstop])
    · have ho := h hs
      cases h1 : p.othersInFlight e with
      | true => exact .inr (.inl rfl)
      | false =>
        cases h2 : p.relay.matrixOpen with
        | true => exact absurd ⟨ho, h1, h2⟩ hstop
        | false => exact .inr (.inr rfl)
  · refine .inl ?_
    split_ifs
    · nofun
    · nofun
    · exact hs

end

/-! ### What an abort leaves -/

/-- What the abort of a measurement step leaves, with the halting error taken beside it, where the relays are released. -/
structure Part.AbortLeft (q t : Part) (e : EngineId) (w : Work) (x : Entry) (cause : Cause) (r : ErrorRecord) : Prop where
  work : q.WorkEnded t e w x ⟨.aborted, none⟩ (some cause) false
  relay : t.relay = q.relay
  seq : t.disp.seq = q.disp.seq.afterAbort w.origin.isSome (q.othersInFlight e) q.relay.matrixOpen
  log : t.log = q.log.afterError q.disp.seq (some { r with time := q.time48 })

/-- The part once the one engine's step is aborted, and taken with its halting error. -/
def Part.abortedAndTaken (p : Part) (e : EngineId) (w : Work) (x : Entry) (cause : Cause) (r : ErrorRecord) : Part :=
  (p.stepDone e w ⟨.aborted, none⟩ (some cause) ((p.engine e).ended false)).abortTaken e w x r

section
variable {q t : Part} {e : EngineId} {w : Work} {x : Entry} {cause : Cause} {r : ErrorRecord}

theorem Part.abortedAndTaken_left (hq : (q.plan e).quiet = false) (w : Work) (x : Entry) (cause : Cause) (r : ErrorRecord) :
    q.AbortLeft (q.abortedAndTaken e w x cause r) e w x cause r := by
  have hleft : q.leftRelay e = q.relay := if_neg (by simp [hq])
  have hwork : q.WorkEnded (q.abortedAndTaken e w x cause r) e w x ⟨.aborted, none⟩ (some cause) false := by
    obtain ⟨nails, hmarks⟩ := (q.stepDone e w ⟨.aborted, none⟩ (some cause) ((q.engine e).ended false)).markReplaced_eq x .aborted
    refine Part.stepDone_workEnded (g := q.engine e) rfl (link := q.link) (relay := q.leftRelay e)
      (seq := q.disp.seq.afterAbort w.origin.isSome (q.othersInFlight e) (q.leftRelay e).matrixOpen)
      (log := q.log.afterError q.disp.seq (some { r with time := q.time48 })) ?_
    unfold Part.abortedAndTaken Part.abortTaken
    rw [hmarks]
    rfl
  refine ⟨hwork, hleft, ?_, rfl⟩
  exact congrArg (fun k : Relay => q.disp.seq.afterAbort w.origin.isSome (q.othersInFlight e) k.matrixOpen) hleft

theorem Part.abortedAndTaken_link (q : Part) (e : EngineId) (w : Work) (x : Entry) (cause : Cause) (r : ErrorRecord) :
    (q.abortedAndTaken e w x cause r).link = q.link := by
  obtain ⟨nails, hmarks⟩ := (q.stepDone e w ⟨.aborted, none⟩ (some cause) ((q.engine e).ended false)).markReplaced_eq x .aborted
  unfold Part.abortedAndTaken Part.abortTaken
  rw [hmarks]
  rfl

/-- What an abort leaves does not show the link of either part. -/
theorem Part.AbortLeft.of_link (h : q.AbortLeft t e w x cause r) (k l : LinkPort) :
    ({ q with link := k } : Part).AbortLeft { t with link := l } e w x cause r := by
  obtain ⟨⟨h1, h2, h3, h4, h5, h6, h7, h8, h9, h10⟩, hrelay, hseq, hlog⟩ := h
  exact ⟨⟨h1, h2, h3, h4, h5, h6, h7, h8, h9, h10⟩, hrelay, hseq, hlog⟩

theorem Part.AbortLeft.not_running (h : q.AbortLeft t e w x cause r) : t.disp.seq ≠ .running := by
  rw [h.seq, SeqState.afterAbort_eq]
  split_ifs with h1
  · nofun
  · nofun
  · exact fun hs => h1 (.inl hs)

theorem Part.AbortLeft.block (h : q.AbortLeft t e w x cause r) (hb : q.queue.block = 0) : t.queue.block = 0 := by
  have hqueue := h.work.queue.trans (ResultQueue.joined_unstreamed { q.queue with reserved := q.queue.reserved - 1 }
    (q.workRecord e w ⟨.aborted, none⟩ (some cause)) hb)
  rw [hqueue]
  exact hb

/-- The event of an abort closes with its frames, where no direct step waits beside the aborted one. -/
theorem Ev.close_aborted {v : Ev} (h : q.AbortLeft v.p e w x cause r) (hb : q.queue.block = 0)
    (hdirect : w.origin = none ∨ q.disp.direct = none) (hc : v.completions = []) (hr : v.askRemoval = false) :
    v.close = v.p.hand v.frames := by
  have hnone : v.p.disp.direct = none := by
    rw [h.work.direct]
    rcases hdirect with hd | hd <;> simp [hd]
  exact v.close_quiet hc (.inl hr) (.inr (Part.nothingToDispatch_of_idle h.not_running hnone))
    (.inr (by simp [Part.noRemainder, h.block hb]))

/-- The completion of the one aborted step is taken with the interlock's error, where its plan is gone. -/
theorem Ev.takeAll_abortedAndTaken {v : Ev} (hp : v.p = q.stepDone e w ⟨.aborted, none⟩ (some cause) ((q.engine e).ended false))
    (hc : v.completions = [w.completion e .aborted (some cause) none]) (hx : q.disp.inFlight.get e = some x)
    (hquiet : (q.plan e).quiet = false) (hplan : (q.plan e).state = .none) (hlook : q.relay.look q.time.tick = q.relay)
    (r : ErrorRecord) : ∃ b, v.takeAll (fun u => u.haltingError r) = { v with
      p := q.abortedAndTaken e w x cause r, completions := []
      steps := v.steps ++ w.stepNotice .aborted
      entries := v.entries ++ w.directNotice e .aborted (some cause) ++ (q.abortedAndTaken e w x cause r).seqEntry q.disp.seq
      askEvaluate := true, askRemainder := b } := by
  have hleft : q.leftRelay e = q.relay := if_neg (by simp [hquiet])
  have hrelay : v.p.relay = q.relay := by rw [hp]; exact hleft
  have hplan' : (v.p.plan e).state = .none := by rw [Part.plan, hrelay]; exact hplan
  have hlook' : v.p.relay.look v.p.time.tick = v.p.relay := by rw [hrelay, hp]; exact hlook
  obtain ⟨b, h⟩ := Ev.takeAll_aborted (x := x) hc (by rw [hp]; exact hx) hplan' hlook' r
  refine ⟨b, h.trans ?_⟩
  rw [hp]
  rfl

end

/-! ### A waiting direct step beside the aborted one (R71) -/

theorem Part.directEngine_ne_none {p : Part} {e : EngineId} {x : Entry} (hx : p.disp.inFlight.get e = some x)
    (ho : x.origin = none) : p.directEngine ≠ none := by
  unfold Part.directEngine
  rw [ne_eq, List.find?_eq_none]
  intro h
  exact h e e.mem_all (by simp [hx, ho])

/-- A direct step that does not wait is not marked. -/
theorem Part.endWaitingDirect_same {p : Part} (h : p.disp.direct = none ∨ p.directEngine ≠ none) (cause : Cause) :
    p.endWaitingDirect cause = p := by
  unfold Part.endWaitingDirect
  split
  next hd he =>
    rcases h with h | h
    · cases h.symm.trans hd
    · exact absurd he h
  · rfl

/-- What is done to the rest of a part does not reach the mark. -/
theorem Part.endWaitingDirect_comm {p : Part} {f : Part → Part}
    (hf : ∀ (q : Part) (d : Dispatcher), f { q with disp := d } = { f q with disp := d }) (cause : Cause) :
    (f p).endWaitingDirect cause = f (p.endWaitingDirect cause) := by
  have hdisp : (f p).disp = p.disp := (congrArg Part.disp (hf p p.disp) :)
  have hengine : (f p).directEngine = p.directEngine := by unfold Part.directEngine; rw [hdisp]
  unfold Part.endWaitingDirect
  rw [hdisp, hengine]
  split
  · split
    · exact (hf p _).symm
    · rfl
  · rfl

theorem Part.endWaitingDirect_stepDone (p : Part) (e : EngineId) (w : Work) (f : Formed) (c : Option Cause) (after : Engine)
    (cause : Cause) : (p.stepDone e w f c after).endWaitingDirect cause = (p.endWaitingDirect cause).stepDone e w f c after :=
  Part.endWaitingDirect_comm (f := fun q => q.stepDone e w f c after) (fun _ _ => rfl) cause

theorem Part.OneAtWork.endWaitingDirect {p : Part} {e : EngineId} {w : Work} {x : Entry} (h : p.OneAtWork e w x) (cause : Cause) :
    (p.endWaitingDirect cause).OneAtWork e w x := by
  rcases p.endWaitingDirect_eq cause with heq | ⟨d, -, heq⟩
  · rw [heq]
    exact h
  · rw [heq]
    exact h.of_eq rfl rfl rfl h.quiet

/-! ### The events of the interlock that find one engine at work (R19, R20) -/

section
variable {p : Part} {e : EngineId} {w : Work} {x : Entry} {due : Nat}

/-- The part of an undock, its waiting direct step marked. -/
def Part.undockedMarked (p : Part) (due : Nat) : Part := (p.undocked due).endWaitingDirect .fixtureRemoved

section
variable (p : Part) (cause : Cause)

/-- The mark of a waiting direct step is all that is written. -/
theorem Part.endWaitingDirect_rest : p.endWaitingDirect cause =
    { p with disp := { p.disp with direct := (p.endWaitingDirect cause).disp.direct } } := by
  rcases p.endWaitingDirect_eq cause with heq | ⟨d, -, heq⟩ <;> rw [heq]

theorem Part.endWaitingDirect_relay : (p.endWaitingDirect cause).relay = p.relay :=
  (congrArg Part.relay (p.endWaitingDirect_rest cause) :)
theorem Part.endWaitingDirect_time : (p.endWaitingDirect cause).time = p.time :=
  (congrArg Part.time (p.endWaitingDirect_rest cause) :)
theorem Part.endWaitingDirect_lock : (p.endWaitingDirect cause).lock = p.lock :=
  (congrArg Part.lock (p.endWaitingDirect_rest cause) :)
theorem Part.endWaitingDirect_seq : (p.endWaitingDirect cause).disp.seq = p.disp.seq :=
  (congrArg (fun q : Part => q.disp.seq) (p.endWaitingDirect_rest cause) :)

end

theorem Part.undocked_plan (p : Part) (due : Nat) (e : EngineId) : (p.undocked due).plan e =
    { p.plan e with state := .none, wanted := [], held := [], hold := none } := by
  have hplans : (p.undocked due).relay.plans = p.relay.askAllOpen.plans := Relay.look_plans _ _
  have hasked : p.relay.askAllOpen.plans.get e = { p.plan e with state := .none, wanted := [], held := [], hold := none } := by
    rw [Relay.askAllOpen, Relay.deriveChanged_plans]
    exact PerEngine.get_mapIdx _ _ _
  rw [Part.plan, hplans, hasked]

theorem Part.OneAtWork.undocked (h : p.OneAtWork e w x) (due : Nat) : (p.undocked due).OneAtWork e w x :=
  h.of_eq rfl rfl rfl (by rw [Part.undocked_plan]; exact h.quiet)

theorem Part.OneAtWork.unsealed (h : p.OneAtWork e w x) (due : Nat) : (p.unsealed due).OneAtWork e w x :=
  h.of_eq rfl rfl rfl h.quiet

theorem Part.OneAtWork.released (h : p.OneAtWork e w x) (discharging : EngineId → Bool) : (p.released discharging).OneAtWork e w x :=
  h.of_eq rfl rfl rfl (Part.released_quiet h.quiet)

/-- An undock that finds one engine at work. -/
theorem Ev.debounced_undock_one (h : p.OneAtWork e w x) (hwait : p.lock.presentLine.wait = some due)
    (hraw : p.lock.presentLine.raw = false) :
    let t := (p.undockedMarked due).abortedAndTaken e w x .fixtureRemoved (interlockError .fixtureRemoved)
    ∃ b, Ev.debounced .fixturePresent (Ev.start p) = { Ev.start t with
      steps := w.stepNotice .aborted
      entries := w.directNotice e .aborted (some .fixtureRemoved) ++ t.seqEntry p.disp.seq
      last := [.notice (.fixture ⟨false, p.lock.vacuum, .absent⟩ .undock)]
      askEvaluate := true, askRemainder := b } := by
  intro t
  let q := p.undockedMarked due
  have hq : q.OneAtWork e w x := (h.undocked due).endWaitingDirect _
  have hseq : q.disp.seq = p.disp.seq := Part.endWaitingDirect_seq _ _
  have hrelay : q.relay = (p.undocked due).relay := Part.endWaitingDirect_relay _ _
  have htime : q.time = (p.undocked due).time := Part.endWaitingDirect_time _ _
  have hplan : (q.plan e).state = .none := by rw [Part.plan, hrelay]; exact congrArg EnginePlan.state (p.undocked_plan due e)
  have hlook : q.relay.look q.time.tick = q.relay := by rw [hrelay, htime]; exact Relay.look_look _ _
  have hlock : t.lock = (p.undocked due).lock :=
    (Part.abortedAndTaken_left hq.quiet w x _ _).work.rest.1.trans (Part.endWaitingDirect_lock _ _)
  have hgone : ((Ev.start (p.undocked due)).abortAll (Ev.abortWithoutDischarge .fixtureRemoved)).map
      (fun q => q.endWaitingDirect .fixtureRemoved) =
      { Ev.start (q.stepDone e w ⟨.aborted, none⟩ (some .fixtureRemoved) ((q.engine e).ended false)) with
        completions := [w.completion e .aborted (some .fixtureRemoved) none] } := by
    have hengine : q.engine e = (p.undocked due).engine e :=
      (congrArg (fun r : Part => r.engine e) ((p.undocked due).endWaitingDirect_rest .fixtureRemoved) :)
    have hmark := (p.undocked due).endWaitingDirect_stepDone e w ⟨.aborted, none⟩ (some .fixtureRemoved)
      (((p.undocked due).engine e).ended false) .fixtureRemoved
    rw [Ev.abortAll_atOnce (v := Ev.start (p.undocked due)) (h.undocked due) .fixtureRemoved rfl, hengine]
    exact congrArg (fun r : Part => ({ Ev.start r with
      completions := [w.completion e .aborted (some .fixtureRemoved) none] } : Ev)) hmark
  obtain ⟨b, htaken⟩ := Ev.takeAll_abortedAndTaken (q := q) (cause := .fixtureRemoved)
    (v := { Ev.start (q.stepDone e w ⟨.aborted, none⟩ (some .fixtureRemoved) ((q.engine e).ended false)) with
      completions := [w.completion e .aborted (some .fixtureRemoved) none] }) rfl rfl hq.measures.entry hq.quiet hplan hlook
    (interlockError .fixtureRemoved)
  refine ⟨b, (Ev.debounced_undock hwait hraw).trans ?_⟩
  dsimp only
  rw [hgone, htaken, Ev.noteLast, Ev.fixtureNotice, Part.fixtureView]
  dsimp only
  rw [show (q.abortedAndTaken e w x .fixtureRemoved (interlockError .fixtureRemoved)).lock = _ from hlock, hseq]
  rfl

end

/-! ### Abort, release and the halting error together (R20, R50) -/

section
variable {v : Ev} {e : EngineId} {w : Work} {x : Entry}

/-- A release of the whole matrix beside engines that drain their charges. -/
theorem Ev.releaseAll_released {discharging : EngineId → Bool}
    (h : ∀ f, decide ((v.p.engine f).phase = some .abortDischarge) = discharging f) :
    v.releaseAll = { v with p := v.p.released discharging } := Ev.releaseAll_eq h

/-- An abort with discharge that ends the step at once, the release of every relay, and the halting error. -/
theorem Ev.abort_release_take (hv : v.p.OneAtWork e w x) (hc : v.completions = [])
    (hs : v.p.disp.seq = .stopping → w.origin ≠ none) (ho : (v.p.engine e).owesDischarge = false)
    (hp : (v.p.engine e).phase ≠ some .abortDischarge) (cause : Cause) (r : ErrorRecord) :
    let q := (v.p.endWaitingDirect cause).released fun _ => false
    let t := q.abortedAndTaken e w x cause r
    ∃ b, ((((v.abortAll (Ev.abortWithDischarge cause)).map fun p => p.endWaitingDirect cause).releaseAll.takeAll
      fun u => u.haltingError r).judgeStopped) = { v with
        p := t, completions := [], steps := v.steps ++ w.stepNotice .aborted
        entries := v.entries ++ w.directNotice e .aborted (some cause) ++ t.seqEntry v.p.disp.seq
        askEvaluate := true, askRemainder := b } := by
  intro q t
  let marked := v.p.endWaitingDirect cause
  have hmarked : marked.OneAtWork e w x := hv.endWaitingDirect cause
  have hq : q.OneAtWork e w x := hmarked.released _
  have hengine : marked.engine e = v.p.engine e := (congrArg (fun r : Part => r.engine e) (v.p.endWaitingDirect_rest cause) :)
  let after := (v.p.engine e).ended false
  let gone : Ev := { v with
    p := marked.stepDone e w ⟨.aborted, none⟩ (some cause) after
    completions := [w.completion e .aborted (some cause) none] }
  have hgone : (v.abortAll (Ev.abortWithDischarge cause)).map (fun p => p.endWaitingDirect cause) = gone := by
    have hmark := v.p.endWaitingDirect_stepDone e w ⟨.aborted, none⟩ (some cause) after cause
    rw [Ev.abortAll_noDischarge hv cause hc ho hp]
    exact congrArg (fun r : Part => ({ gone with p := r } : Ev)) hmark
  have hnone : ∀ f, decide ((gone.p.engine f).phase = some .abortDischarge) = false := fun f => by
    by_cases hf : f = e
    · rw [hf, show gone.p.engine e = after from PerEngine.get_set_same _ _ _]
      rfl
    · rw [show gone.p.engine f = marked.engine f from PerEngine.get_set_ne _ _ _ _ hf]
      exact decide_eq_false (hmarked.others f hf).2
  have hreleased : gone.releaseAll = { gone with p := q.stepDone e w ⟨.aborted, none⟩ (some cause) ((q.engine e).ended false) } := by
    have hleft : marked.leftRelay e = marked.relay := if_neg (by simp [hmarked.quiet])
    have hR : (((marked.relay.releaseAll fun _ => false).look marked.time.tick).plans.get e).quiet = false :=
      Part.released_quiet (p := marked) hmarked.quiet
    have hdone := Part.stepDone_withRelay (p := marked) (w := w) hmarked.quiet hR ⟨.aborted, none⟩ (some cause) after
    have hsame : (q.engine e).ended false = after := congrArg (fun g : Engine => g.ended false) hengine
    rw [Ev.releaseAll_released hnone, hsame]
    refine congrArg (fun r : Part => ({ gone with p := r } : Ev)) (Eq.trans ?_ hdone)
    have hrelay : gone.p.relay = marked.relay := hleft
    unfold Part.released
    rw [hrelay]
    rfl
  have hplan : (q.plan e).state = .none := by
    rw [show q.plan e = _ from Part.released_plan (p := marked) (fun _ => false) e]
    rfl
  have hlook : q.relay.look q.time.tick = q.relay := Relay.look_look _ _
  have hseq : q.disp.seq = v.p.disp.seq := Part.endWaitingDirect_seq _ _
  obtain ⟨b, htaken⟩ := Ev.takeAll_abortedAndTaken (q := q) (cause := cause)
    (v := { gone with p := q.stepDone e w ⟨.aborted, none⟩ (some cause) ((q.engine e).ended false) }) rfl rfl hq.measures.entry
    hq.quiet hplan hlook r
  refine ⟨b, ?_⟩
  rw [hgone, hreleased, htaken, hseq]
  exact Ev.judgeStopped_stays (Part.abortTaken_stays _ e x r (by rw [← hseq] at hs; exact hs))

/-- The release of the matrix beside engines that drain or none, and the halting error. -/
theorem Ev.keep_release_take {discharging : EngineId → Bool} (hc : v.completions = [])
    (hphase : ∀ f, decide ((v.p.engine f).phase = some .abortDischarge) = discharging f)
    (hs : v.p.disp.seq = .stopping → v.p.ringInFlight = true) (cause : Cause) (r : ErrorRecord) :
    (((v.map fun p => p.endWaitingDirect cause).releaseAll.takeAll fun u => u.haltingError r).judgeStopped) =
      ({ v with p := (v.p.endWaitingDirect cause).released discharging } : Ev).sequenced v.p.disp.seq.afterHalt
        (v.p.log.afterError v.p.disp.seq (some { r with time := v.p.time48 })) := by
  let kept : Ev := { v with p := (v.p.endWaitingDirect cause).released discharging }
  have hengine : ∀ f, (v.p.endWaitingDirect cause).engine f = v.p.engine f := fun f =>
    (congrArg (fun r : Part => r.engine f) (v.p.endWaitingDirect_rest cause) :)
  have hreleased : (v.map fun p => p.endWaitingDirect cause).releaseAll = kept :=
    Ev.releaseAll_released fun f => by rw [← hphase f, Ev.map_p, hengine]
  have hseq : kept.p.disp.seq = v.p.disp.seq := Part.endWaitingDirect_seq _ _
  have hlog : kept.p.log = v.p.log := (congrArg Part.log (v.p.endWaitingDirect_rest cause) :)
  have htime : kept.p.time48 = v.p.time48 := (congrArg (fun r : Part => r.time48) (v.p.endWaitingDirect_rest cause) :)
  have hflight : kept.p.ringInFlight = v.p.ringInFlight :=
    Part.ringInFlight_congr (congrArg (fun r : Part => r.disp.inFlight) (v.p.endWaitingDirect_rest cause) :)
  rw [hreleased, Ev.takeAll_none (v := kept) hc, Ev.haltingError_eq, hseq, hlog, htime]
  refine Ev.judgeStopped_stays ?_
  by_cases hstop : v.p.disp.seq = .stopping
  · exact .inr (.inl ((Part.ringInFlight_congr rfl).trans (hflight.trans (hs hstop))))
  · refine .inl fun h => hstop ?_
    cases hst : v.p.disp.seq <;> rw [hst] at h <;> first | rfl | cases h

end

end Sys2Proof.Machine

/-! PROOFS. Aborts settled: STOP, undock and vacuum loss that find one engine ACTIVE (R19, R20, R50, R68, R92, R93, R124,
R125). -/

namespace Sys2Proof.Machine

/-! ### Clauses about the aborts themselves (R124, R125) -/

theorem Engine.owesDischarge_eq_false {g : Engine} (h : ¬ ((∃ w, g.work = some w ∧ w.record.kind = .cap) ∧
    (g.phase = some .discharge ∨ g.phase = some .ramp ∨ (g.phase = some .postDischarge ∧ g.phaseWait ≠ none)))) :
    g.owesDischarge = false := Bool.eq_false_iff.mpr fun ho => h (Engine.owesDischarge_iff.mp ho)

theorem Part.AloneActive.notRingDirect {p : Part} {e : EngineId} {w : Work} {x : Entry} (h : p.AloneActive e w x) :
    p.disp.direct = none ∨ p.directEngine ≠ none := by
  cases ho : w.origin with
  | none => exact .inr (Part.directEngine_ne_none h.measures.entry (h.origin.trans ho))
  | some i => exact .inl (h.direct (by simp [ho]))

theorem Part.AloneActive.noneWaits {p : Part} {e : EngineId} {w : Work} {x : Entry} (h : p.AloneActive e w x) :
    w.origin = none ∨ p.disp.direct = none := by
  cases ho : w.origin with
  | none => exact .inl rfl
  | some i => exact .inr (h.direct (by simp [ho]))

/-- In STOPPING the interlock's error is no event. -/
theorem Ev.takeAll_stopping {v : Ev} (hs : v.p.disp.seq = .stopping)
    (hc : v.completions = [] ∨ ∃ c, v.completions = [c]) (r : ErrorRecord) :
    v.takeAll (fun u => u.haltingError r) = v.takeAll id := by
  rcases hc with hc | ⟨c, hc⟩
  · rw [Ev.takeAll_none hc, Ev.takeAll_none hc, Ev.haltingError_ignored (.inr (.inr (.inr hs)))]
    rfl
  · have hstep : (({ v with completions := [] } : Ev).releaseStep c).p.disp.seq = .stopping := by
      rw [Ev.releaseStep_eq]
      exact hs
    rw [Ev.takeAll_one hc, Ev.takeAll_one hc, Ev.haltingError_ignored (.inr (.inr (.inr hstep)))]
    rfl

/-! ### STOP beside one engine at work (R50, R92) -/

section
variable {p : Part} {e : EngineId} {w : Work} {x : Entry}

/-- The part of a STOP that has discarded the PENDING slots and not yet released the matrix. -/
def Part.discarding (p : Part) : Part := { p with ring := p.ring.discardPending, disp := { p.disp with seq := .stopping } }

theorem Part.OneAtWork.discarding (h : p.OneAtWork e w x) : p.discarding.OneAtWork e w x := h.of_eq rfl rfl rfl h.quiet

/-- The event of a STOP that has discarded the PENDING slots. -/
def Ev.stopBegun (p : Part) (number : Byte) : Ev :=
  { Ev.start (p.discarding.taking number 0x33) with replies := [OutFrame.reply number 0x33 .done] }

/-- The abort, the release and the taking of a STOP. -/
def Ev.stopRest (v : Ev) : Ev := ((v.abortAll (Ev.abortWithDischarge .stopped)).releaseAll.takeAll id).judgeStopped

theorem ownStop_begun {number : Byte} (h : p.disp.seq = .running ∨ p.disp.seq = .pausing ∨ p.disp.seq = .paused ∨ p.disp.seq = .drained)
    (hd : p.disp.direct = none) :
    ownStop [] (Ev.start (p.taking number 0x33)) = (Ev.stopBegun p number).stopRest := by
  have hdirect : (Ev.start (p.taking number 0x33)).p.disp.direct.isSome = false := by
    rw [show (Ev.start (p.taking number 0x33)).p.disp.direct = p.disp.direct from rfl, hd]
    rfl
  exact (ownStop_taken h).trans (if_neg (by rw [hdirect]; exact Bool.false_ne_true))

/-- A STOP takes the completions as the interlock's events do: no error is an event in STOPPING. -/
theorem Ev.stopRest_eq {v u : Ev} (habort : v.abortAll (Ev.abortWithDischarge .stopped) = u)
    (hs : u.p.disp.seq = .stopping) (hd : u.p.disp.direct = none)
    (hc : u.completions = [] ∨ ∃ c, u.completions = [c]) (r : ErrorRecord) : v.stopRest =
      ((u.map fun p => p.endWaitingDirect .stopped).releaseAll.takeAll fun u => u.haltingError r).judgeStopped := by
  have hmap : (u.map fun p => p.endWaitingDirect .stopped) = u :=
    congrArg (fun p : Part => ({ u with p := p } : Ev)) (Part.endWaitingDirect_none hd .stopped)
  have hreleased : u.releaseAll = { u with p := u.p.released fun f => decide ((u.p.engine f).phase = some .abortDischarge) } :=
    Ev.releaseAll_released fun _ => rfl
  have hstay : u.releaseAll.p.disp.seq = .stopping := by rw [hreleased]; exact hs
  have hcompletions : u.releaseAll.completions = [] ∨ ∃ c, u.releaseAll.completions = [c] := by rw [hreleased]; exact hc
  rw [hmap, Ev.takeAll_stopping hstay hcompletions]
  unfold Ev.stopRest
  rw [habort]

end

section
variable {s : State} {number : Byte} {e : EngineId} {w : Work} {x : Entry}

/-- The part of a STOP whose one engine keeps its cards to drain a charge. -/
theorem Ev.stopRest_keeps {p : Part} {q : Part} (habort : (Ev.stopBegun p number).abortAll (Ev.abortWithDischarge .stopped) =
      { Ev.stopBegun p number with p := q })
    (hphase : ∀ f, decide ((q.engine f).phase = some .abortDischarge) = decide (f = e))
    (hs : q.disp.seq = .stopping) (hd : q.disp.direct = none) (hring : q.ringInFlight = true) :
    (Ev.stopBegun p number).stopRest = { Ev.stopBegun p number with p := q.released fun f => decide (f = e) } := by
  have hkeep := Ev.keep_release_take (v := { Ev.stopBegun p number with p := q }) rfl hphase (fun _ => hring) .stopped
    (interlockError .vacuumLost)
  have hsame : q.endWaitingDirect .stopped = q := Part.endWaitingDirect_none hd .stopped
  dsimp only at hkeep
  rw [hsame] at hkeep
  have hafter : (q.released fun f => decide (f = e)).disp.seq = q.disp.seq.afterHalt := by
    rw [hs]
    exact hs
  have hlog : q.log.afterError q.disp.seq (some { interlockError .vacuumLost with time := q.time48 }) =
      (q.released fun f => decide (f = e)).log := by
    rw [hs]
    rfl
  rw [Ev.stopRest_eq habort hs hd (.inl rfl) (interlockError .vacuumLost), hkeep, hlog]
  exact Ev.sequenced_same (v := { Ev.stopBegun p number with p := q.released fun f => decide (f = e) }) hafter

variable (h : s.Serving number) (ha : s.part.AloneActive e w x) (ho : w.origin ≠ none)
  (hs : s.part.disp.seq = .running ∨ s.part.disp.seq = .pausing ∨ s.part.disp.seq = .paused ∨ s.part.disp.seq = .drained)
include h ha ho hs

/-- A STOP that leaves its engine draining is answered at once. -/
theorem exec_stop_keeps {q t : Part} (habort : (Ev.stopBegun s.part number).abortAll (Ev.abortWithDischarge .stopped) =
      { Ev.stopBegun s.part number with p := q })
    (hphase : ∀ f, decide ((q.engine f).phase = some .abortDischarge) = decide (f = e))
    (hdisp : q.disp = s.part.discarding.disp) (ht : q.released (fun f => decide (f = e)) = t.taking number 0x33) :
    exec (.stop number []) s = .next { s with part := t.answered number 0x33 [.reply number 0x33 .done] } := by
  have hd : s.part.disp.direct = none := ha.direct ho
  have hring : q.ringInFlight = true := by
    refine Part.ringInFlight_of_entry (e := e) (x := x) ?_ (by rw [ha.origin]; exact ho)
    rw [hdisp]
    exact ha.measures.entry
  have hact : ownStop [] (Ev.start (s.part.taking number 0x33)) =
      { Ev.stopBegun s.part number with p := t.taking number 0x33 } := by
    rw [ownStop_begun hs hd, Ev.stopRest_keeps habort hphase (by rw [hdisp]; rfl) (by rw [hdisp]; exact hd) hring, ht]
  exact exec_answered .stop h (.inl rfl) hact rfl rfl rfl (.inl rfl) (.inl rfl) (.inl rfl)

/-- A STOP that ends its engine's step at once. -/
theorem exec_stop_ends (howes : (s.part.engine e).owesDischarge = false)
    (hdrains : (s.part.engine e).phase ≠ some .abortDischarge) :
    let q := s.part.stopping fun _ => false
    ∃ t, exec (.stop number []) s = .next { s with part := t } ∧
      q.AbortLeft t e w x .stopped (interlockError .vacuumLost) ∧
      t.link = (q.answered number 0x33
        (OutFrame.reply number 0x33 .done :: w.stepNotice .aborted ++ t.seqEntry .stopping)).link := by
  intro q
  have hd : s.part.disp.direct = none := ha.direct ho
  let begun := Ev.stopBegun s.part number
  have hbegun : begun.p.OneAtWork e w x := ha.oneAtWork.discarding.of_eq rfl rfl rfl ha.quiet
  have habort := Ev.abortAll_noDischarge (v := begun) hbegun .stopped rfl howes hdrains
  obtain ⟨b, hrest⟩ := Ev.abort_release_take (v := begun) hbegun rfl (fun _ => ho) howes hdrains .stopped
    (interlockError .vacuumLost)
  rw [habort, ← Ev.stopRest_eq habort rfl hd (.inr ⟨_, rfl⟩),
    Part.endWaitingDirect_none (p := begun.p) hd .stopped] at hrest
  let base : Part := begun.p.released fun _ => false
  let t := base.abortedAndTaken e w x .stopped (interlockError .vacuumLost)
  have hbase : base.OneAtWork e w x := hbegun.released _
  have hleft : base.AbortLeft t e w x .stopped (interlockError .vacuumLost) := Part.abortedAndTaken_left hbase.quiet w x _ _
  have hlink : t.link = base.link := Part.abortedAndTaken_link _ _ _ _ _ _
  have hclose := Ev.close_aborted (v := begun.stopRest) (by rw [hrest]; exact hleft) hbase.block (.inr hd) (by rw [hrest])
    (by rw [hrest]; rfl)
  have hframes : begun.stopRest.frames =
      OutFrame.reply number 0x33 .done :: w.stepNotice .aborted ++ t.seqEntry .stopping := by
    have hnotice : w.directNotice e .aborted (some .stopped) = [] := by
      cases hw : w.origin with
      | none => exact absurd hw ho
      | some i => simp [Work.directNotice, hw]
    rw [hrest, hnotice]
    simp [Ev.frames, begun, Ev.stopBegun, Ev.start, t, base]
    rfl
  have hp : begun.stopRest.p = t := by rw [hrest]
  rw [hp, hframes] at hclose
  refine ⟨t.hand (OutFrame.reply number 0x33 .done :: w.stepNotice .aborted ++ t.seqEntry .stopping), ?_, ?_, ?_⟩
  · exact exec_requestOf_taken .stop h (.inl rfl) ((congrArg Ev.close (ownStop_begun hs hd)).trans hclose)
  · rw [Part.hand_eq]
    exact hleft.of_link s.part.link _
  · exact Part.hand_link_congr hlink hleft.work.tick _

end

/-! ### Evaluations that find the direct step on its engine -/

theorem Ev.judgeDirect_same {v : Ev} (h : v.p.disp.direct = none ∨ v.p.directEngine ≠ none) : v.judgeDirect = v := by
  unfold Ev.judgeDirect
  dsimp only
  split
  next hd he =>
    rcases h with h | h
    · cases h.symm.trans hd
    · exact absurd he h
  · rfl

theorem Ev.judgeFailure_notRunning {v : Ev} (h : v.p.disp.seq ≠ .running) : v.judgeFailure = v := by
  unfold Ev.judgeFailure
  dsimp only
  split
  next hs _ => exact absurd hs h
  · rfl

theorem Ev.dispatchEligible_notRunning {v : Ev} (h : v.p.disp.seq ≠ .running) (n : Nat) : Ev.dispatchEligible n v = v := by
  have hnone : ∀ slots older first, v.p.firstEligible older first slots = none := by
    intro slots
    induction slots with
    | nil => intro older first; rfl
    | cons i rest ih =>
      intro older first
      unfold Part.firstEligible
      split
      · exact ih _ _
      · rw [if_neg (by simp [Part.eligible, h])]
        exact ih _ _
  cases n with
  | zero => rfl
  | succ n => simp [Ev.dispatchEligible, hnone]

theorem Ev.evaluate_notRunning {v : Ev} (h : v.judgeDirect.p.disp.seq ≠ .running) : v.evaluate = v.judgeDirect := by
  unfold Ev.evaluate
  rw [Ev.judgeFailure_notRunning h, Ev.dispatchEligible_notRunning h]

/-- An event whose evaluation finds nothing to do. -/
theorem event_idle {s : State} {f : Ev → Ev} {v : Ev} {q : Part} {frames : List OutFrame} (hv : f (Ev.start s.part) = v)
    (hp : v.p = q) (hf : v.frames = frames) (hc : v.completions = [])
    (hr : v.askRemoval = false ∨ q.scanner.state ≠ .waitingSpace)
    (he : ∀ w : Ev, w.p = q → w.evaluate = w) (hm : v.askRemainder = false ∨ q.noRemainder = true) :
    event s f = .next { s with part := q.hand frames } := by
  subst hp hf
  exact congrArg (fun p => Host.Outcome.next { s with part := p })
    ((congrArg Ev.close hv).trans (Ev.finished_idle hc hr he hm settleFuel))

/-! ### Vacuum loss beside one engine that drains (R20, R92) -/

section
variable {s : State} {e : EngineId} {w : Work} {x : Entry} {due : Nat}

/-- The event of a vacuum loss, its notice told. -/
def Ev.vacuumGone (p : Part) (due : Nat) : Ev :=
  { Ev.start (p.unsealed due) with first := [OutFrame.notice (.fixture ⟨true, false, p.lock.identity⟩ .vacuumLost)] }

/-- What the vacuum loss leaves where its engine keeps its cards. -/
def Part.haltedAround (p : Part) (q : Part) : Part :=
  { q with
    log := p.log.afterError p.disp.seq (some { interlockError .vacuumLost with time := q.time48 })
    disp := { q.disp with seq := if p.disp.seq = .running ∨ p.disp.seq = .pausing then .halted else p.disp.seq } }

theorem SeqState.afterHalt_eq (st : SeqState) : st.afterHalt = if st = .running ∨ st = .pausing then .halted else st := by
  cases st <;> rfl

variable (ha : s.part.AloneActive e w x) (hwait : s.part.lock.vacuumLine.wait = some due)
  (hraw : s.part.lock.vacuumLine.raw = false) (hdock : s.part.lock.docked = true)
  (hstop : s.part.disp.seq = .stopping → w.origin ≠ none)
include ha hwait hraw hdock hstop

/-- A vacuum loss that leaves its engine draining. -/
theorem exec_vacuumLost_keeps {q t : Part} (habort : (Ev.vacuumGone s.part due).abortAll (Ev.abortWithDischarge .vacuumLost) =
      { Ev.vacuumGone s.part due with p := q })
    (hphase : ∀ f, decide ((q.engine f).phase = some .abortDischarge) = decide (f = e))
    (hdisp : q.disp = s.part.disp) (hlog : q.log = s.part.log) (hqueue : q.queue = s.part.queue)
    (ht : s.part.haltedAround (q.released fun f => decide (f = e)) = t) :
    let lost := OutFrame.notice (.fixture ⟨true, false, s.part.lock.identity⟩ .vacuumLost)
    exec (.debounceComplete .vacuumGood) s = .next { s with part := t.hand (lost :: t.seqEntry s.part.disp.seq) } := by
  have hdirect : q.disp.direct = none ∨ q.directEngine ≠ none := by
    unfold Part.directEngine
    rw [hdisp]
    exact ha.notRingDirect
  have hsame : q.endWaitingDirect .vacuumLost = q := Part.endWaitingDirect_same hdirect .vacuumLost
  have hring : q.disp.seq = .stopping → q.ringInFlight = true := fun hs => by
    rw [hdisp] at hs
    refine Part.ringInFlight_of_entry (e := e) (x := x) ?_ (by rw [ha.origin]; exact hstop hs)
    rw [hdisp]
    exact ha.measures.entry
  have hkeep := Ev.keep_release_take (v := { Ev.vacuumGone s.part due with p := q }) rfl hphase hring .vacuumLost
    (interlockError .vacuumLost)
  dsimp only at hkeep
  rw [hsame, hdisp, hlog] at hkeep
  have hpart : (q.released fun f => decide (f = e)).sequenced s.part.disp.seq.afterHalt
      (s.part.log.afterError s.part.disp.seq (some { interlockError .vacuumLost with time := q.time48 })) = t := by
    rw [SeqState.afterHalt_eq]
    exact ht
  have hreleasedSeq : (q.released fun f => decide (f = e)).disp = s.part.disp := hdisp
  have hact := Ev.debounced_vacuumLost hwait hraw hdock
  dsimp only at hact
  rw [show ({ Ev.start (s.part.unsealed due) with
    first := [.notice (.fixture ⟨true, false, s.part.lock.identity⟩ .vacuumLost)] } : Ev) = Ev.vacuumGone s.part due from rfl,
    habort, hkeep] at hact
  have hblock : t.queue.block = 0 := by
    rw [← ht]
    exact (congrArg ResultQueue.block hqueue).trans ha.block
  have hseq : t.disp.seq = s.part.disp.seq.afterHalt := by rw [SeqState.afterHalt_eq, ← ht]; rfl
  have hevaluate : ∀ w : Ev, w.p = t → w.evaluate = w := fun u hu => by
    have hidle : u.judgeDirect = u := Ev.judgeDirect_same (by
      rw [hu, ← ht]
      exact hdirect)
    refine (Ev.evaluate_notRunning ?_).trans hidle
    rw [hidle, hu, hseq, SeqState.afterHalt_eq]
    split_ifs with h
    · nofun
    · exact fun hr => h (.inl hr)
  refine event_idle hact hpart ?_ rfl (.inl rfl) hevaluate (.inr (by simp [Part.noRemainder, hblock]))
  simp [Ev.sequenced, Ev.frames, Ev.vacuumGone, Ev.start, hreleasedSeq, ← hpart]

end

/-! ### The statement -/

section
variable {p : Part} {e : EngineId} {w : Work} {x : Entry}

/-- Of an engine alone at work that is given a discharge, it alone is in ABORT_DISCHARGE. -/
theorem Part.OneAtWork.drains (h : p.OneAtWork e w x) {g : Engine} (hg : g.phase = some .abortDischarge) (f : EngineId) :
    decide ((((p.disarm e).setEngine e g).engine f).phase = some .abortDischarge) = decide (f = e) := by
  by_cases hf : f = e
  · rw [hf, show ((p.disarm e).setEngine e g).engine e = g from PerEngine.get_set_same _ _ _, hg]
    simp
  · rw [show ((p.disarm e).setEngine e g).engine f = p.engine f from PerEngine.get_set_ne _ _ _ _ hf]
    simp [hf, (h.others f hf).2]

theorem Part.OneAtWork.draining (h : p.OneAtWork e w x) (hg : (p.engine e).phase = some .abortDischarge) (f : EngineId) :
    decide ((p.engine f).phase = some .abortDischarge) = decide (f = e) := by
  by_cases hf : f = e
  · simp [hf, hg]
  · simp [hf, (h.others f hf).2]

end

section
variable {s : State} {q : Part} {e : EngineId} {w : Work} {x : Entry} {cause : Cause} {due : Nat}

/-- An event that has aborted one engine's step and taken it closes. -/
theorem event_aborted {f : Ev → Ev} {v : Ev} {r : ErrorRecord} {before after : List OutFrame}
    (hv : f (Ev.start s.part) = v) (hp : v.p = q.abortedAndTaken e w x cause r) (hq : q.OneAtWork e w x)
    (hdirect : w.origin = none ∨ q.disp.direct = none) (hc : v.completions = []) (hr : v.askRemoval = false) {st : SeqState}
    (hf : v.frames = before ++ (q.abortedAndTaken e w x cause r).seqEntry st ++ after) :
    ∃ t, event s f = .next { s with part := t } ∧ q.AbortLeft t e w x cause r ∧
      t.link = (q.hand (before ++ t.seqEntry st ++ after)).link := by
  let t := q.abortedAndTaken e w x cause r
  have hleft : q.AbortLeft t e w x cause r := Part.abortedAndTaken_left hq.quiet w x _ _
  have hlink : t.link = q.link := Part.abortedAndTaken_link _ _ _ _ _ _
  have hclose := Ev.close_aborted (v := v) (by rw [hp]; exact hleft) hq.block hdirect hc hr
  rw [hp, hf] at hclose
  have hentry : (t.hand (before ++ t.seqEntry st ++ after)).seqEntry st = t.seqEntry st := by
    rw [Part.hand_eq]
    rfl
  refine ⟨t.hand (before ++ t.seqEntry st ++ after), ?_, ?_, ?_⟩
  · exact congrArg (fun p => Host.Outcome.next { s with part := p }) ((congrArg Ev.close hv).trans hclose)
  · rw [Part.hand_eq]
    exact hleft.of_link q.link _
  · rw [hentry]
    exact Part.hand_link_congr hlink hleft.work.tick _

/-- The state that an abort beside the interlock's error leaves, read from the part after it. -/
theorem Part.AbortLeft.seq_eq {t : Part} {r : ErrorRecord} (h : q.AbortLeft t e w x cause r) : t.disp.seq =
    if q.disp.seq = .running ∨ q.disp.seq = .pausing then .halted
    else if q.disp.seq = .stopping ∧ (w.origin ≠ none ∧ q.othersInFlight e = false ∧ t.relay.matrixOpen = true) then .stopped
    else q.disp.seq := by
  rw [h.relay, h.seq, SeqState.afterAbort_eq]

end

/-- Settles O33: the one engine at work is told, its plan is released or kept, and its completion is taken beside the error. -/
theorem abortsEndOrDischargeActiveEngines : Obligations.AbortsEndOrDischargeActiveEngines := by
  refine ⟨?_, ?_⟩
  · intro v e cause p g owes
    refine ⟨fun h => ⟨Ev.abortWithDischarge_ignored cause (.inl h), if_pos h⟩,
      fun h => Ev.abortWithDischarge_ignored cause (.inr h),
      fun ha hp ho => Ev.abortWithDischarge_atOnce cause ha hp (Engine.owesDischarge_eq_false ho),
      fun ha ho hq => Ev.abortWithDischarge_drains cause ha (Engine.owesDischarge_iff.mpr ho) hq,
      fun w ha hw hk hq => Ev.abortWithoutDischarge_scan cause ha hw hk hq⟩
  · intro s e w x ha p g k owes draining mine fallen aborted stops halts error seqAfter
    have hone := ha.oneAtWork
    have howes : owes ↔ (s.part.engine e).owesDischarge = true := hone.owes_iff.symm
    refine ⟨fun number h ho hs => ?_, fun due hwait hraw => ?_, fun due hwait hraw hdock hstop => ?_⟩
    · intro reply stopping
      have hbegun : (Ev.stopBegun s.part number).p.OneAtWork e w x := hone.discarding.of_eq rfl rfl rfl ha.quiet
      refine ⟨fun hdrains => ?_, fun hdrains => ?_, fun hno hnot => ?_⟩
      · exact exec_stop_keeps h ha ho hs
          (Ev.abortAll_discharges (v := Ev.stopBegun s.part number) hbegun .stopped (howes.mp hdrains))
          (hbegun.drains rfl) rfl rfl
      · exact exec_stop_keeps h ha ho hs
          (q := (Ev.stopBegun s.part number).p) (Ev.abortAll_draining (v := Ev.stopBegun s.part number) hbegun .stopped hdrains)
          (hbegun.draining hdrains) rfl rfl
      · obtain ⟨t, hexec, hleft, hlink⟩ := exec_stop_ends h ha ho hs (Bool.eq_false_iff.mpr fun ho => hno (howes.mpr ho)) hnot
        refine ⟨{ s with part := t }, hexec, rfl, ⟨hleft.work, hleft.relay⟩, hleft.log, ?_, hlink⟩
        refine hleft.seq.trans ((SeqState.afterAbort_eq _ _ _ _).trans ?_)
        rw [if_neg (by nofun)]
        dsimp only [stops]
        rw [hleft.relay]
        split_ifs with h1 h2 h2
        · rfl
        · exact absurd h1.2 h2
        · exact absurd ⟨rfl, h2⟩ h1
        · rfl
    · intro q
      have hmarked : s.part.undockedMarked due = q := Part.endWaitingDirect_same (p := s.part.undocked due) ha.notRingDirect _
      obtain ⟨b, hact⟩ := Ev.debounced_undock_one hone hwait hraw
      rw [hmarked] at hact
      have hq : q.OneAtWork e w x := hone.undocked due
      obtain ⟨t, hexec, hleft, hlink⟩ := event_aborted (before := w.stepNotice .aborted ++ w.directNotice e .aborted (some .fixtureRemoved))
        (st := p.disp.seq) hact rfl hq ha.noneWaits rfl rfl (by simp [Ev.frames, Ev.start]; rfl)
      exact ⟨{ s with part := t }, hexec, rfl, ⟨hleft.work, hleft.relay⟩, hleft.seq_eq, hleft.log, hlink⟩
    · intro lost lowered kept frames lose
      have hlost : (Ev.vacuumGone s.part due).p.OneAtWork e w x := hone.unsealed due
      refine ⟨fun hdrains => ?_, fun hdrains => ?_, fun hno hnot => ?_⟩
      · exact exec_vacuumLost_keeps ha hwait hraw hdock hstop
          (Ev.abortAll_discharges (v := Ev.vacuumGone s.part due) hlost .vacuumLost (howes.mp hdrains))
          (hlost.drains rfl) rfl rfl rfl rfl
      · exact exec_vacuumLost_keeps ha hwait hraw hdock hstop
          (q := (Ev.vacuumGone s.part due).p) (Ev.abortAll_draining (v := Ev.vacuumGone s.part due) hlost .vacuumLost hdrains)
          (hlost.draining hdrains) rfl rfl rfl rfl
      · let gone := Ev.vacuumGone s.part due
        have hmarked : gone.p.endWaitingDirect .vacuumLost = gone.p := Part.endWaitingDirect_same (p := gone.p) ha.notRingDirect _
        obtain ⟨b, htaken⟩ := Ev.abort_release_take (v := gone) hlost rfl hstop (Bool.eq_false_iff.mpr fun ho => hno (howes.mpr ho))
          hnot .vacuumLost (interlockError .vacuumLost)
        have hact := Ev.debounced_vacuumLost hwait hraw hdock
        dsimp only at hact htaken
        rw [hmarked] at htaken
        rw [show ({ Ev.start (s.part.unsealed due) with
          first := [.notice (.fixture ⟨true, false, s.part.lock.identity⟩ .vacuumLost)] } : Ev) = gone from rfl, htaken] at hact
        have hq : (gone.p.released fun _ => false).OneAtWork e w x := hlost.released _
        obtain ⟨t, hexec, hleft, hlink⟩ := event_aborted (after := [])
          (before := lost :: w.stepNotice .aborted ++ w.directNotice e .aborted (some .vacuumLost)) (st := p.disp.seq) hact rfl
          hq ha.noneWaits rfl rfl (by simp [Ev.frames, gone, Ev.vacuumGone, Ev.start]; exact ⟨rfl, rfl⟩)
        rw [List.append_nil] at hlink
        exact ⟨{ s with part := t }, hexec, rfl, ⟨hleft.work, hleft.relay⟩, hleft.seq_eq, hleft.log, hlink⟩

end Sys2Proof.Machine

/-! PROOFS. A waiting direct step: what an evaluation does with it (R58, R59, R71). -/

namespace Sys2Proof.Machine

/-! ### Acts that reach the part alone -/

/-- An act on an event that reads and writes its part alone. -/
def Ev.OnPart (f : Ev → Ev) : Prop := ∀ v, f v = { v with p := (f (Ev.start v.p)).p }

theorem Ev.OnPart.comp {f g : Ev → Ev} (hf : Ev.OnPart f) (hg : Ev.OnPart g) : Ev.OnPart fun v => g (f v) := fun v => by
  have hpart : (f v).p = (f (Ev.start v.p)).p := (congrArg Ev.p (hf v) :)
  have hlast : (g (f (Ev.start v.p))).p = (g (Ev.start (f (Ev.start v.p)).p)).p := (congrArg Ev.p (hg (f (Ev.start v.p))) :)
  calc g (f v) = { f v with p := (g (Ev.start (f v).p)).p } := hg (f v)
    _ = { f v with p := (g (f (Ev.start v.p))).p } := by rw [hpart, hlast]
    _ = { v with p := (g (f (Ev.start v.p))).p } := congrArg (fun u : Ev => { u with p := (g (f (Ev.start v.p))).p }) (hf v)

theorem Ev.enterSampling_onPart (e : EngineId) (ph : Phase) : Ev.OnPart fun v => v.enterSampling e ph := fun v => by
  unfold Ev.enterSampling
  dsimp only [Ev.start]
  split <;> rfl

theorem Ev.stillReport_onPart (e : EngineId) : Ev.OnPart fun v => v.stillReport e := fun v => by
  have hsample : ∀ ph, Ev.OnPart fun v : Ev => (v.onEngine e fun g => { g with stillWait := false }).enterSampling e ph :=
    fun ph => Ev.OnPart.comp (f := fun v => v.onEngine e fun g => { g with stillWait := false }) (fun _ => rfl)
      (Ev.enterSampling_onPart e ph)
  unfold Ev.stillReport
  dsimp only [Ev.start]
  split
  · split
    · exact hsample _ v
    · exact hsample _ v
    · rfl
  · rfl

theorem Ev.askStill_onPart (e : EngineId) : Ev.OnPart fun v => v.askStill e := fun v => by
  unfold Ev.askStill
  dsimp only
  split
  · next h =>
    rw [if_pos (by exact h)]
    exact Ev.OnPart.comp (f := fun v => v.onEngine e fun g => { g with stillWait := true }) (fun _ => rfl)
      (Ev.stillReport_onPart e) v
  · next h =>
    rw [if_neg (by exact h)]
    rfl

theorem Ev.connectionReady_onPart (e : EngineId) : Ev.OnPart fun v => v.connectionReady e := fun v => by
  let mark : Ev → Ev := fun v => v.onEngine e fun g => { g with readyMark := true }
  have hmark : Ev.OnPart mark := fun _ => rfl
  unfold Ev.connectionReady
  dsimp only [Ev.start]
  split
  · split
    · rfl
    · split
      · split
        · rfl
        · split
          · exact hmark.comp (Ev.askStill_onPart e) v
          · exact hmark.comp (Ev.enterSampling_onPart e _) v
      · split
        · rfl
        · split
          · exact hmark.comp (Ev.askStill_onPart e) v
          · exact hmark.comp (Ev.enterSampling_onPart e _) v
      · rfl
      · rfl
      · rfl
  · rfl

theorem Ev.judgeReady_onPart (e : EngineId) : Ev.OnPart fun v => v.judgeReady e := fun v => by
  unfold Ev.judgeReady
  dsimp only [Ev.start]
  split
  · exact Ev.OnPart.comp (f := fun v => v.map fun p => { p with relay := p.relay.markReady e }) (fun _ => rfl)
      (Ev.connectionReady_onPart e) v
  · rfl

/-- The dispatch of a measurement step reaches the part alone. -/
theorem Ev.dispatch_resolved_eq {v : Ev} {e : EngineId} {r : StepRecord} {n : Nails} (hk : r.kind ≠ .scan)
    (hn : v.p.resolve e r = some n) (origin : Option Nat) :
    v.dispatch e origin r = { v with p := ((Ev.start v.p).dispatch e origin r).p } := by
  rw [Ev.dispatch_resolved hk hn, Ev.dispatch_resolved (v := Ev.start v.p) hk hn]
  exact Ev.OnPart.comp (f := fun u => u.planSent e (v.p.entryOf origin r (some n)) n.pairs) (fun _ => rfl)
    (Ev.judgeReady_onPart e) v

/-! ### Which direct step is served (R71) -/

/-- A direct step that waits has its nets free, the order met and its candidates (R54 conditions 2, 3 and 5). -/
def Part.DirectFits (p : Part) (r : StepRecord) : Prop :=
  (∀ x ∈ p.inFlight, ∀ n ∈ p.netSet r, n ∉ x.nets) ∧
  (r.barrier = true ∨ r.solo = true ∨ r.kind = .scan → p.inFlight = []) ∧
  (∀ x ∈ p.inFlight, x.record.solo = false ∧ x.record.kind ≠ .scan) ∧
  ∀ n ∈ p.requiredNets r, p.candidates none n ≠ []

section
variable {p : Part} {r : StepRecord}

theorem Part.directFits_iff (hfree : p.recordFree = true) :
    (p.netsFree (p.netSet r) && p.orderMet r true && p.served r) = true ↔
      p.DirectFits r ∧ ∃ e, r.allows e = true ∧ (p.engine e).state = .idle := by
  have hrecord := Part.recordFree_iff.mp hfree
  simp only [Bool.and_eq_true, Part.netsFree_iff, Part.orderMet_iff, Part.served_iff, Part.DirectFits]
  constructor
  · rintro ⟨⟨hnets, hbarrier, halone, hothers⟩, hidle, hcandidates, -⟩
    exact ⟨⟨hnets, fun h => h.elim (fun hb => (hbarrier hb).2) halone, hothers, hcandidates⟩, hidle⟩
  · rintro ⟨⟨hnets, halone, hothers, hcandidates⟩, hidle⟩
    exact ⟨⟨hnets, fun hb => ⟨trivial, halone (.inl hb)⟩, fun h => halone (.inr h), hothers⟩, hidle, hcandidates, hrecord⟩

/-- The lowest IDLE engine of a step's mask stands first. -/
theorem Part.idleEngines_head {e : EngineId} (ha : r.allows e = true) (hi : (p.engine e).state = .idle)
    (hlow : ∀ f, f.index < e.index → ¬ (r.allows f = true ∧ (p.engine f).state = .idle)) :
    ∃ rest, p.idleEngines r = e :: rest := by
  have hsorted : (p.idleEngines r).Pairwise fun e f => e.index < f.index :=
    List.Pairwise.filter _ (by decide)
  have hmem : e ∈ p.idleEngines r := Part.mem_idleEngines.mpr ⟨ha, hi⟩
  cases hlist : p.idleEngines r with
  | nil => rw [hlist] at hmem; cases hmem
  | cons f rest =>
    rw [hlist] at hmem hsorted
    rcases List.mem_cons.mp hmem with heq | hrest
    · exact ⟨rest, by rw [heq]⟩
    · have hf : f ∈ p.idleEngines r := by rw [hlist]; exact List.mem_cons_self
      exact absurd (Part.mem_idleEngines.mp hf) (hlow f ((List.pairwise_cons.mp hsorted).1 e hrest))

end

/-! ### What an evaluation does with it -/

/-- With no block streaming a final record only joins the queue. -/
theorem Ev.appendFinal_unstreamed {v : Ev} (hb : v.p.queue.block = 0) (r : ResultRecord) : v.appendFinal r = { v with
    p := { v.p with queue := { v.p.queue with
      reserved := v.p.queue.reserved - 1, records := v.p.queue.records ++ [{ r with time := v.p.time48 }] } } } :=
  Ev.append_unstreamed (v := v.map fun p => { p with queue := { p.queue with reserved := p.queue.reserved - 1 } }) hb r

theorem Ev.endDirect_eq {v : Ev} (hb : v.p.queue.block = 0) (r : StepRecord) (verdict : Verdict) (cause : Cause) :
    v.endDirect r verdict cause = { v with
      p := v.p.directEnded r verdict cause, askRemainder := true, askEvaluate := true
      entries := v.entries ++ [.notice (.direct r.tag r.kind none verdict (some cause))] } := by
  unfold Ev.endDirect
  dsimp only
  rw [Ev.appendFinal_unstreamed (v := v.map Part.reserve) hb]
  rfl

section
variable {v : Ev} {r : StepRecord} (he : v.p.directEngine = none)
include he

theorem Ev.judgeDirect_marked {cause : Cause} (hd : v.p.disp.direct = some ⟨r, some cause⟩) :
    v.judgeDirect = if v.p.recordFree then v.endDirect r .aborted cause else v := by
  unfold Ev.judgeDirect
  dsimp only
  split
  next d hd' he' =>
    obtain rfl : d = ⟨r, some cause⟩ := Option.some.inj (hd'.symm.trans hd)
    rfl
  next h => exact absurd he (h _ hd)

theorem Ev.judgeDirect_unmarked (hd : v.p.disp.direct = some ⟨r, none⟩) : v.judgeDirect =
    if v.p.disp.seq = .halted then v
    else match v.p.unservable r with
      | some (cause, _) => if v.p.recordFree then v.endDirect r .fault cause else v
      | none => if v.p.netsFree (v.p.netSet r) && v.p.orderMet r true && v.p.served r then
          match v.p.idleEngines r with
          | e :: _ => v.dispatch e none r
          | [] => v
        else v := by
  unfold Ev.judgeDirect
  dsimp only
  split
  next d hd' he' =>
    obtain rfl : d = ⟨r, none⟩ := Option.some.inj (hd'.symm.trans hd)
    rfl
  next h => exact absurd he (h _ hd)

end

section
variable {v : Ev} {r : StepRecord} {ended : Option Cause} (hd : v.p.disp.direct = some ⟨r, ended⟩) (he : v.p.directEngine = none)
include hd he

theorem Ev.judgeDirect_noRecord (hfree : v.p.recordFree = false) : v.judgeDirect = v := by
  have hserved : v.p.served r = false := by simp [Part.served, hfree]
  cases ended with
  | some cause =>
    rw [Ev.judgeDirect_marked he hd]
    exact if_neg (by simp [hfree])
  | none =>
    rw [Ev.judgeDirect_unmarked he hd]
    split
    · rfl
    · split
      · exact if_neg (by simp [hfree])
      · exact if_neg (by simp [hserved])

theorem Ev.judgeDirect_ended {cause : Cause} (hended : ended = some cause) (hfree : v.p.recordFree = true) :
    v.judgeDirect = v.endDirect r .aborted cause := by
  subst hended
  rw [Ev.judgeDirect_marked he hd]
  exact if_pos hfree

theorem Ev.judgeDirect_halted (hended : ended = none) (hs : v.p.disp.seq = .halted) : v.judgeDirect = v := by
  subst hended
  rw [Ev.judgeDirect_unmarked he hd]
  exact if_pos hs

theorem Ev.judgeDirect_unserved (hended : ended = none) (hs : v.p.disp.seq ≠ .halted) {cause : Cause} {net : Option Nat}
    (hu : v.p.unservable r = some (cause, net)) (hfree : v.p.recordFree = true) :
    v.judgeDirect = v.endDirect r .fault cause := by
  subst hended
  rw [Ev.judgeDirect_unmarked he hd]
  rw [if_neg hs, hu]
  exact if_pos hfree

theorem Ev.judgeDirect_waits (hended : ended = none) (hu : v.p.unservable r = none) (hfree : v.p.recordFree = true)
    (h : ¬ v.p.DirectFits r ∨ ∀ e, ¬ (r.allows e = true ∧ (v.p.engine e).state = .idle)) : v.judgeDirect = v := by
  subst hended
  rw [Ev.judgeDirect_unmarked he hd]
  rw [hu]
  dsimp only
  refine (ite_eq_left_iff.mpr fun _ => if_neg fun hok => ?_)
  obtain ⟨hfits, e, hidle⟩ := (Part.directFits_iff hfree).mp hok
  rcases h with h | h
  · exact h hfits
  · exact h e hidle

theorem Ev.judgeDirect_dispatches (hended : ended = none) (hs : v.p.disp.seq ≠ .halted) (hu : v.p.unservable r = none)
    (hfree : v.p.recordFree = true) (hfits : v.p.DirectFits r) {e : EngineId} (ha : r.allows e = true)
    (hi : (v.p.engine e).state = .idle)
    (hlow : ∀ f, f.index < e.index → ¬ (r.allows f = true ∧ (v.p.engine f).state = .idle)) :
    v.judgeDirect = v.dispatch e none r := by
  subst hended
  obtain ⟨rest, hhead⟩ := Part.idleEngines_head ha hi hlow
  rw [Ev.judgeDirect_unmarked he hd]
  rw [if_neg hs, hu]
  dsimp only
  rw [if_pos ((Part.directFits_iff hfree).mpr ⟨hfits, e, ha, hi⟩), hhead]

end

/-! ### Events closed by one evaluation -/

/-- An event whose one evaluation leaves nothing to do. -/
theorem Ev.close_evaluated {v u : Ev} {q : Part} {frames : List OutFrame} (hc : v.completions = []) (hr : v.askRemoval = false)
    (he : v.askEvaluate = true) (hu : ({ v with askEvaluate := false } : Ev).evaluate = u) (hp : u.p = q) (hf : u.frames = frames)
    (huc : u.completions = []) (hur : u.askRemoval = false) (hue : ∀ w : Ev, w.p = q → w.evaluate = w)
    (hum : u.askRemainder = false ∨ q.noRemainder = true) : v.close = q.hand frames := by
  subst hp hf
  have hturn : v.settle settleFuel = u.settle (settleFuel - 1) := by
    rw [← hu]
    exact v.settle_evaluate 5999 hc hr he
  have hclose : v.close = u.finished (settleFuel - 1) := by
    unfold Ev.close Ev.finished
    dsimp only
    rw [hturn]
  rw [hclose]
  exact Ev.finished_idle huc (.inl hur) hue hum _

theorem Part.noRemainder_of_unstreamed {p : Part} (h : p.queue.block = 0) : p.noRemainder = true := by simp [Part.noRemainder, h]

theorem Part.directEngine_eq_none_iff {p : Part} :
    p.directEngine = none ↔ ∀ e x, p.disp.inFlight.get e = some x → x.origin ≠ none := by
  unfold Part.directEngine
  rw [List.find?_eq_none]
  constructor
  · intro h e x hx ho
    exact h e e.mem_all (by simp [hx, ho])
  · intro h e _
    cases hx : p.disp.inFlight.get e with
    | none => simp
    | some x => simpa using h e x hx

/-- The record, the notice and the flag of a marked direct step, once a record is free. -/
def Part.directClosed (p : Part) (r : StepRecord) (cause : Cause) : Part :=
  if p.recordFree = true then p.directEnded r .aborted cause else p

/-- The notice with which a marked direct step ends. -/
def Part.directClosing (p : Part) (r : StepRecord) (cause : Cause) : List OutFrame :=
  if p.recordFree = true then [OutFrame.notice (.direct r.tag r.kind none .aborted (some cause))] else []

/-- An event that leaves a marked direct step ends it, once a record is free. -/
theorem Ev.close_marked {v : Ev} {r : StepRecord} {cause : Cause} (hd : v.p.disp.direct = some ⟨r, some cause⟩)
    (he : v.p.directEngine = none) (hs : v.p.disp.seq ≠ .running) (hb : v.p.queue.block = 0) (hc : v.completions = [])
    (hr : v.askRemoval = false) (ha : v.askEvaluate = true) {frames : List OutFrame}
    (hf : ({ v with entries := v.entries ++ v.p.directClosing r cause } : Ev).frames = frames) :
    v.close = (v.p.directClosed r cause).hand frames := by
  by_cases hfree : v.p.recordFree = true
  · have hjudge : ({ v with askEvaluate := false } : Ev).judgeDirect =
        ({ v with askEvaluate := false } : Ev).endDirect r .aborted cause :=
      Ev.judgeDirect_ended (v := { v with askEvaluate := false }) hd he rfl hfree
    rw [Ev.endDirect_eq (v := { v with askEvaluate := false }) hb] at hjudge
    have heval : ({ v with askEvaluate := false } : Ev).evaluate = _ :=
      (Ev.evaluate_notRunning (by rw [hjudge]; exact hs)).trans hjudge
    have hclosed : v.p.directClosed r cause = v.p.directEnded r .aborted cause := if_pos hfree
    have hclosing : v.p.directClosing r cause = [OutFrame.notice (.direct r.tag r.kind none .aborted (some cause))] := if_pos hfree
    rw [hclosed]
    rw [hclosing] at hf
    refine Ev.close_evaluated hc hr ha heval rfl hf hc hr (fun u hu => Ev.evaluate_quiet u ?_ ?_) (.inr ?_)
    · rw [hu]
      exact hs
    · rw [hu]
      rfl
    · simp [Part.noRemainder, Part.directEnded, hb]
  · have hno : v.p.recordFree = false := by simpa using hfree
    have hclosed : v.p.directClosed r cause = v.p := if_neg hfree
    have hclosing : v.p.directClosing r cause = [] := if_neg hfree
    rw [hclosing, List.append_nil] at hf
    rw [hclosed, ← hf]
    exact v.close_quiet hc (.inl hr) (.inr (Part.nothingToDispatch_of_noRecord hno)) (.inr (by simp [Part.noRemainder, hb]))

/-! ### DIRECT_STEP that is dispatched or failed at once (R58, R71) -/

theorem Ev.dispatch_resolved_disp {v : Ev} {e : EngineId} {r : StepRecord} {n : Nails} (hk : r.kind ≠ .scan)
    (hn : v.p.resolve e r = some n) (origin : Option Nat) : (v.dispatch e origin r).p.disp =
      { v.p.disp with inFlight := v.p.disp.inFlight.set e (some (v.p.entryOf origin r (some n))) } := by
  have hled := Ev.judgeReady_led (v.planSent e (v.p.entryOf origin r (some n)) n.pairs) e
  rw [← Ev.dispatch_resolved hk hn origin] at hled
  exact hled.disp.trans (congrArg Part.disp (v.planSent_rest e (v.p.entryOf origin r (some n)) n.pairs) :)

/-- An event whose evaluation dispatches the waiting direct step, outside RUNNING, does nothing more. -/
theorem Ev.close_dispatched {v : Ev} {e : EngineId} {r : StepRecord} {n : Nails} {frames : List OutFrame} (hk : r.kind ≠ .scan)
    (hn : v.p.resolve e r = some n) (hs : v.p.disp.seq ≠ .running) (hc : v.completions = []) (hr : v.askRemoval = false)
    (ha : v.askEvaluate = true) (hm : v.askRemainder = false) (hf : v.frames = frames)
    (hjudge : ({ v with askEvaluate := false } : Ev).judgeDirect = ({ v with askEvaluate := false } : Ev).dispatch e none r) :
    v.close = ((Ev.start v.p).dispatch e none r).p.hand frames := by
  let t := ((Ev.start v.p).dispatch e none r).p
  have hjudged : ({ v with askEvaluate := false } : Ev).judgeDirect = { v with p := t, askEvaluate := false } :=
    hjudge.trans (Ev.dispatch_resolved_eq (v := { v with askEvaluate := false }) hk hn none)
  have hdisp : t.disp = _ := Ev.dispatch_resolved_disp (v := Ev.start v.p) hk hn none
  have hstays : t.disp.seq ≠ .running := by rw [hdisp]; exact hs
  have hengine : t.directEngine ≠ none := by
    refine Part.directEngine_ne_none (e := e) (x := v.p.entryOf none r (some n)) ?_ ?_
    · rw [hdisp]
      exact PerEngine.get_set_same _ _ _
    · rw [Part.entryOf_measurement _ hk]
  have heval : ({ v with askEvaluate := false } : Ev).evaluate = { v with p := t, askEvaluate := false } :=
    (Ev.evaluate_notRunning (by rw [hjudged]; exact hstays)).trans hjudged
  refine Ev.close_evaluated hc hr ha heval rfl hf hc hr (fun u hu => ?_) (.inl hm)
  have hsame : u.judgeDirect = u := Ev.judgeDirect_same (.inr (by rw [hu]; exact hengine))
  exact (Ev.evaluate_notRunning (by rw [hsame, hu]; exact hstays)).trans hsame

section
variable {s : State} {number : Byte} {body : List Byte} {r : StepRecord}

/-- The part of a DIRECT_STEP that has been taken. -/
def Part.directTaken (p : Part) (r : StepRecord) (number : Byte) : Part :=
  ({ p with disp := { p.disp with direct := some ⟨r, none⟩ } } : Part).taking number 0x35

/-- The event of a DIRECT_STEP that has been taken and replied to. -/
theorem ownDirectStep_taken (hs : s.part.disp.seq = .stopped ∨ s.part.disp.seq = .paused ∨ s.part.disp.seq = .drained)
    (hd : s.part.disp.direct = none) (hz : s.part.map.state = .frozen) (hc : s.part.checkedRecordAt body 0 = .ok r)
    (hf : s.part.fixtureCheck = none) : ownDirectStep body (Ev.start (s.part.taking number 0x35)) =
      { Ev.start (s.part.directTaken r number) with replies := [OutFrame.reply number 0x35 .done], askEvaluate := true } := by
  have hseq : (Ev.start (s.part.taking number 0x35)).p.disp = s.part.disp := rfl
  have hmap : (Ev.start (s.part.taking number 0x35)).p.map = s.part.map := rfl
  have hrecord : (Ev.start (s.part.taking number 0x35)).p.checkedRecordAt body 0 = s.part.checkedRecordAt body 0 := rfl
  have hfixture : (Ev.start (s.part.taking number 0x35)).p.fixtureCheck = s.part.fixtureCheck := rfl
  unfold ownDirectStep
  rw [hseq, hmap, hrecord, hfixture, if_neg (by simpa using (SeqState.allowsDirect_iff _).mpr hs), hd, if_neg (by simp),
    if_neg (not_not.mpr hz), hc, hf]
  rfl

end

/-- Clause of R71 for one evaluation: a direct step that waits. -/
theorem Ev.judgeDirect_spec (v : Ev) (r : StepRecord) (ended : Option Cause) (hd : v.p.disp.direct = some ⟨r, ended⟩)
    (he : v.p.directEngine = none) :
    let idle := fun e => r.allows e = true ∧ (v.p.engine e).state = .idle
    (v.p.recordFree = false → v.judgeDirect = v) ∧
    (v.p.recordFree = true →
      (∀ cause, ended = some cause → v.judgeDirect = v.endDirect r .aborted cause) ∧
      (ended = none → v.p.disp.seq = .halted → v.judgeDirect = v) ∧
      (ended = none → v.p.disp.seq ≠ .halted →
        (∀ cause net, v.p.unservable r = some (cause, net) → v.judgeDirect = v.endDirect r .fault cause) ∧
        (v.p.unservable r = none →
          (¬ v.p.DirectFits r ∨ (∀ e, ¬ idle e) → v.judgeDirect = v) ∧
          ∀ e, v.p.DirectFits r → idle e → (∀ f, f.index < e.index → ¬ idle f) → v.judgeDirect = v.dispatch e none r))) :=
  ⟨fun hno => Ev.judgeDirect_noRecord hd he hno, fun hfree =>
    ⟨fun _ hended => Ev.judgeDirect_ended hd he hended hfree, fun hended hs => Ev.judgeDirect_halted hd he hended hs,
      fun hended hs => ⟨fun _ _ hu => Ev.judgeDirect_unserved hd he hended hs hu hfree, fun hu =>
        ⟨fun h => Ev.judgeDirect_waits hd he hended hu hfree h, fun _ hfits hidle hlow =>
          Ev.judgeDirect_dispatches hd he hended hs hu hfree hfits hidle.1 hidle.2 hlow⟩⟩⟩⟩

/-! ### Undock and vacuum loss that find a direct step waiting (R19, R20, R71) -/

/-- A part whose waiting direct step is marked. -/
def Part.directMarked (p : Part) (r : StepRecord) (cause : Cause) : Part :=
  { p with disp := { p.disp with direct := some ⟨r, some cause⟩ } }

theorem Part.endWaitingDirect_waiting {p : Part} {r : StepRecord} {ended : Option Cause} (hd : p.disp.direct = some ⟨r, ended⟩)
    (he : p.directEngine = none) (cause : Cause) : p.endWaitingDirect cause = p.directMarked r (ended.getD cause) := by
  unfold Part.endWaitingDirect
  split
  next d hd' he' =>
    obtain rfl : d = ⟨r, ended⟩ := Option.some.inj (hd'.symm.trans hd)
    cases ended with
    | none => rfl
    | some c =>
      have hself : p.directMarked r c = p := by
        unfold Part.directMarked
        rw [← hd]
      exact hself.symm
  next h => exact absurd he (h _ hd)

/-- A part that the interlock's error has reached (R68, R178). -/
def Part.interlockHalted (p : Part) (cause : Cause) : Part :=
  { p with
    log := p.log.afterError p.disp.seq (some { interlockError cause with time := p.time48 })
    disp := { p.disp with seq := if p.disp.seq = .running ∨ p.disp.seq = .pausing then .halted else p.disp.seq } }

theorem Part.interlockHalted_eq (p : Part) (cause : Cause) : p.interlockHalted cause =
    p.sequenced p.disp.seq.afterHalt (p.log.afterError p.disp.seq (some { interlockError cause with time := p.time48 })) := by
  rw [SeqState.afterHalt_eq]
  rfl

theorem SeqState.afterHalt_ne_running (st : SeqState) : st.afterHalt ≠ .running := by cases st <;> simp [SeqState.afterHalt]

end Sys2Proof.Machine

/-! PROOFS. A direct step that waits in an undock or a vacuum loss, alone or beside one engine at work (R19, R20, R71). -/

namespace Sys2Proof.Machine

/-! ### The halting error beside a marked direct step -/

section
variable {v : Ev} {r : StepRecord} {ended : Option Cause} (cause : Cause)

theorem Ev.sequenced_interlock (v : Ev) : ∃ b, v.sequenced v.p.disp.seq.afterHalt
      (v.p.log.afterError v.p.disp.seq (some { interlockError cause with time := v.p.time48 })) = { v with
    p := v.p.interlockHalted cause, entries := v.entries ++ (v.p.interlockHalted cause).seqEntry v.p.disp.seq
    askRemainder := b } := by
  refine ⟨(v.sequenced v.p.disp.seq.afterHalt
    (v.p.log.afterError v.p.disp.seq (some { interlockError cause with time := v.p.time48 }))).askRemainder, ?_⟩
  rw [Part.interlockHalted_eq]
  rfl

theorem Ev.haltingError_interlock (v : Ev) : ∃ b, v.haltingError (interlockError cause) = { v with
    p := v.p.interlockHalted cause, entries := v.entries ++ (v.p.interlockHalted cause).seqEntry v.p.disp.seq
    askRemainder := b } := by
  rw [Ev.haltingError_eq]
  exact Ev.sequenced_interlock cause v

/-- The release of the matrix and the halting error, the direct step marked. -/
theorem Ev.keep_release_marked {discharging : EngineId → Bool} (hd : v.p.disp.direct = some ⟨r, ended⟩)
    (he : v.p.directEngine = none) (hc : v.completions = [])
    (hphase : ∀ f, decide ((v.p.engine f).phase = some .abortDischarge) = discharging f) (hs : v.p.disp.seq ≠ .stopping) :
    let out := ((v.p.directMarked r (ended.getD cause)).released discharging).interlockHalted cause
    ∃ b, (((v.map fun p => p.endWaitingDirect cause).releaseAll.takeAll fun u => u.haltingError (interlockError cause)).judgeStopped) =
      { v with p := out, entries := v.entries ++ out.seqEntry v.p.disp.seq, askRemainder := b } := by
  intro out
  have hkeep := Ev.keep_release_take hc hphase (fun h => absurd h hs) cause (interlockError cause)
  rw [Part.endWaitingDirect_waiting hd he] at hkeep
  obtain ⟨b, hseq⟩ := Ev.sequenced_interlock cause { v with p := (v.p.directMarked r (ended.getD cause)).released discharging }
  exact ⟨b, hkeep.trans hseq⟩

end

/-! ### The events -/

section
variable {s : State} {r : StepRecord} {ended : Option Cause} {due : Nat}

/-- An event that leaves a marked direct step and the halting error. -/
theorem event_marked {f : Ev → Ev} {v : Ev} {cause : Cause} {frames : List OutFrame} (hv : f (Ev.start s.part) = v)
    (hd : v.p.disp.direct = some ⟨r, some cause⟩) (he : v.p.directEngine = none) (hs : v.p.disp.seq ≠ .running)
    (hb : v.p.queue.block = 0) (hc : v.completions = []) (hr : v.askRemoval = false) (ha : v.askEvaluate = true)
    (hf : ({ v with entries := v.entries ++ v.p.directClosing r cause } : Ev).frames = frames) :
    event s f = .next { s with part := (v.p.directClosed r cause).hand frames } := by
  rw [event, hv, Ev.close_marked hd he hs hb hc hr ha hf]

variable (hd : s.part.disp.direct = some ⟨r, ended⟩) (he : s.part.directEngine = none)
  (hs : s.part.disp.seq ≠ .stopping) (hb : s.part.queue.block = 0)
include hd he hb

/-- An undock that finds no engine at work. -/
theorem exec_undock_waiting (hactive : s.part.noneActive = true) (hwait : s.part.lock.presentLine.wait = some due)
    (hraw : s.part.lock.presentLine.raw = false) :
    let cause := ended.getD .fixtureRemoved
    let out := ((s.part.undocked due).directMarked r cause).interlockHalted .fixtureRemoved
    let last := OutFrame.notice (.fixture ⟨false, s.part.lock.vacuum, .absent⟩ .undock)
    let frames := out.seqEntry s.part.disp.seq ++ out.directClosing r cause ++ [last]
    exec (.debounceComplete .fixturePresent) s = .next { s with part := (out.directClosed r cause).hand frames } := by
  intro cause out last frames
  let gone : Ev := Ev.start (s.part.undocked due)
  let marked : Ev := Ev.start ((s.part.undocked due).directMarked r cause)
  have htold : (gone.abortAll (Ev.abortWithoutDischarge .fixtureRemoved)).map (fun q => q.endWaitingDirect .fixtureRemoved) = marked := by
    rw [Ev.abortAll_none (v := gone) (Part.noneActive_iff.mp hactive)]
    exact congrArg Ev.start (Part.endWaitingDirect_waiting (p := s.part.undocked due) hd he .fixtureRemoved)
  obtain ⟨b, hhalt⟩ := Ev.haltingError_interlock .fixtureRemoved marked
  have hact := Ev.debounced_undock hwait hraw
  dsimp only at hact
  rw [htold, Ev.takeAll_none (v := marked) rfl, hhalt] at hact
  refine event_marked (cause := cause) hact rfl he ?_ hb rfl rfl rfl ?_
  · exact fun h => SeqState.afterHalt_ne_running s.part.disp.seq ((SeqState.afterHalt_eq _).trans h)
  · exact rfl

include hs

/-- A vacuum loss that leaves every engine that drains its cards. -/
theorem exec_vacuumLost_waiting {q : Part} {discharging : EngineId → Bool} (hwait : s.part.lock.vacuumLine.wait = some due)
    (hraw : s.part.lock.vacuumLine.raw = false) (hdock : s.part.lock.docked = true)
    (habort : (Ev.vacuumGone s.part due).abortAll (Ev.abortWithDischarge .vacuumLost) = { Ev.vacuumGone s.part due with p := q })
    (hphase : ∀ f, decide ((q.engine f).phase = some .abortDischarge) = discharging f)
    (hdisp : q.disp = s.part.disp) (hqueue : q.queue = s.part.queue) :
    let cause := ended.getD .vacuumLost
    let out := ((q.directMarked r cause).released discharging).interlockHalted .vacuumLost
    let lost := OutFrame.notice (.fixture ⟨true, false, s.part.lock.identity⟩ .vacuumLost)
    let frames := lost :: (out.seqEntry s.part.disp.seq ++ out.directClosing r cause)
    exec (.debounceComplete .vacuumGood) s = .next { s with part := (out.directClosed r cause).hand frames } := by
  intro cause out lost frames
  have hengine : q.directEngine = none := by
    unfold Part.directEngine
    rw [hdisp]
    exact he
  obtain ⟨b, hkeep⟩ := Ev.keep_release_marked (v := { Ev.vacuumGone s.part due with p := q }) .vacuumLost
    (by rw [hdisp]; exact hd) hengine rfl hphase (by rw [hdisp]; exact hs)
  have hact := Ev.debounced_vacuumLost hwait hraw hdock
  dsimp only at hact
  rw [show ({ Ev.start (s.part.unsealed due) with
    first := [.notice (.fixture ⟨true, false, s.part.lock.identity⟩ .vacuumLost)] } : Ev) = Ev.vacuumGone s.part due from rfl,
    habort, hkeep] at hact
  have hseq : out.disp.seq = s.part.disp.seq.afterHalt := by
    rw [SeqState.afterHalt_eq, ← hdisp]
    rfl
  refine event_marked (cause := cause) hact rfl hengine ?_ ?_ rfl rfl rfl ?_
  · rw [show (_ : Part).disp.seq = _ from hseq]
    exact SeqState.afterHalt_ne_running _
  · exact (congrArg ResultQueue.block hqueue).trans hb
  · simp [Ev.frames, frames, Ev.vacuumGone, Ev.start, hdisp]
    exact ⟨rfl, rfl⟩

end

/-! ### Beside one engine at work -/

section
variable {p q t : Part} {e : EngineId} {w : Work} {x : Entry} {cause : Cause} {er : ErrorRecord}

/-- The end of a step leaves as many records and reservations together. -/
theorem Part.WorkEnded.recordFree {f : Formed} {c : Option Cause} {b : Bool} (h : q.WorkEnded t e w x f c b)
    (hb : q.queue.block = 0) (hr : 1 ≤ q.queue.reserved) : t.recordFree = q.recordFree := by
  have hqueue := h.queue.trans (ResultQueue.joined_unstreamed { q.queue with reserved := q.queue.reserved - 1 } _ hb)
  unfold Part.recordFree
  rw [hqueue]
  simp only [List.length_append, List.length_singleton]
  exact decide_eq_decide.mpr (by omega)

theorem Part.AbortLeft.seq_halted (h : q.AbortLeft t e w x cause er) (hs : q.disp.seq ≠ .stopping) :
    t.disp.seq = if q.disp.seq = .running ∨ q.disp.seq = .pausing then .halted else q.disp.seq :=
  h.seq_eq.trans (by rw [if_neg fun hstop : _ ∧ _ => hs hstop.1])

theorem Work.directNotice_ring {w : Work} (ho : w.origin ≠ none) (e : EngineId) (verdict : Verdict) (c : Option Cause) :
    w.directNotice e verdict c = [] := by
  unfold Work.directNotice
  cases h : w.origin with
  | none => exact absurd h ho
  | some i => rfl

/-- No direct step gets an engine where another engine's step ends. -/
theorem Part.directEngine_of_set {p t : Part} {e : EngineId} (h : p.directEngine = none)
    (ht : t.disp.inFlight = p.disp.inFlight.set e none) : t.directEngine = none := by
  rw [Part.directEngine_eq_none_iff] at h ⊢
  intro f y hy
  rw [ht] at hy
  by_cases hf : f = e
  · rw [hf, PerEngine.get_set_same] at hy
    cases hy
  · rw [PerEngine.get_set_ne _ _ _ _ hf] at hy
    exact h f y hy

/-- A direct step that waits beside the one engine at work does not keep it from being so. -/
theorem Part.AloneActive.atWork_beside (h : ({ p with disp := { p.disp with direct := none } } : Part).AloneActive e w x) :
    p.OneAtWork e w x := h.oneAtWork.of_eq rfl rfl rfl h.quiet

end

section
variable {s : State} {r : StepRecord} {ended : Option Cause} {due : Nat} {q : Part} {e : EngineId} {w : Work} {x : Entry}

/-- An event that has ended the one engine's step and left a marked direct step. -/
theorem event_aborted_marked {f : Ev → Ev} {v : Ev} {cause marked : Cause} {frames : List OutFrame}
    (hv : f (Ev.start s.part) = v) (hq : q.OneAtWork e w x) (hp : v.p = q.abortedAndTaken e w x cause (interlockError cause))
    (hd : q.disp.direct = some ⟨r, some marked⟩) (he : q.directEngine = none) (ho : w.origin ≠ none)
    (hc : v.completions = []) (hr : v.askRemoval = false) (ha : v.askEvaluate = true)
    (hf : ({ v with entries := v.entries ++ v.p.directClosing r marked } : Ev).frames = frames) :
    event s f = .next { s with part := (v.p.directClosed r marked).hand frames } := by
  have hleft : q.AbortLeft v.p e w x cause (interlockError cause) := by
    rw [hp]
    exact Part.abortedAndTaken_left hq.quiet w x _ _
  refine event_marked hv ?_ (Part.directEngine_of_set he hleft.work.inFlight.1) hleft.not_running (hleft.block hq.block) hc hr ha hf
  rw [hleft.work.direct, if_neg ho]
  exact hd

end

/-! ### The statement -/

/-- Settles O30: an evaluation judges the waiting step once, and the interlock's events mark it before they close. -/
theorem waitingDirectStepsAreServedFailedOrEnded : Obligations.WaitingDirectStepsAreServedFailedOrEnded := by
  refine ⟨?_, ?_, ?_⟩
  · intro v r ended p ends fits idle hd he
    obtain ⟨hno, hserved⟩ := v.judgeDirect_spec r ended hd he
    refine ⟨hno, fun hfree => ?_⟩
    obtain ⟨hended, hhalted, hjudged⟩ := hserved hfree
    refine ⟨fun cause hc hb => (hended cause hc).trans (Ev.endDirect_eq hb r .aborted cause), hhalted, fun hc hs => ?_⟩
    obtain ⟨hfails, hwaits⟩ := hjudged hc hs
    exact ⟨fun cause net hu hb => (hfails cause net hu).trans (Ev.endDirect_eq hb r .fault cause), hwaits⟩
  · intro s number body r h hl p reply taken hs hd he hz hc hf hfree
    have hlen : RequestKind.directStep.bodyLength = some body.length ∨ RequestKind.directStep.bodyLength = none :=
      .inl (congrArg some hl.symm)
    have hact := ownDirectStep_taken (number := number) hs hd hz hc hf
    let begun : Ev := { Ev.start taken with replies := [reply] }
    have hdirect : begun.p.disp.direct = some ⟨r, none⟩ := rfl
    have hhalted : begun.p.disp.seq ≠ .halted := fun hh => by
      have hseq : s.part.disp.seq = .halted := hh
      rcases hs with hs | hs | hs <;> cases hs.symm.trans hseq
    have hrunning : begun.p.disp.seq ≠ .running := fun hh => by
      have hseq : s.part.disp.seq = .running := hh
      rcases hs with hs | hs | hs <;> cases hs.symm.trans hseq
    obtain ⟨hfails, hwaits⟩ := ((begun.judgeDirect_spec r none hdirect he).2 hfree).2.2 rfl hhalted
    refine ⟨fun cause net hu hb => exec_requestOf_taken .directStep h hlen ?_, fun e n hu hk hnone hcand ha hi hlow hn =>
      exec_requestOf_taken .directStep h hlen ?_⟩
    · have hjudge : begun.judgeDirect = _ := (hfails cause net hu).trans (Ev.endDirect_eq (v := begun) hb r .fault cause)
      have heval : begun.evaluate = _ := (Ev.evaluate_notRunning (by rw [hjudge]; exact hrunning)).trans hjudge
      refine (congrArg Ev.close hact).trans (Ev.close_evaluated rfl rfl rfl heval rfl rfl rfl rfl
        (fun u hu => Ev.evaluate_quiet u ?_ ?_) (.inr ?_))
      · rw [hu]
        exact hrunning
      · rw [hu]
        rfl
      · exact Part.noRemainder_of_unstreamed (p := begun.p.directEnded r .fault cause) hb
    · have hempty : ∀ x, x ∉ begun.p.inFlight := fun x hx => by
        have hx' : x ∈ s.part.inFlight := hx
        rw [show s.part.inFlight = [] from hnone] at hx'
        cases hx'
      have hfits : begun.p.DirectFits r :=
        ⟨fun x hx => absurd hx (hempty x), fun _ => hnone, fun x hx => absurd hx (hempty x), hcand⟩
      have hjudge := (hwaits hu).2 e hfits ⟨ha, hi⟩ fun f hf hidle => hlow f hf hidle.1 hidle.2
      exact (congrArg Ev.close hact).trans (Ev.close_dispatched (v := { begun with askEvaluate := true }) hk hn hrunning
        rfl rfl rfl rfl rfl hjudge)
  · intro s due r ended p k q fallen error seqAfter marked halted closed entries absent lowered last first undocks loses hd he hs hb
    refine ⟨fun hactive hphase => ⟨fun hu => ?_, fun hl => ?_⟩, fun e w x ha ho => ?_⟩
    · obtain ⟨hwait, hraw⟩ := hu
      exact exec_undock_waiting hd he hb hactive hwait hraw
    · obtain ⟨hwait, hraw, hdock⟩ := hl
      exact exec_vacuumLost_waiting (discharging := fun _ => false) hd he hs hb hwait hraw hdock
        (Ev.abortAll_none (v := Ev.vacuumGone s.part due) (Part.noneActive_iff.mp hactive) _)
        (fun f => decide_eq_false (hphase f)) rfl rfl
    · intro g owes draining aborted kept
      have hone : s.part.OneAtWork e w x := ha.atWork_beside
      have howes : owes ↔ (s.part.engine e).owesDischarge = true := hone.owes_iff.symm
      have hclosed : ∀ (mid : Part) (cause : Cause), mid.recordFree = p.recordFree →
          mid.directClosed r (ended.getD cause) = closed mid cause ∧
          mid.seqEntry p.disp.seq ++ mid.directClosing r (ended.getD cause) = entries mid cause := fun mid cause h => by
        unfold Part.directClosed Part.directClosing
        rw [h]
        exact ⟨rfl, rfl⟩
      refine ⟨fun hu => ?_, fun hl => ⟨fun hdrains => ?_, fun hdrains => ?_, fun hno hnot => ?_⟩⟩
      · obtain ⟨hwait, hraw⟩ := hu
        let cause := ended.getD .fixtureRemoved
        have hmarked : s.part.undockedMarked due = (s.part.undocked due).directMarked r cause :=
          Part.endWaitingDirect_waiting (p := s.part.undocked due) hd he _
        obtain ⟨b, hact⟩ := Ev.debounced_undock_one hone hwait hraw
        rw [hmarked] at hact
        have hq : ((s.part.undocked due).directMarked r cause).OneAtWork e w x := (hone.undocked due).of_eq rfl rfl rfl (hone.undocked due).quiet
        have hleft := Part.abortedAndTaken_left hq.quiet w x .fixtureRemoved (interlockError .fixtureRemoved)
        obtain ⟨h1, h2⟩ := hclosed _ .fixtureRemoved (hleft.work.recordFree hq.block ha.reserved)
        rw [Work.directNotice_ring ho] at hact
        refine ⟨_, ⟨hleft.work, hleft.relay, hleft.seq_halted hs, hleft.log, Part.abortedAndTaken_link _ _ _ _ _ _⟩, ?_⟩
        rw [← h1, ← h2]
        refine event_aborted_marked (marked := cause) hact hq rfl rfl he ho rfl rfl rfl ?_
        simp [Ev.frames, Ev.start]
        exact rfl
      · obtain ⟨hwait, hraw, hdock⟩ := hl
        exact exec_vacuumLost_waiting (discharging := fun f => decide (f = e)) hd he hs hb hwait hraw hdock
          (Ev.abortAll_discharges (v := Ev.vacuumGone s.part due) (hone.unsealed due) .vacuumLost (howes.mp hdrains))
          ((hone.unsealed due).drains rfl) rfl rfl
      · obtain ⟨hwait, hraw, hdock⟩ := hl
        exact exec_vacuumLost_waiting (q := (Ev.vacuumGone s.part due).p) (discharging := fun f => decide (f = e)) hd he hs hb hwait hraw hdock
          (Ev.abortAll_draining (v := Ev.vacuumGone s.part due) (hone.unsealed due) .vacuumLost hdrains)
          ((hone.unsealed due).draining hdrains) rfl rfl
      · obtain ⟨hwait, hraw, hdock⟩ := hl
        let cause := ended.getD .vacuumLost
        let gone := Ev.vacuumGone s.part due
        have hmarked : gone.p.endWaitingDirect .vacuumLost = (s.part.unsealed due).directMarked r cause :=
          Part.endWaitingDirect_waiting (p := gone.p) hd he _
        have hunsealed : gone.p.OneAtWork e w x := hone.unsealed due
        obtain ⟨b, htaken⟩ := Ev.abort_release_take (v := gone) hunsealed rfl (fun h => absurd h hs)
          (Bool.eq_false_iff.mpr fun h => hno (howes.mpr h)) hnot .vacuumLost (interlockError .vacuumLost)
        have hact := Ev.debounced_vacuumLost hwait hraw hdock
        dsimp only at hact htaken
        rw [hmarked] at htaken
        rw [show ({ Ev.start (s.part.unsealed due) with
          first := [.notice (.fixture ⟨true, false, s.part.lock.identity⟩ .vacuumLost)] } : Ev) = gone from rfl, htaken,
          Work.directNotice_ring ho] at hact
        have hq : (((s.part.unsealed due).directMarked r cause).released fun _ => false).OneAtWork e w x :=
          (hunsealed.of_eq (q := (s.part.unsealed due).directMarked r cause) rfl rfl rfl hunsealed.quiet).released _
        have hleft := Part.abortedAndTaken_left hq.quiet w x .vacuumLost (interlockError .vacuumLost)
        obtain ⟨h1, h2⟩ := hclosed _ .vacuumLost (hleft.work.recordFree hq.block ha.reserved)
        refine ⟨_, ⟨hleft.work, hleft.relay, hleft.seq_halted hs, hleft.log, Part.abortedAndTaken_link _ _ _ _ _ _⟩, ?_⟩
        rw [← h1, ← h2]
        refine event_aborted_marked (marked := cause) hact hq rfl rfl he ho rfl rfl rfl ?_
        simp [Ev.frames, Ev.start, gone, Ev.vacuumGone]
        exact ⟨rfl, rfl⟩

end Sys2Proof.Machine

/-! PROOFS. Evaluations: why a step cannot be served, failure at dispatch, and eligible steps dispatched until none is left
(R54, R58, R59, R64). -/

namespace Sys2Proof.Machine

/-! ### Why a step cannot be served (R59) -/

section
variable {p : Part} {r : StepRecord}

theorem Part.allFaulted_iff : p.allFaulted r = true ↔ ∀ e, r.allows e = true → (p.engine e).state = .faulted := by
  simp only [Part.allFaulted, List.all_eq_true, Bool.or_eq_true, Bool.not_eq_true', decide_eq_true_eq]
  refine ⟨fun h e ha => (h e e.mem_all).resolve_left (by simp [ha]), fun h e _ => ?_⟩
  cases ha : r.allows e with
  | false => exact .inl rfl
  | true => exact .inr (h e ha)

theorem Part.netUsable_eq_false_iff {net : Nat} : p.netUsable net = false ↔
    ∀ m ∈ p.nailsOf net, (p.nail m).condition = .disabled ∨ (p.card (m / 64)).status ≠ .ready := by
  rw [Part.netUsable, List.any_eq_false]
  refine forall₂_congr fun m _ => ?_
  have hcard : cardOf m = m / 64 := rfl
  rw [Part.usable, hcard]
  by_cases hd : (p.nail m).condition = .disabled <;> simp [hd]

theorem Part.requiredNets_eq (p : Part) (r : StepRecord) : p.requiredNets r = if r.kind = .scan then []
    else r.high :: r.low :: (p.templateNets r).filter fun n => decide (n ≠ r.high ∧ n ≠ r.low) := by
  have htrimmed : p.trimmedGuards r = (p.templateNets r).filter fun n => decide (n ≠ r.high ∧ n ≠ r.low) :=
    List.filter_congr fun n _ => (Bool.decide_and _ _).symm
  rw [Part.requiredNets, htrimmed]

theorem Part.unservable_faulted (h : ∀ e, r.allows e = true → (p.engine e).state = .faulted) :
    p.unservable r = some (.noEngine, none) := if_pos (Part.allFaulted_iff.mpr h)

theorem Part.unservable_eq_find (h : ¬ ∀ e, r.allows e = true → (p.engine e).state = .faulted) : p.unservable r =
    ((p.requiredNets r).find? fun n => !p.netUsable n).map fun n => (.noNail, some n) := by
  unfold Part.unservable
  rw [if_neg (mt Part.allFaulted_iff.mp h)]
  cases (p.requiredNets r).find? fun n => !p.netUsable n <;> rfl

theorem Part.unservable_dry (h : ¬ ∀ e, r.allows e = true → (p.engine e).state = .faulted) {before after : List Nat} {net : Nat}
    (hnets : p.requiredNets r = before ++ net :: after) (hbefore : ∀ n ∈ before, p.netUsable n ≠ false)
    (hnet : p.netUsable net = false) : p.unservable r = some (.noNail, some net) := by
  have hpass : before.find? (fun n => !p.netUsable n) = none :=
    List.find?_eq_none.mpr fun n hn => by simpa using hbefore n hn
  rw [Part.unservable_eq_find h, hnets, List.find?_append, hpass, Option.none_or, List.find?_cons_of_pos (by simp [hnet])]
  rfl

theorem Part.unservable_none (h : ¬ ∀ e, r.allows e = true → (p.engine e).state = .faulted)
    (hnets : ∀ n ∈ p.requiredNets r, p.netUsable n ≠ false) : p.unservable r = none := by
  have hpass : (p.requiredNets r).find? (fun n => !p.netUsable n) = none :=
    List.find?_eq_none.mpr fun n hn => by simpa using hnets n hn
  rw [Part.unservable_eq_find h, hpass]
  rfl

/-- A net with a candidate has a usable nail. -/
theorem Part.netUsable_of_candidates {net : Nat} (h : p.candidates none net ≠ []) : p.netUsable net ≠ false := by
  obtain ⟨m, hm⟩ := List.exists_mem_of_ne_nil _ h
  obtain ⟨hmem, hcondition, hready, -⟩ := Part.mem_candidates_none.mp hm
  intro hnone
  rcases Part.netUsable_eq_false_iff.mp hnone m hmem with hd | hc
  · exact hcondition hd
  · exact hc hready

theorem Part.unservable_of_served (h : p.served r = true) : p.unservable r = none := by
  obtain ⟨⟨e, ha, hi⟩, hcandidates, -⟩ := Part.served_iff.mp h
  exact Part.unservable_none (fun hall => by cases hi.symm.trans (hall e ha))
    fun n hn => Part.netUsable_of_candidates (hcandidates n hn)

end

/-! ### Failure at dispatch (R59) -/

/-- The oldest PENDING step has its nets free, the order met and a record free (R54 conditions 2, 3 and 6). -/
def Part.OldestReaches (p : Part) (r : StepRecord) : Prop :=
  (∀ x ∈ p.inFlight, ∀ n ∈ p.netSet r, n ∉ x.nets) ∧
  (r.barrier = true ∨ r.solo = true ∨ r.kind = .scan → p.inFlight = []) ∧
  (∀ x ∈ p.inFlight, x.record.solo = false ∧ x.record.kind ≠ .scan) ∧ p.recordFree = true

section
variable {v : Ev} {i : Nat} {rest : List Nat} {r : StepRecord}

theorem Part.oldestReaches_iff {p : Part} : (p.netsFree (p.netSet r) && p.orderMet r true && p.recordFree) = true ↔
    p.OldestReaches r := by
  simp only [Bool.and_eq_true, Part.netsFree_iff, Part.orderMet_iff, Part.OldestReaches]
  constructor
  · rintro ⟨⟨hnets, hbarrier, halone, hothers⟩, hfree⟩
    exact ⟨hnets, fun h => h.elim (fun hb => (hbarrier hb).2) halone, hothers, hfree⟩
  · rintro ⟨hnets, halone, hothers, hfree⟩
    exact ⟨⟨hnets, fun hb => ⟨trivial, halone (.inl hb)⟩, fun h => halone (.inr h), hothers⟩, hfree⟩

theorem Ev.judgeFailure_same (h : v.p.disp.seq ≠ .running ∨ v.p.ring.pendingSlots = []) : v.judgeFailure = v := by
  rcases h with h | h
  · exact Ev.judgeFailure_notRunning h
  · unfold Ev.judgeFailure
    dsimp only
    rw [h]
    split
    next h' => cases h'
    · rfl

section
variable (hs : v.p.disp.seq = .running) (hp : v.p.ring.pendingSlots = i :: rest) (hr : v.p.slotRecord i = some r)
include hs hp hr

theorem Ev.judgeFailure_oldest : v.judgeFailure =
    if v.p.netsFree (v.p.netSet r) && v.p.orderMet r true && v.p.recordFree then
      (v.p.unservable r).elim v fun found =>
        let v := (v.map Part.reserve).appendFinal (unservedRecord (some i) r .fault found.1)
        let v := v.map fun p => p.slotDone i
        let v := if r.notify then { v with steps := v.steps ++ [.notice (.step i r.tag .fault)] } else v
        v.haltingError ⟨found.1, some i, some r.tag, none, none, found.2, 0⟩
    else v := by
  unfold Ev.judgeFailure
  dsimp only
  split
  next j tail _ hp' =>
    obtain ⟨rfl, -⟩ := List.cons.inj (hp'.symm.trans hp)
    rw [hr]
    dsimp only
    cases v.p.unservable r <;> rfl
  next h => exact absurd hp (h _ _ hs)

theorem Ev.judgeFailure_passes (h : ¬ v.p.OldestReaches r ∨ v.p.unservable r = none) : v.judgeFailure = v := by
  rw [Ev.judgeFailure_oldest hs hp hr]
  rcases h with h | h
  · exact if_neg (mt Part.oldestReaches_iff.mp h)
  · rw [h]
    exact ite_self v

theorem Ev.judgeFailure_fails (h : v.p.OldestReaches r) {cause : Cause} {net : Option Nat}
    (hu : v.p.unservable r = some (cause, net)) (hb : v.p.queue.block = 0) :
    let t := v.p.failedAtDispatch i r cause net
    v.judgeFailure = { v with
      p := t, steps := v.steps ++ (if r.notify then [.notice (.step i r.tag .fault)] else [])
      entries := v.entries ++ [t.seqNotice .halted], askRemainder := true } := by
  intro t
  rw [Ev.judgeFailure_oldest hs hp hr, if_pos (Part.oldestReaches_iff.mpr h), hu]
  dsimp only [Option.elim]
  rw [Ev.appendFinal_unstreamed (v := v.map Part.reserve) hb]
  cases hn : r.notify with
  | true =>
    rw [if_pos rfl, Ev.haltingError_halts (by exact .inl hs)]
    rfl
  | false =>
    rw [if_neg Bool.false_ne_true, Ev.haltingError_halts (by exact .inl hs), if_neg Bool.false_ne_true, List.append_nil]
    rfl

end

end

/-! ### Dispatch until none is eligible (R58) -/

/-- How many engines are IDLE. -/
def Part.idleCount (p : Part) : Nat := (EngineId.all.filter fun e => decide ((p.engine e).state = .idle)).length

theorem Part.idleCount_le (p : Part) : p.idleCount ≤ 4 := List.length_filter_le _ _

/-- One engine that leaves IDLE lowers the count. -/
theorem Part.idleCount_lt {p q : Part} {e : EngineId} (hi : (p.engine e).state = .idle) (hq : (q.engine e).state ≠ .idle)
    (hothers : ∀ f, f ≠ e → q.engine f = p.engine f) : q.idleCount < p.idleCount := by
  have hsub : EngineId.all.filter (fun f => decide ((q.engine f).state = .idle)) =
      (EngineId.all.filter fun f => decide ((p.engine f).state = .idle)).filter fun f => decide (f ≠ e) := by
    rw [List.filter_filter]
    refine List.filter_congr fun f _ => ?_
    by_cases hf : f = e
    · simp [hf, hq]
    · simp [hf, hothers f hf]
  unfold Part.idleCount
  rw [hsub]
  exact List.length_filter_lt_length_iff_exists.mpr ⟨e, List.mem_filter.mpr ⟨e.mem_all, by simpa using hi⟩, by simp⟩

theorem Ev.dispatchEligible_of_none {v : Ev} (h : v.p.firstEligible [] true v.p.windowSlots = none) (n : Nat) :
    Ev.dispatchEligible n v = v := by
  cases n with
  | zero => rfl
  | succ n => simp [Ev.dispatchEligible, h]

theorem Ev.dispatchEligible_of_some {v : Ev} {i : Nat} {r : StepRecord} {e : EngineId}
    (h : v.p.firstEligible [] true v.p.windowSlots = some (i, r)) (he : v.p.chooseEngine r = some e) (n : Nat) :
    Ev.dispatchEligible (n + 1) v = Ev.dispatchEligible n (v.dispatch e (some i) r) := by
  rw [Ev.dispatchEligible, h]
  dsimp only
  rw [he]

/-- A SCAN step in flight, or a SOLO one, keeps every other from being eligible (R56). -/
theorem Part.firstEligible_of_alone {p : Part} {e : EngineId} {x : Entry} (hx : p.disp.inFlight.get e = some x)
    (ha : x.record.alone = true) (older : List Nat) (oldest : Bool) (slots : List Nat) :
    p.firstEligible older oldest slots = none := by
  cases h : p.firstEligible older oldest slots with
  | none => rfl
  | some found =>
    obtain ⟨i, r⟩ := found
    obtain ⟨-, -, nets, isOldest, hel⟩ := Part.firstEligible_spec h
    obtain ⟨-, -, horder, -⟩ := Part.eligible_spec hel
    obtain ⟨-, -, hothers⟩ := Part.orderMet_iff.mp horder
    rcases StepRecord.alone_iff.mp ha with hsolo | hscan
    · exact absurd ((hothers x (Part.mem_inFlight.mpr ⟨e, hx⟩)).1) (by simp [hsolo])
    · exact absurd hscan (hothers x (Part.mem_inFlight.mpr ⟨e, hx⟩)).2

/-- The dispatch of a SCAN step puts it in flight, whatever the scan does at once. -/
theorem Ev.dispatch_scan_entry {v : Ev} {e : EngineId} {origin : Option Nat} {r : StepRecord} (hk : r.kind = .scan) :
    (v.dispatch e origin r).p.disp.inFlight.get e = some (v.p.entryOf origin r none) := by
  have houter : (v.dispatch e origin r).p.outer = { v.p.outer with
      disp := { v.p.disp with inFlight := v.p.disp.inFlight.set e (some (v.p.entryOf origin r none)) } } := by
    unfold Ev.dispatch
    rw [if_pos hk, Ev.outer_startScan, Ev.map_p, Part.beginStep_outer]
  have hdisp : (v.dispatch e origin r).p.disp = _ := (congrArg Outer.disp houter :)
  rw [hdisp]
  exact PerEngine.get_set_same _ _ _

theorem Part.resolve_of_served {p : Part} {r : StepRecord} (hk : r.kind ≠ .scan) (h : p.served r = true) (e : EngineId) :
    ∃ n, p.resolve e r = some n := by
  obtain ⟨-, hcandidates, -⟩ := Part.served_iff.mp h
  rw [Part.requiredNets_eq, if_neg hk] at hcandidates
  cases hn : p.resolve e r with
  | some n => exact ⟨n, rfl⟩
  | none =>
    obtain ⟨-, -, hnone⟩ := stepNailsAreResolvedRoleByRole p e r
    obtain ⟨net, hmem, hempty⟩ := hnone.mp hn
    exact absurd hempty (hcandidates net hmem)

theorem Part.mostReclaimable_isSome {p : Part} {r : StepRecord} {es : List EngineId} (h : es ≠ []) :
    ∃ e, p.mostReclaimable r es = some e := by
  cases es with
  | nil => exact absurd rfl h
  | cons e rest =>
    unfold Part.mostReclaimable
    split
    next f _ =>
      split
      · exact ⟨f, rfl⟩
      · exact ⟨e, rfl⟩
    · exact ⟨e, rfl⟩

theorem Part.chooseEngine_of_served {p : Part} {r : StepRecord} (h : p.served r = true) : ∃ e, p.chooseEngine r = some e := by
  obtain ⟨⟨e, ha, hi⟩, -, -⟩ := Part.served_iff.mp h
  exact Part.mostReclaimable_isSome (List.ne_nil_of_mem (Part.mem_idleEngines.mpr ⟨ha, hi⟩))

/-- With more turns than IDLE engines dispatch goes on until no step is eligible. -/
theorem Ev.dispatchEligible_ends (n : Nat) {v : Ev} (h : v.p.idleCount < n) :
    (Ev.dispatchEligible n v).p.firstEligible [] true (Ev.dispatchEligible n v).p.windowSlots = none := by
  induction n generalizing v with
  | zero => omega
  | succ n ih =>
    cases hfirst : v.p.firstEligible [] true v.p.windowSlots with
    | none => rw [Ev.dispatchEligible_of_none hfirst, hfirst]
    | some found =>
      obtain ⟨i, r⟩ := found
      obtain ⟨-, -, nets, isOldest, hel⟩ := Part.firstEligible_spec hfirst
      obtain ⟨-, -, -, hserved⟩ := Part.eligible_spec hel
      obtain ⟨e, he⟩ := Part.chooseEngine_of_served hserved
      obtain ⟨-, hidle, -⟩ := (v.p.chooseEngine_eq_some_iff r e).mp he
      rw [Ev.dispatchEligible_of_some hfirst he]
      by_cases hk : r.kind = .scan
      · have hnone : (v.dispatch e (some i) r).p.firstEligible [] true (v.dispatch e (some i) r).p.windowSlots = none :=
          Part.firstEligible_of_alone (Ev.dispatch_scan_entry hk) (StepRecord.alone_iff.mpr (.inr hk)) _ _ _
        rw [Ev.dispatchEligible_of_none hnone, hnone]
      · obtain ⟨nails, hn⟩ := Part.resolve_of_served hk hserved e
        obtain ⟨-, -, -, -, ⟨hactive, -⟩, hothers, -⟩ := dispatchReservesClaimsAndStarts v e (some i) r nails hk hn
        have hactive' : ((v.dispatch e (some i) r).p.engine e).state = .active := hactive
        have hlt := Part.idleCount_lt (q := (v.dispatch e (some i) r).p) hidle (by rw [hactive']; nofun) hothers
        exact ih (by omega)

/-! ### A RUN with one step to dispatch or fail (R45, R58, R59) -/

/-- The dispatch of the only PENDING slot leaves none PENDING. -/
theorem Ring.begun_pendingSlots {r : Ring} (hr : r.InRange) {i : Nat} (h : r.pendingSlots = [i]) :
    ((r.setState i .active).advanceNext).pendingSlots = [] := by
  obtain ⟨-, hnext, hcommit⟩ := hr.positions
  have hnone : ∀ j, j < (r.commit + 1024 - r.next) % 1024 → (r.setState i .active).stateOf ((r.next + j) % 1024) ≠ .pending := by
    intro j hj
    rw [Ring.stateOf_setState hr]
    split
    · nofun
    next hne =>
      intro hpending
      have hmem : (r.next + j) % 1024 ∈ r.pendingSlots :=
        List.mem_filter.mpr ⟨List.mem_map.mpr ⟨j, List.mem_range.mpr hj, rfl⟩, decide_eq_true hpending⟩
      rw [h] at hmem
      exact hne (List.mem_singleton.mp hmem)
  have hseek : ((r.setState i .active).advanceNext).next = r.commit :=
    Ring.seekPending_of_none (r := r.setState i .active) hcommit Config.slots hnext hnone
  have hat : ((r.setState i .active).advanceNext).commit = r.commit := rfl
  unfold Ring.pendingSlots
  rw [hseek, hat, show (r.commit + Config.slots - r.commit) % Config.slots = 0 by simp]
  rfl

/-- The window over one PENDING slot. -/
theorem Part.windowSlots_one {p : Part} {i : Nat} (h : p.ring.pendingSlots = [i]) (hw : 1 ≤ p.disp.window) : p.windowSlots = [i] := by
  obtain ⟨n, hn⟩ := Nat.exists_eq_add_of_le' hw
  have hempty : ∀ n, p.windowFrom n false [] = [] := fun n => by cases n <;> rfl
  unfold Part.windowSlots
  rw [h, hn, Part.windowFrom, hempty]
  split <;> rfl

section
variable {s : State} {number : Byte}

/-- The event of a RUN that has been taken and replied to, with a step PENDING. -/
def Ev.running (p : Part) (number : Byte) : Ev :=
  { Ev.start ((p.entered .running).taking number 0x30) with replies := [OutFrame.reply number 0x30 .done] }

theorem ownRun_running (hs : s.part.disp.seq = .stopped) (hd : s.part.disp.direct = none) (hz : s.part.map.state = .frozen)
    (hf : s.part.fixtureCheck = none) (hp : s.part.ring.pendingSlots ≠ []) :
    ownRun [] (Ev.start (s.part.taking number 0x30)) = { Ev.running s.part number with askEvaluate := true } := by
  have hseq : (Ev.start (s.part.taking number 0x30)).p.disp = s.part.disp := rfl
  have hmap : (Ev.start (s.part.taking number 0x30)).p.map = s.part.map := rfl
  have hring : ((Ev.start (s.part.taking number 0x30)).reply .done).p.ring = s.part.ring := rfl
  have hfixture : (Ev.start (s.part.taking number 0x30)).p.fixtureCheck = s.part.fixtureCheck := rfl
  unfold ownRun
  dsimp only
  rw [hseq, hmap, hfixture, hring, if_neg (not_not.mpr hs), hd, if_neg (by simp), if_neg (not_not.mpr hz), hf]
  exact if_neg hp

end

/-! ### The statement -/

/-- Settles O27: each dispatch takes an IDLE engine or puts a SCAN in flight, so five turns leave no step eligible. -/
theorem evaluationFailsAndDispatchesOldestFirst : Obligations.EvaluationFailsAndDispatchesOldestFirst := by
  refine ⟨fun p r => ?_, fun v => ?_, fun v => ?_, ?_⟩
  · intro faulted dry needed
    have hdry : ∀ n, dry n ↔ p.netUsable n = false := fun n => Part.netUsable_eq_false_iff.symm
    have hneeded : p.requiredNets r = needed := p.requiredNets_eq r
    exact ⟨fun h => Part.unservable_faulted h,
      fun h before net after hnets hbefore hnet => Part.unservable_dry h (hneeded.trans hnets)
        (fun n hn hno => hbefore n hn ((hdry n).mpr hno)) ((hdry net).mp hnet),
      fun h hnets => Part.unservable_none h fun n hn hno => hnets n (hneeded ▸ hn) ((hdry n).mpr hno)⟩
  · intro p
    refine ⟨Ev.judgeFailure_same, fun i rest r hs hp hr => ?_⟩
    intro first
    refine ⟨Ev.judgeFailure_passes hs hp hr, fun cause net hfirst hu hb => ?_⟩
    intro t
    rw [Ev.judgeFailure_fails hs hp hr hfirst hu hb]
    exact ⟨rfl, rfl, rfl⟩
  · exact ⟨rfl, fun fuel i r e hfirst he => Ev.dispatchEligible_of_some hfirst he fuel,
      Ev.dispatchEligible_ends 5 (Nat.lt_succ_of_le (Part.idleCount_le _))⟩
  · intro s number i rest r h p reply running hs hd hz hf hrange hp hr
    have hact := ownRun_running (number := number) hs hd hz hf (by rw [show s.part.ring.pendingSlots = _ from hp]; nofun)
    let begun := Ev.running s.part number
    have hdirect : begun.judgeDirect = begun := Ev.judgeDirect_same (.inl hd)
    have hpending : begun.p.ring.pendingSlots = i :: rest := hp
    have hrecord : begun.p.slotRecord i = some r := hr
    refine ⟨fun e n hrest hk hw hel he hn => exec_requestOf_taken .run h (.inl rfl) ?_,
      fun cause net hnone hfree hb hu => exec_requestOf_taken .run h (.inl rfl) ?_⟩
    · subst hrest
      obtain ⟨-, -, -, hserved⟩ := Part.eligible_spec hel
      have hwindow : begun.p.windowSlots = [i] := Part.windowSlots_one hp hw
      have hfirst : begun.p.firstEligible [] true begun.p.windowSlots = some (i, r) := by
        rw [hwindow, Part.firstEligible, hrecord]
        exact if_pos hel
      have hpass : begun.judgeFailure = begun :=
        Ev.judgeFailure_passes rfl hpending hrecord (.inr (Part.unservable_of_served hserved))
      let t := ((Ev.start running).dispatch e (some i) r).p
      have hdispatch : begun.dispatch e (some i) r = { begun with p := t } := Ev.dispatch_resolved_eq hk hn (some i)
      obtain ⟨-, hdisp, -, hring, -⟩ := dispatchReservesClaimsAndStarts (Ev.start running) e (some i) r n hk hn
      have hring' : t.ring = (running.ring.setState i .active).advanceNext := hring i rfl
      have hempty : t.ring.pendingSlots = [] := by
        rw [hring']
        exact Ring.begun_pendingSlots hrange hp
      have hquiet : t.disp.direct = none := by
        rw [show t.disp = _ from hdisp]
        exact hd
      have hlast : t.firstEligible [] true t.windowSlots = none := by
        have hwindow : t.windowSlots = [] := by
          unfold Part.windowSlots
          rw [hempty]
          cases t.disp.window <;> rfl
        rw [hwindow]
        rfl
      have heval : begun.evaluate = { begun with p := t } := by
        unfold Ev.evaluate
        rw [hdirect, hpass, Ev.dispatchEligible_of_some hfirst he, hdispatch,
          Ev.dispatchEligible_of_none (v := { begun with p := t }) hlast]
      exact (congrArg Ev.close hact).trans (Ev.close_evaluated rfl rfl rfl heval rfl rfl rfl rfl
        (fun u hu => Ev.evaluate_idle (by rw [hu]; exact hempty) (by rw [hu]; exact hquiet)) (.inl rfl))
    · have hempty : ∀ x, x ∉ begun.p.inFlight := fun x hx => by
        have hx' : x ∈ s.part.inFlight := hx
        rw [show s.part.inFlight = [] from hnone] at hx'
        cases hx'
      have hfirst : begun.p.OldestReaches r :=
        ⟨fun x hx => absurd hx (hempty x), fun _ => hnone, fun x hx => absurd hx (hempty x), hfree⟩
      have hfails := Ev.judgeFailure_fails (v := begun) rfl hpending hrecord hfirst hu hb
      dsimp only at hfails
      have hhalted : begun.judgeFailure.p.disp.seq ≠ .running := by rw [hfails]; nofun
      have heval : begun.evaluate = begun.judgeFailure := by
        unfold Ev.evaluate
        rw [hdirect, Ev.dispatchEligible_notRunning hhalted]
      rw [hfails] at heval
      exact (congrArg Ev.close hact).trans (Ev.close_evaluated rfl rfl rfl heval rfl (by simp [Ev.frames, begun, Ev.running, Ev.start]; exact ⟨rfl, rfl⟩) rfl rfl
        (fun u hu => Ev.evaluate_quiet u (by rw [hu]; nofun) (by rw [hu]; exact hd))
        (.inr (Part.noRemainder_of_unstreamed (p := begun.p.failedAtDispatch i r cause net) hb)))

end Sys2Proof.Machine

/-! PROOFS. STEP_COMMIT: the run of slots made PENDING, and what the Dispatcher does with it (R37, R38, R58, R70). -/

namespace Sys2Proof.Machine

/-! ### A run of slots -/

theorem mem_ringRun_iff {a n i : Nat} (ha : a < 1024) (hn : n ≤ 1024) :
    i ∈ ringRun a n ↔ i < 1024 ∧ (i + 1024 - a) % 1024 < n := by
  simp only [ringRun, List.mem_map, List.mem_range, Config.slots]
  constructor
  · rintro ⟨k, hk, rfl⟩
    omega
  · rintro ⟨hi, hoff⟩
    exact ⟨(i + 1024 - a) % 1024, hoff, by omega⟩

/-- The first slot of a run that does not meet a condition. -/
theorem ringRun_find? {a n j : Nat} {f : Nat → Bool} (hj : j < n) (hat : f ((a + j) % 1024) = true)
    (hbefore : ∀ m, m < j → f ((a + m) % 1024) = false) : (ringRun a n).find? f = some ((a + j) % 1024) := by
  have hrange : (List.range n).find? (f ∘ fun j => (a + j) % Config.slots) = some j := by
    rw [List.find?_range_eq_some]
    exact ⟨hat, List.mem_range.mpr hj, fun m hm => by simpa [Config.slots] using hbefore m hm⟩
  rw [ringRun, List.find?_map, hrange]
  rfl

theorem ringRun_find?_none {a n : Nat} {f : Nat → Bool} (h : ∀ j, j < n → f ((a + j) % 1024) = false) :
    (ringRun a n).find? f = none := by
  refine List.find?_eq_none.mpr fun i hi => ?_
  obtain ⟨j, hj, rfl⟩ := List.mem_map.mp hi
  simpa [Config.slots] using h j (List.mem_range.mp hj)

/-- The slots of a ring after a commit. -/
theorem Ring.commitTo_spec {r : Ring} (hr : r.InRange) {c : Nat} (hc : c < 1024) (hroom : r.live + r.commitCount c ≤ 1023) :
    r.commitTo c = { r with slots := (r.commitTo c).slots, commit := c } ∧ (r.commitTo c).live = r.live + r.commitCount c ∧
      tableWf Slot.unlisted (r.commitTo c).slots = true ∧
      ∀ i, lookup .unlisted (r.commitTo c).slots i = if i < 1024 ∧ (i + 1024 - r.commit) % 1024 < r.commitCount c
        then ⟨.pending, (lookup Slot.unlisted r.slots i).record⟩ else lookup .unlisted r.slots i := by
  obtain ⟨hrange, hhead, hnext, -, hstate, hrecord⟩ :=
    Ring.foldl_setState_spec .pending (ringRun r.commit (r.commitCount c)) hr
  have heq : r.commitTo c = { r with slots := (r.commitTo c).slots, commit := c } := by
    change (⟨_, (List.foldl _ r _).head, (List.foldl _ r _).next, c⟩ : Ring) = ⟨_, r.head, r.next, c⟩
    exact congrArg₂ (fun h n => (⟨_, h, n, c⟩ : Ring)) hhead hnext
  refine ⟨heq, ?_, hrange.table, fun i => ?_⟩
  · rw [← Ring.offset_commit hr hc hroom, heq]
    rfl
  · have hmem : i ∈ ringRun r.commit (r.commitCount c) ↔ i < 1024 ∧ (i + 1024 - r.commit) % 1024 < r.commitCount c :=
      mem_ringRun_iff hr.positions.2.2 (by omega)
    have hread : lookup Slot.unlisted (r.commitTo c).slots i = ⟨if i ∈ ringRun r.commit (r.commitCount c) then .pending
        else r.stateOf i, (lookup Slot.unlisted r.slots i).record⟩ :=
      congrArg₂ Slot.mk (hstate i) (hrecord i)
    by_cases hi : i < 1024 ∧ (i + 1024 - r.commit) % 1024 < r.commitCount c
    · rw [hread, if_pos (hmem.mpr hi), if_pos hi]
    · rw [hread, if_neg (mt hmem.mp hi), if_neg hi]
      rfl

/-! ### A waiting direct step that an evaluation dispatches (R71) -/

/-- The dispatch of a measurement step takes a reservation, so it does not leave the event as it was. -/
theorem Ev.dispatch_ne {v : Ev} {e : EngineId} {origin : Option Nat} {r : StepRecord} {n : Nails} (hk : r.kind ≠ .scan)
    (hn : v.p.resolve e r = some n) : v.dispatch e origin r ≠ v := by
  intro h
  obtain ⟨hqueue, -⟩ := dispatchReservesClaimsAndStarts v e origin r n hk hn
  rw [h] at hqueue
  have hreserved : v.p.queue.reserved = v.p.queue.reserved + 1 := congrArg ResultQueue.reserved hqueue
  omega

/-- A direct step is dispatched in one way: the engine and the step are those that its entry names. -/
theorem Ev.dispatch_direct_inj {v : Ev} {e f : EngineId} {r q : StepRecord} {n : Nails} (hk : r.kind ≠ .scan)
    (hn : v.p.resolve e r = some n) (he : v.p.directEngine = none) (h : v.dispatch f none q = v.dispatch e none r) :
    f = e ∧ q = r := by
  have hdisp := Ev.dispatch_resolved_disp hk hn none
  rcases v.dispatch_outer f none q with hsame | ⟨nails, houter⟩
  · exact absurd (h.symm.trans hsame) (Ev.dispatch_ne hk hn)
  · have hother : (v.dispatch f none q).p.disp =
        { v.p.disp with inFlight := v.p.disp.inFlight.set f (some (v.p.entryOf none q nails)) } := (congrArg Outer.disp houter :)
    have hset : v.p.disp.inFlight.set f (some (v.p.entryOf none q nails)) =
        v.p.disp.inFlight.set e (some (v.p.entryOf none r (some n))) :=
      (congrArg Dispatcher.inFlight (hother.symm.trans ((congrArg (fun u : Ev => u.p.disp) h).trans hdisp)) :)
    have hread : (some (v.p.entryOf none q nails) : Option Entry) = (v.p.disp.inFlight.set e (some (v.p.entryOf none r (some n)))).get f := by
      rw [← hset, PerEngine.get_set_same]
    by_cases hf : f = e
    · subst hf
      rw [PerEngine.get_set_same] at hread
      exact ⟨rfl, (congrArg Entry.record (Option.some.inj hread) :)⟩
    · rw [PerEngine.get_set_ne _ _ _ _ hf] at hread
      exact absurd rfl (Part.directEngine_eq_none_iff.mp he f _ hread.symm)

/-- Which direct step an evaluation dispatches goes by the part alone. -/
theorem Ev.judgeDirect_dispatch_of_start {v : Ev} {e : EngineId} {r : StepRecord} {n : Nails} (hk : r.kind ≠ .scan)
    (hn : v.p.resolve e r = some n) (h : (Ev.start v.p).judgeDirect = (Ev.start v.p).dispatch e none r) :
    v.judgeDirect = v.dispatch e none r := by
  have hstart : (Ev.start v.p).dispatch e none r ≠ Ev.start v.p := Ev.dispatch_ne (v := Ev.start v.p) hk hn
  have hends : ∀ q verdict cause, (Ev.start v.p).endDirect q verdict cause ≠ (Ev.start v.p).dispatch e none r := fun q verdict cause heq => by
    have hasks := congrArg Ev.askEvaluate (heq.trans (Ev.dispatch_resolved_eq (v := Ev.start v.p) hk hn none))
    cases (hasks :)
  cases hd : v.p.disp.direct with
  | none => exact absurd (h.symm.trans (Ev.judgeDirect_same (v := Ev.start v.p) (.inl hd))) hstart
  | some d =>
    obtain ⟨q, ended⟩ := d
    by_cases he : v.p.directEngine = none
    · cases hfree : v.p.recordFree with
      | false => exact absurd (h.symm.trans (Ev.judgeDirect_noRecord (v := Ev.start v.p) hd he hfree)) hstart
      | true =>
        cases ended with
        | some cause => exact absurd ((Ev.judgeDirect_ended (v := Ev.start v.p) hd he rfl hfree).symm.trans h) (hends _ _ _)
        | none =>
          by_cases hs : v.p.disp.seq = .halted
          · exact absurd (h.symm.trans (Ev.judgeDirect_halted (v := Ev.start v.p) hd he rfl hs)) hstart
          · cases hu : v.p.unservable q with
            | some found =>
              exact absurd ((Ev.judgeDirect_unserved (v := Ev.start v.p) hd he rfl hs (cause := found.1) (net := found.2) hu hfree).symm.trans h)
                (hends _ _ _)
            | none =>
              have hstep : ∀ u : Ev, u.p = v.p → u.judgeDirect =
                  if v.p.netsFree (v.p.netSet q) && v.p.orderMet q true && v.p.served q then
                    (v.p.idleEngines q).head?.elim u fun f => u.dispatch f none q
                  else u := fun u hp => by
                rw [Ev.judgeDirect_unmarked (by rw [hp]; exact he) (by rw [hp]; exact hd), hp, if_neg hs, hu]
                cases v.p.idleEngines q <;> rfl
              have hfirst := (hstep (Ev.start v.p) rfl).symm.trans h
              by_cases hok : (v.p.netsFree (v.p.netSet q) && v.p.orderMet q true && v.p.served q) = true
              · rw [if_pos hok] at hfirst
                cases hidle : (v.p.idleEngines q).head? with
                | none =>
                  rw [hidle] at hfirst
                  exact absurd hfirst.symm hstart
                | some f =>
                  rw [hidle] at hfirst
                  obtain ⟨rfl, rfl⟩ := Ev.dispatch_direct_inj (v := Ev.start v.p) hk hn he hfirst
                  rw [hstep v rfl, if_pos hok, hidle]
                  exact rfl
              · rw [if_neg hok] at hfirst
                exact absurd hfirst.symm hstart
    · exact absurd (h.symm.trans (Ev.judgeDirect_same (v := Ev.start v.p) (.inr he))) hstart

/-! ### The statement -/

section
variable {s : State} {number : Byte} {body : List Byte} {c : Nat}

/-- The part of a STEP_COMMIT that has made its run of slots PENDING. -/
def Part.committedTo (p : Part) (c : Nat) : Part := { p with ring := p.ring.commitTo c }

/-- A STEP_COMMIT whose run is STAGED. -/
theorem ownStepCommit_taken (hr : s.part.ring.InRange) (hc : u16At body 0 = c) (hlt : c < 1024) (hne : c ≠ s.part.ring.commit)
    (hroom : s.part.ring.live + s.part.ring.commitCount c ≤ 1023)
    (hstaged : ∀ j, j < s.part.ring.commitCount c → s.part.ring.stateOf ((s.part.ring.commit + j) % 1024) = .staged) :
    ownStepCommit body (Ev.start (s.part.taking number 0x22)) =
      ({ Ev.start ((s.part.committedTo c).taking number 0x22) with replies := [OutFrame.reply number 0x22
        (.committed s.part.ring.head s.part.ring.next c (s.part.ring.live + s.part.ring.commitCount c))] } : Ev).commitReported := by
  have hring : (Ev.start (s.part.taking number 0x22)).p.ring = s.part.ring := rfl
  obtain ⟨heq, hlive, -⟩ := Ring.commitTo_spec hr hlt hroom
  have hhead : (s.part.ring.commitTo c).head = s.part.ring.head := (congrArg Ring.head heq :)
  have hnext : (s.part.ring.commitTo c).next = s.part.ring.next := (congrArg Ring.next heq :)
  have hmapped : ((Ev.start (s.part.taking number 0x22)).map fun p => p.onRing fun g => g.commitTo c).p.ring = s.part.ring.commitTo c := rfl
  have hcommit : (s.part.ring.commitTo c).commit = c := rfl
  unfold ownStepCommit
  dsimp only
  rw [hring, hc, if_neg (by simp only [Config.slots]; omega), if_neg hne, if_neg (by simp only [Config.maxLive]; omega),
    ringRun_find?_none fun j hj => by simpa using hstaged j hj]
  dsimp only
  rw [hmapped, hhead, hnext, hcommit, hlive]
  rfl

end

/-- Settles O19: the run becomes PENDING as one change of the ring, and the state decides what is evaluated. -/
theorem stepCommitHandsARunToTheDispatcher : Obligations.StepCommitHandsARunToTheDispatcher := by
  intro s number body h hl hr c ring k staged refused fits
  have hlen : RequestKind.stepCommit.bodyLength = some body.length ∨ RequestKind.stepCommit.bodyLength = none :=
    .inl (congrArg some hl.symm)
  have hring : (Ev.start (s.part.taking number 0x22)).p.ring = s.part.ring := rfl
  have hk : s.part.ring.commitCount c = k := rfl
  have hact : owner .stepCommit body (Ev.start (s.part.taking number 0x22)) = ownStepCommit body (Ev.start (s.part.taking number 0x22)) := rfl
  refine ⟨fun hbad => ?_, fun hlt hne hfull => ?_, fun ⟨hlt, hne, hroom⟩ j hj hnot hbefore => ?_, fun ⟨hlt, hne, hroom⟩ hstaged => ?_⟩
  · refine exec_refused .stepCommit h hlen (hact.trans ?_)
    unfold ownStepCommit
    dsimp only
    rw [hring]
    by_cases hge : 1024 ≤ u16At body 0
    · exact if_pos hge
    · exact (if_neg hge).trans (if_pos (hbad.resolve_left hge))
  · refine exec_refused .stepCommit h hlen (hact.trans ?_)
    unfold ownStepCommit
    dsimp only
    rw [hring, if_neg (by simp only [Config.slots]; omega), if_neg hne]
    exact if_pos hfull
  · have hroom' : s.part.ring.live + s.part.ring.commitCount (u16At body 0) ≤ 1023 := hroom
    have hat : decide (s.part.ring.stateOf ((s.part.ring.commit + j) % 1024) ≠ .staged) = true := decide_eq_true hnot
    have hpass : ∀ m, m < j → decide (s.part.ring.stateOf ((s.part.ring.commit + m) % 1024) ≠ .staged) = false :=
      fun m hm => decide_eq_false (not_not.mpr (hbefore m hm))
    have hfound : (ringRun s.part.ring.commit (s.part.ring.commitCount (u16At body 0))).find?
        (fun i => decide (s.part.ring.stateOf i ≠ .staged)) = some ((s.part.ring.commit + j) % 1024) := ringRun_find? hj hat hpass
    refine exec_refused .stepCommit h hlen (hact.trans ?_)
    unfold ownStepCommit
    dsimp only
    rw [hring, if_neg (by simp only [Config.slots]; omega), if_neg hne, if_neg (by simp only [Config.maxLive]; omega), hfound]
    exact rfl
  · obtain ⟨heq, -, htable, hlookup⟩ := Ring.commitTo_spec hr hlt hroom
    refine ⟨(s.part.ring.commitTo c).slots, htable, hlookup, ?_⟩
    intro after entered reply gives waits taken
    have hafter : s.part.committedTo c = after := congrArg (fun r : Ring => ({ s.part with ring := r } : Part)) heq
    have htaken := hact.trans (ownStepCommit_taken (number := number) hr rfl hlt hne hroom hstaged)
    rw [hafter, Ev.commitReported_eq] at htaken
    have hseq : (Ev.start (after.taking number 0x22)).p.disp.seq = s.part.disp.seq := rfl
    have hfixture : (Ev.start (after.taking number 0x22)).p.fixtureCheck = s.part.fixtureCheck := rfl
    dsimp only at htaken
    rw [hseq, hfixture] at htaken
    refine ⟨fun hw hidle => ?_, fun hw r e n hkind hn hjudge => ?_, fun hrun hfree => ?_, fun hdrained hf hfree => ?_,
      fun hdrained hf hrem hidle => ?_⟩
    · rw [if_neg (by rcases hw with hw | hw | hw | hw <;> rw [hw] <;> nofun)] at htaken
      exact exec_answered .stepCommit h hlen htaken (q := after) rfl rfl rfl (.inl rfl) (.inr hidle) (.inl rfl)
    · rw [if_neg (by rcases hw with hw | hw | hw | hw <;> rw [hw] <;> nofun)] at htaken
      let begun : Ev := { Ev.start taken with replies := [reply] }
      have hstays : taken.disp.seq ≠ .running := fun hrun => by
        have hrun' : s.part.disp.seq = .running := hrun
        rcases hw with hw | hw | hw | hw <;> cases hw.symm.trans hrun'
      exact exec_requestOf_taken .stepCommit h hlen ((congrArg Ev.close htaken).trans
        (Ev.close_dispatched (v := { begun with askEvaluate := true }) hkind hn hstays rfl rfl rfl rfl rfl
          (Ev.judgeDirect_dispatch_of_start (v := begun) hkind hn hjudge)))
    · rw [if_neg (by rw [hrun]; nofun)] at htaken
      exact exec_answered .stepCommit h hlen htaken (q := after) rfl rfl rfl (.inl rfl) (.inr (Part.nothingToDispatch_of_noRecord (p := after) hfree)) (.inl rfl)
    · rw [if_pos hdrained, if_pos hf] at htaken
      exact exec_answered .stepCommit h hlen htaken (q := entered .running) rfl rfl rfl (.inl rfl) (.inr (Part.nothingToDispatch_of_noRecord (p := entered .running) hfree)) (.inl rfl)
    · rw [if_pos hdrained, if_neg hf] at htaken
      refine exec_answered .stepCommit h hlen htaken (q := entered .paused) rfl rfl rfl (.inl rfl)
        (.inr ?_) (.inr hrem)
      have hidle' : ((decide (s.part.disp.seq ≠ .running) && s.part.disp.direct.isNone) || !s.part.recordFree) = true := hidle
      rw [hdrained] at hidle'
      exact hidle'

end Sys2Proof.Machine

/-! PROOFS. Scans start, pop their stack, and go on after a removal (R143, R145, R157). -/

namespace Sys2Proof.Machine

/-! ### What the Scanner's work leaves of an event -/

/-- An event whose frames and asks stand, and whose part keeps what the measuring machinery never writes. -/
def Ev.Working (v w : Ev) : Prop := w = { v with p := w.p, completions := w.completions } ∧ w.p.outer = v.p.outer

theorem Ev.Working.refl (v : Ev) : v.Working v := ⟨rfl, rfl⟩

theorem Ev.Working.trans {u v w : Ev} (huv : u.Working v) (hvw : v.Working w) : u.Working w := by
  obtain ⟨hv, hvo⟩ := huv
  obtain ⟨hw, hwo⟩ := hvw
  refine ⟨?_, hwo.trans hvo⟩
  rw [hw, hv]

theorem Ev.Working.block {v w : Ev} (h : v.Working w) : w.p.queue.block = v.p.queue.block := (congrArg Outer.block h.2 :)

/-- An act on the part alone that keeps what the machinery never writes. -/
theorem Ev.OnPart.working {f : Ev → Ev} (hf : Ev.OnPart f) (ho : ∀ v, (f v).p.outer = v.p.outer) (v : Ev) : v.Working (f v) := by
  refine ⟨?_, ho v⟩
  rw [hf v]

theorem Ev.OnPart.foldl {β : Type} {f : Ev → β → Ev} (hf : ∀ b, Ev.OnPart fun v => f v b) (l : List β) :
    Ev.OnPart fun v => l.foldl f v := by
  induction l with
  | nil => exact fun _ => rfl
  | cons b l ih => exact (hf b).comp ih

theorem Ev.OnPart.ite {c : Part → Bool} {f g : Ev → Ev} (hf : Ev.OnPart f) (hg : Ev.OnPart g) :
    Ev.OnPart fun v => if c v.p then f v else g v := fun v => by
  cases hc : c v.p with
  | true => simpa [hc, Ev.start] using hf v
  | false => simpa [hc, Ev.start] using hg v

theorem Ev.tellStill_onPart : Ev.OnPart Ev.tellStill :=
  Ev.OnPart.foldl (f := Ev.stillReport) (fun e => Ev.stillReport_onPart e) EngineId.all

theorem Ev.look_onPart : Ev.OnPart Ev.look := fun _ => rfl

theorem Ev.settleLink_onPart : Ev.OnPart Ev.settleLink := by
  let chosen : Ev → Ev := fun v => { v with p := (v.p.choose 2).2 }
  have hchosen : Ev.OnPart chosen := fun _ => rfl
  have hfree : Ev.OnPart fun v => if decide ((v.p.choose 2).1 = 0) then (chosen v).tellStill.look else (chosen v).look :=
    Ev.OnPart.ite (c := fun p => decide ((p.choose 2).1 = 0)) ((hchosen.comp Ev.tellStill_onPart).comp Ev.look_onPart)
      (hchosen.comp Ev.look_onPart)
  have hcalm : Ev.OnPart fun v => if v.look.p.relay.still then v.look.tellStill else v.look :=
    Ev.OnPart.ite (c := fun p => (Ev.start p).look.p.relay.still) (Ev.look_onPart.comp Ev.tellStill_onPart) Ev.look_onPart
  have hboth := Ev.OnPart.ite (c := fun p => EngineId.all.any (fun e => (p.engine e).stillWait) && p.relay.still && p.relay.wouldStart)
    hfree hcalm
  have heq : Ev.settleLink = fun v => if (EngineId.all.any (fun e => (v.p.engine e).stillWait) && v.p.relay.still && v.p.relay.wouldStart)
      then (if decide ((v.p.choose 2).1 = 0) then (chosen v).tellStill.look else (chosen v).look)
      else if v.look.p.relay.still then v.look.tellStill else v.look := funext fun v => by
    simp only [Ev.settleLink, chosen, decide_eq_true_eq]
  rw [heq]
  exact hboth

theorem Ev.turnOff_onPart (e : EngineId) : Ev.OnPart fun v => v.turnOff e := fun v => by
  have hleave : Ev.OnPart fun v : Ev => v.leaveQuiet e := fun v => by
    unfold Ev.leaveQuiet
    dsimp only [Ev.start]
    split
    · exact Ev.OnPart.comp (f := fun v : Ev => v.map fun p => p.setPlan e { p.plan e with quiet := false }) (fun _ => rfl)
        Ev.settleLink_onPart v
    · rfl
  exact Ev.OnPart.comp (f := fun v : Ev => (v.onEngine e Engine.quietDown).map fun p => p.disarm e) (fun _ => rfl) hleave v

section
variable {v : Ev}

theorem Ev.turnOff_working (v : Ev) (e : EngineId) : v.Working (v.turnOff e) :=
  (Ev.turnOff_onPart e).working (fun v => v.outer_turnOff e) v

theorem Ev.judgeReady_working (v : Ev) (e : EngineId) : v.Working (v.judgeReady e) :=
  (Ev.judgeReady_onPart e).working (fun v => v.outer_judgeReady e) v

theorem Ev.onEngine_working (v : Ev) (e : EngineId) (f : Engine → Engine) : v.Working (v.onEngine e f) := ⟨rfl, rfl⟩

theorem Ev.onScanner_working (v : Ev) (f : Scanner → Scanner) : v.Working (v.onScanner f) := ⟨rfl, rfl⟩

theorem Ev.append_working (hb : v.p.queue.block = 0) (r : ResultRecord) : v.Working (v.append r) := by
  rw [Ev.append_unstreamed hb]
  exact ⟨rfl, rfl⟩

theorem Ev.appendFinal_working (hb : v.p.queue.block = 0) (r : ResultRecord) : v.Working (v.appendFinal r) := by
  rw [Ev.appendFinal_unstreamed hb]
  exact ⟨rfl, rfl⟩

section
variable (hb : v.p.queue.block = 0)
include hb

theorem Ev.endScan_working (verdict : Verdict) (cause : Option Cause) (card : Option Nat) (faulted : Bool) :
    v.Working (v.endScan verdict cause card faulted) := by
  refine ⟨?_, v.outer_endScan verdict cause card faulted⟩
  unfold Ev.endScan
  split
  · rfl
  next info _ =>
    obtain ⟨hoff, -⟩ := (Ev.appendFinal_working hb (v.p.scanner.summary info verdict cause)).trans (Ev.turnOff_working _ info.engine)
    dsimp only
    rw [hoff]
    cases info.origin <;> rfl

theorem Ev.startTest_working (purpose : TestPurpose) (first last : Nat) : v.Working (v.startTest purpose first last) := by
  unfold Ev.startTest
  dsimp only
  split
  next info probe _ _ =>
    split
    · exact Ev.endScan_working hb _ _ _ _
    · split
      · exact Ev.endScan_working hb _ _ _ _
      next plan _ =>
        have hsent : v.Working (v.sendPlan info.engine plan).1 := ⟨rfl, v.outer_sendPlan info.engine plan⟩
        exact ((hsent.trans (Ev.onScanner_working _ _)).trans (Ev.onEngine_working _ info.engine _)).trans (Ev.judgeReady_working _ _)
  · exact .refl v

theorem Ev.appendPair_working (partner : Nat) (x : Evidence) : v.Working (v.appendPair partner x).1 := by
  unfold Ev.appendPair
  dsimp only
  split
  · exact .refl v
  next info _ =>
    have hpaired := (Ev.append_working hb (v.p.scanner.pairRecord info partner x)).trans (Ev.onScanner_working _ fun s =>
      { s.mark partner (.joined (s.netAt (s.probe.getD 0))) with pairs := s.pairs + 1 })
    split
    · exact hpaired.trans (Ev.endScan_working (hpaired.block.trans hb) _ _ _ _)
    · exact hpaired

theorem Ev.takeKnownShort_working (entry : StackEntry) (x : Evidence) : v.Working (v.takeKnownShort entry x).1 := by
  unfold Ev.takeKnownShort
  split
  · exact .refl v
  · unfold Ev.reportPartner
    split
    · exact Ev.appendPair_working hb _ x
    · dsimp only
      split
      · exact ⟨rfl, rfl⟩
      · exact ⟨rfl, rfl⟩
  · exact Ev.startTest_working hb _ _ _

end

theorem Ev.nextWorkAux_working (n : Nat) {v : Ev} (hb : v.p.queue.block = 0) : v.Working (v.nextWorkAux n) := by
  induction n generalizing v with
  | zero => exact .refl v
  | succ n ih =>
    unfold Ev.nextWorkAux
    dsimp only
    split
    next top rest _ =>
      have hpopped := Ev.onScanner_working v fun s => { s with stack := rest }
      split
      next x _ =>
        have htaken := hpopped.trans (Ev.takeKnownShort_working (hpopped.block.trans hb) top x)
        split
        · exact htaken.trans (ih (htaken.block.trans hb))
        · exact htaken
      · split
        · exact hpopped.trans (ih (hpopped.block.trans hb))
        · exact hpopped.trans (Ev.startTest_working (hpopped.block.trans hb) _ _ _)
    · split
      · exact Ev.endScan_working hb _ _ _ _
      next i _ =>
        have hprobed := Ev.onScanner_working v fun s => { s.mark i .probed with probe := some i }
        split
        · exact hprobed.trans (Ev.endScan_working (hprobed.block.trans hb) _ _ _ _)
        · exact hprobed.trans (Ev.startTest_working (hprobed.block.trans hb) _ _ _)

theorem Ev.nextWork_working (hb : v.p.queue.block = 0) : v.Working v.nextWork := Ev.nextWorkAux_working _ hb

end

/-! ### Work popped from the stack (R145) -/

theorem Ev.append_scanner (v : Ev) (r : ResultRecord) : (v.append r).p.scanner = v.p.scanner := by
  obtain ⟨q, hp, -⟩ := v.append_spec r
  rw [hp]

/-- A report that lets the Scanner go on leaves its stack. -/
theorem Ev.takeKnownShort_stack {v : Ev} {entry : StackEntry} {x : Evidence} (h : (v.takeKnownShort entry x).2 = true) :
    (v.takeKnownShort entry x).1.p.scanner.stack = v.p.scanner.stack := by
  unfold Ev.takeKnownShort at h ⊢
  split at h
  · rfl
  · unfold Ev.reportPartner at h ⊢
    split at h
    next hfree =>
      unfold Ev.appendPair at h ⊢
      dsimp only at h ⊢
      rw [if_pos hfree]
      split at h
      · cases h
      · split at h
        · cases h
        next hlimit =>
          rw [if_neg hlimit]
          exact (congrArg Scanner.stack (v.append_scanner _) :)
    · dsimp only at h
      split at h <;> cases h
  · cases h

section
variable {v : Ev} {top : StackEntry} {rest : List StackEntry} (h : v.p.scanner.stack = top :: rest)
include h

/-- A KNOWN_SHORT entry popped. -/
theorem Ev.nextWork_short {x : Evidence} (hx : top.evidence = some x) :
    let taken := (v.onScanner fun s => { s with stack := rest }).takeKnownShort top x
    v.nextWork = if taken.2 then taken.1.nextWork else taken.1 := by
  intro taken
  have haux : v.nextWork = if taken.2 then Ev.nextWorkAux (rest.length + 2) taken.1 else taken.1 := by
    unfold Ev.nextWork
    rw [h, List.length_cons]
    conv => lhs; unfold Ev.nextWorkAux
    dsimp only
    rw [h]
    dsimp only
    rw [hx]
  rw [haux]
  by_cases hmore : taken.2 = true
  · have hstack : taken.1.p.scanner.stack = rest := Ev.takeKnownShort_stack hmore
    rw [if_pos hmore, if_pos hmore, Ev.nextWork, hstack]
  · rw [if_neg hmore, if_neg hmore]

/-- An UNKNOWN entry popped. -/
theorem Ev.nextWork_unknown (hx : top.evidence = none) :
    let popped := v.onScanner fun s => { s with stack := rest }
    v.nextWork = if v.p.scanner.run top.first top.last = [] then popped.nextWork
      else popped.startTest (.unknownEntry top) top.first top.last := by
  intro popped
  unfold Ev.nextWork
  rw [h, List.length_cons]
  conv => lhs; unfold Ev.nextWorkAux
  dsimp only
  rw [h]
  dsimp only
  rw [hx]
  rfl

end

/-! ### The start of a scan (R143) -/

/-- The part of a SCAN step's dispatch, the Scanner given its step and its list. -/
def Part.scanBegun (p : Part) (e : EngineId) (origin : Option Nat) (r : StepRecord) : Part :=
  let g := p.engine e
  { p with
    queue := { p.queue with reserved := p.queue.reserved + 1 }
    disp := { p.disp with
      inFlight := p.disp.inFlight.set e
        (some ⟨origin, r, p.scanNets r.high r.low, [], none, false, false, false, [], none⟩) }
    ring := match origin with
      | some i => (p.ring.setState i .active).advanceNext
      | none => p.ring
    engines := p.engines.set e { Engine.reset with
      sequence := g.sequence, threshold := g.threshold, parted := g.parted, state := .active, phase := some .connect,
      work := some ⟨origin, r, none, false, false⟩, effCurrent := r.current,
      n := if r.count = 0 then 256 else r.count, settle := max r.settle 20, discharge := max r.discharge 100 }
    scanner := { Scanner.reset with state := .testing, scan := some ⟨origin, e, r⟩, members := p.scanList r } }

theorem Part.beginStep_scan (p : Part) (e : EngineId) (origin : Option Nat) {r : StepRecord} (hk : r.kind = .scan) :
    { p.beginStep e (p.entryOf origin r none) with scanner := (p.scanBegun e origin r).scanner } = p.scanBegun e origin r := by
  have htemplate : p.templateNets r = [] := by
    have hcode : r.templateCode = none := if_pos (.inl hk)
    unfold Part.templateNets
    rw [hcode]
  have hentry : p.entryOf origin r none = ⟨origin, r, p.scanNets r.high r.low, [], none, false, false, false, [], none⟩ := by
    have htrimmed : p.trimmedGuards r = [] := by rw [Part.trimmedGuards, htemplate]; rfl
    unfold Part.entryOf
    rw [if_pos hk, htrimmed, htemplate, Part.netSet, if_pos hk]
    rfl
  have hcurrent : p.entryCurrent (p.entryOf origin r none) = (r.current, false) := if_pos hk
  rw [Part.beginStep_eq, hcurrent, hentry]
  rfl

/-- The dispatch of a SCAN step is its start. -/
theorem Ev.dispatch_scan (v : Ev) (e : EngineId) (origin : Option Nat) {r : StepRecord} (hk : r.kind = .scan) :
    v.dispatch e origin r = ({ v with p := v.p.scanBegun e origin r } : Ev).nextWork := by
  have hlist : (v.p.beginStep e (v.p.entryOf origin r none)).scanList r = v.p.scanList r := by
    rw [Part.beginStep_eq]
    rfl
  unfold Ev.dispatch
  rw [if_pos hk]
  have hstart : (v.map fun p => p.beginStep e (p.entryOf origin r none)).startScan ⟨origin, e, r⟩ =
      ({ v with p := { v.p.beginStep e (v.p.entryOf origin r none) with
        scanner := { Scanner.reset with
          state := .testing, scan := some ⟨origin, e, r⟩
          members := (v.p.beginStep e (v.p.entryOf origin r none)).scanList r } } } : Ev).nextWork := rfl
  rw [hstart, hlist]
  exact congrArg (fun p : Part => Ev.nextWork { v with p := p }) (v.p.beginStep_scan e origin hk)

/-! ### Removals in WAITING_SPACE (R157) -/

theorem Ev.scannerRemoval_ignored {v : Ev}
    (h : v.p.scanner.state ≠ .waitingSpace ∨ v.p.scanner.pendingPair = none ∨ v.p.recordFree = false) : v.scannerRemoval = v := by
  unfold Ev.scannerRemoval
  dsimp only
  split
  next hs hp =>
    rcases h with h | h | h
    · exact absurd hs h
    · cases h.symm.trans hp
    · exact if_neg (by simp [h])
  · rfl

theorem Ev.scannerRemoval_reports {v : Ev} {info : ScanInfo} {partner : Nat} {x : Evidence}
    (hstate : v.p.scanner.state = .waitingSpace) (hpair : v.p.scanner.pendingPair = some (partner, x))
    (hs : v.p.scanner.scan = some info) (hfree : v.p.recordFree = true) (hb : v.p.queue.block = 0) :
    v.scannerRemoval = if v.p.scanner.pairs = 255 then (v.pendingReported info partner x).endScan .limit none none false
      else (v.pendingReported info partner x).nextWork := by
  let back : Ev := v.onScanner fun s => { s with state := .testing, pendingPair := none }
  have hpaired : back.paired info partner x = v.pendingReported info partner x := rfl
  have happended := Ev.appendPair_eq (v := back) hs hb partner x
  rw [hpaired] at happended
  have hremoval : v.scannerRemoval =
      if (back.appendPair partner x).2 then (back.appendPair partner x).1.nextWork else (back.appendPair partner x).1 := by
    unfold Ev.scannerRemoval
    dsimp only
    split
    next q y hs' hp =>
      cases hpair.symm.trans hp
      rw [if_pos hfree]
    next h => exact absurd hpair (h _ _ hstate)
  rw [hremoval, happended]
  by_cases hlimit : v.p.scanner.pairs = 255
  · rw [if_pos (show back.p.scanner.pairs = 255 from hlimit), if_pos hlimit]
    exact if_neg Bool.false_ne_true
  · rw [if_neg (show ¬ back.p.scanner.pairs = 255 from hlimit), if_neg hlimit]
    exact if_pos rfl

theorem Ev.pendingReported_working (v : Ev) (info : ScanInfo) (partner : Nat) (x : Evidence) :
    v.Working (v.pendingReported info partner x) := ⟨rfl, rfl⟩

/-! ### The statement -/

/-- Settles O50: a scan's work leaves the frames and asks of its event alone, so the removal's event closes with its reply. -/
theorem scansStartPopAndResume : Obligations.ScansStartPopAndResume := by
  refine ⟨fun v e origin r hk => ?_, fun v top rest hstack => ?_, fun v => ?_, ?_⟩
  · exact v.dispatch_scan e origin hk
  · exact ⟨fun x hx => Ev.nextWork_short hstack hx, fun hx => Ev.nextWork_unknown hstack hx⟩
  · exact ⟨Ev.scannerRemoval_ignored, fun info partner x hstate hpair hs hfree hb =>
      Ev.scannerRemoval_reports hstate hpair hs hfree hb⟩
  · intro s number code info partner x h p n rest reply taken event after hn hn' hrecords hs hstate hpair hlimit hfree hb hrun hd hafter
    have hlen : RequestKind.resultsRead.bodyLength = some [code].length ∨ RequestKind.resultsRead.bodyLength = none := .inl rfl
    have htake : p.queue.records.take n ≠ [] := by
      rw [ne_eq, List.take_eq_nil_iff]
      rintro (h0 | h0)
      · omega
      · exact hrecords h0
    have hbyte : byteAt [code] 0 = n := rfl
    have hact : owner .resultsRead [code] (Ev.start (s.part.taking number 0x50)) = { event with askRemoval := true } := by
      change ownResultsRead [code] (Ev.start (s.part.taking number 0x50)) = _
      unfold ownResultsRead
      dsimp only
      rw [hbyte, if_neg (by omega)]
      exact if_neg htake
    have hremoved : event.scannerRemoval = after :=
      (Ev.scannerRemoval_reports (v := event) hstate hpair hs hfree hb).trans (if_neg hlimit)
    obtain ⟨hsame, houter⟩ := (event.pendingReported_working info partner x).trans (Ev.nextWork_working hb)
    have hasks : after.askRemoval = false ∧ after.frames = [reply] ∧ after.askRemainder = false := by
      rw [show after = _ from hsame]
      exact ⟨rfl, rfl, rfl⟩
    obtain ⟨hremoval, hframes, hremainder⟩ := hasks
    have hdisp : after.p.disp = p.disp := (congrArg Outer.disp houter :)
    have hturn : ({ event with askRemoval := true } : Ev).settle settleFuel = after.settle (settleFuel - 1) := by
      rw [← hremoved]
      exact Ev.settle_removal { event with askRemoval := true } 5999 rfl rfl
    have hclose : ({ event with askRemoval := true } : Ev).close = after.finished (settleFuel - 1) := by
      unfold Ev.close Ev.finished
      dsimp only
      rw [hturn]
    refine exec_requestOf_taken .resultsRead h hlen ((congrArg Ev.close hact).trans (hclose.trans ?_))
    rw [← hframes]
    exact Ev.finished_idle hafter (.inl hremoval) (fun u hu => Ev.evaluate_quiet u (by rw [hu, hdisp]; exact hrun)
      (by rw [hu, hdisp]; exact hd)) (.inl hremainder) _

end Sys2Proof.Machine

/-! PROOFS. What an engine that serves a scan tells the Scanner, and the faults that end a scan (R115, R120, R126, R160, R161). -/

namespace Sys2Proof.Machine

/-- An event that goes on as another event of another state of the part. -/
theorem event_through {s : State} {q : Part} {act f : Ev → Ev} (h : act (Ev.start s.part) = f (Ev.start q)) :
    event s act = event { s with part := q } f := by
  unfold event
  rw [h]

theorem Engine.scanning_eq_true {g : Engine} {w : Work} (hw : g.work = some w) (hk : w.record.kind = .scan) :
    g.scanning = true := by
  rw [Engine.scanning_of_work hw]
  exact decide_eq_true hk

/-! ### The last sample (R126) -/

/-- INTEGRATE of a scan test ends with the report of what was sampled. -/
theorem Ev.endIntegrate_scan {v : Ev} {e : EngineId} {g : Engine} {w : Work} (hw : g.work = some w) (hk : w.record.kind = .scan) :
    (v.withEngine e g).endIntegrate e =
      ((v.withEngine e { g with interval := none, stimulus := none }).leaveQuiet e).testReport
        (.sampled g.sampleSum g.n g.clip) := by
  have hoff : (v.withEngine e g).onEngine e (fun g => { g with interval := none, stimulus := none }) =
      v.withEngine e { g with interval := none, stimulus := none } := Ev.withEngine_onEngine _ _ _ _
  unfold Ev.endIntegrate
  dsimp only
  rw [hoff, Ev.withEngine_engine, hw]
  exact if_pos hk

section
variable {p : Part} {v : Ev} {e : EngineId} {w : Work}

theorem Ev.sampleArrives_scan (hw : (p.engine e).work = some w) (hk : w.record.kind = .scan) {number : Nat}
    (hp : (p.engine e).phase = some .integrate) (hr : (p.engine e).request = some number)
    (hn : (p.engine e).sampleCount + 1 = (p.engine e).n) (code : Int) :
    let g := { (p.engine e).summed code with interval := none, stimulus := none }
    (Ev.start p).sampleArrives e number code =
      ((Ev.start (p.setEngine e g)).leaveQuiet e).testReport (.sampled g.sampleSum g.n g.clip) := by
  intro g
  exact (Ev.sampleArrives_integrate (v := Ev.start p) hr hp code).trans
    ((if_pos hn).trans (Ev.endIntegrate_scan (g := (p.engine e).summed code) hw hk))

/-! ### Compliance and the sample timeout (R115, R120, R160) -/

theorem Ev.complianceReported_scan (hw : (p.engine e).work = some w) (hk : w.record.kind = .scan)
    (hs : (p.engine e).stimulus ≠ none) (hp : (p.engine e).phase ≠ some .ramp) (hq : (p.plan e).quiet = false) :
    (Ev.start p).complianceReported e =
      (Ev.start ((p.disarm e).setEngine e (p.engine e).quietDown.discardSums)).testReport .openCircuit := by
  have hscan : ((Ev.start p).p.engine e).scanning = true := Engine.scanning_eq_true hw hk
  rw [Ev.complianceReported_open (v := Ev.start p) hs hp, hscan, Ev.turnOff_discard (v := Ev.start p) hq]
  rfl

theorem Ev.sampleTimesOut_scan (hw : (p.engine e).work = some w) (hk : w.record.kind = .scan) {due : Nat}
    (ht : (p.engine e).timeout = some due) (hq : (p.plan e).quiet = false) :
    (Ev.start p).sampleTimesOut e =
      (Ev.start (((p.reach due).disarm e).setEngine e (p.engine e).quietDown.discardSums)).endScan .fault
        (some .engineTimeout) none true := by
  have hoff := Ev.turnOff_discard (v := Ev.start (p.reach due)) (e := e) hq
  unfold Ev.sampleTimesOut
  dsimp only
  rw [show ((Ev.start p).p.engine e).timeout = some due from ht,
    show ((Ev.start p).p.engine e).scanning = true from Engine.scanning_eq_true hw hk]
  exact congrArg (fun v : Ev => v.endScan .fault (some .engineTimeout) none true) hoff

/-! ### Card faults (R121, R161) -/

/-- A card fault ends the scan of an engine that takes it. -/
theorem Ev.cardFault_scan (hactive : (v.p.engine e).state = .active) (hdischarge : (v.p.engine e).phase ≠ some .abortDischarge)
    (hresult : (v.p.engine e).phase ≠ some .resultWait) (hw : (v.p.engine e).work = some w) (hk : w.record.kind = .scan)
    (hq : (v.p.plan e).quiet = false) (card : Nat) :
    v.cardFault e card = Ev.endScan { v with p := (v.p.disarm e).setEngine e (v.p.engine e).quietDown } .fault
      (some .cardFault) (some card) false := by
  have htakes : (v.p.engine e).takesCardFault = true := by simp [Engine.takesCardFault, hactive, hdischarge, hresult]
  refine (if_pos htakes).trans ?_
  rw [Engine.scanning_eq_true hw hk, Ev.turnOff_of_not_quiet hq]
  rfl

/-- A card that is not acknowledged ends the scan whose plan uses it, before connection ready is judged. -/
theorem Ev.cardFailing_scan {card start : Nat} (hplanned : p.relay.plannedTo card = some e)
    (hactive : (p.engine e).state = .active) (hdischarge : (p.engine e).phase ≠ some .abortDischarge)
    (hresult : (p.engine e).phase ≠ some .resultWait) (hw : (p.engine e).work = some w) (hk : w.record.kind = .scan)
    (hq : (p.plan e).quiet = false) :
    let q := p.reach (start + 4000)
    let broken : Part := { q with relay := { q.relay.failCard card with expired := some q.time.tick } }
    Ev.cardFailing p card start = Ev.endScan { Ev.start ((broken.disarm e).setEngine e (p.engine e).quietDown) with
      first := [.notice (.card card q.time.tick (p.relay.card card).operations (some e))] } .fault
        (some .cardFault) (some card) false := by
  intro q broken
  let told : Ev := { Ev.start broken with
    first := [.notice (.card card q.time.tick (p.relay.card card).operations (some e))] }
  have hplan : broken.plan e = (p.plan e).loseFailed card := PerEngine.get_mapIdx _ _ _
  have hquiet : (broken.plan e).quiet = false := by rw [hplan]; exact hq
  have hends := Ev.cardFault_scan (v := told) hactive hdischarge hresult hw hk hquiet card
  unfold Ev.cardFailing
  dsimp only
  rw [hplanned]
  exact hends

/-- The lowest FAILED card of a list is the FAILED card on it below which none is. -/
theorem Part.lowestFailed_eq_some {cards : List Nat} {c : Nat} : p.lowestFailed cards = some c ↔
    (c < 64 ∧ c ∈ cards ∧ (p.card c).status = .failed) ∧ ∀ d, d < c → d ∈ cards → (p.card d).status ≠ .failed := by
  unfold Part.lowestFailed
  rw [List.find?_range_eq_some]
  simp only [Config.cards, List.mem_range, Bool.and_eq_true, decide_eq_true_eq, Bool.not_eq_true', Bool.and_eq_false_iff,
    decide_eq_false_iff_not, ← imp_iff_not_or]
  tauto

end

/-- Settles O52: each command is the Scanner's function of a part in which its engine is off. -/
theorem scanEnginesReportToTheScanner : Obligations.ScanEnginesReportToTheScanner := by
  refine ⟨fun s e w => ?_, fun v e w card => ?_, fun p cards c => Part.lowestFailed_eq_some, fun v info i purpose first last => ?_⟩
  · intro p g off does hw hk
    refine ⟨fun number code hp hr hn => ?_, fun hs hp hq => ?_, fun due ht hq => ?_,
      fun card start image hlink hplanned hactive hdischarge hresult hq => ?_⟩
    · exact event_through (f := fun v => (v.leaveQuiet e).testReport _) (Ev.sampleArrives_scan hw hk hp hr hn code.toInt)
    · exact event_through (f := fun v => v.testReport .openCircuit) (Ev.complianceReported_scan hw hk hs hp hq)
    · exact event_through (f := fun v => v.endScan .fault (some .engineTimeout) none true) (Ev.sampleTimesOut_scan hw hk ht hq)
    · intro q broken
      refine event_through ?_
      rw [Ev.ackTimesOut_eq hlink, Ev.cardFailing_scan hplanned hactive hdischarge hresult hw hk hq]
      rfl
  · intro g takes
    refine ⟨fun hno => Ev.cardFault_ignored ?_ card, fun ⟨hactive, hdischarge, hresult⟩ hw hk hq =>
      Ev.cardFault_scan hactive hdischarge hresult hw hk hq card⟩
    by_contra h
    push Not at h
    exact hno h
  · intro p s ends hs hp
    exact ⟨fun c hf => Ev.startTest_lowestFailed hs hp hf, fun net hf hplan => Ev.startTest_unserved hs hp hf hplan⟩

end Sys2Proof.Machine
